-- ==== Sys2Proof/Word.lean ====
section
/-! DEFINITION. The word types of the module and the numbers of its units (R1, R12, R14, R271). -/

namespace Sys2Proof

/-- A scalar register, a system register, a doubleword of memory (R111). -/
abbrev Word := BitVec 64
/-- One byte of memory. -/
abbrev Byte := BitVec 8
/-- One palette line, which is also one tile-area row (R84). -/
abbrev Line := BitVec 512
/-- A five-bit register field of an instruction word (R119). -/
abbrev Reg := BitVec 5

/-- COREID[20:0] of a core: ridge-die cores 0 to 2^20 − 1, then the boot cores (R132, R199). -/
abbrev CoreId := Fin 1048580
/-- A cluster's reset-domain index, COREID[19:4] (R304). -/
abbrev ClusterId := Fin 65536
/-- A spur's domain number (R271). -/
abbrev SpurId := Fin 1024
/-- A stack and its plinth (R12). -/
abbrev PlinthId := Fin 32
/-- A saddle die (R12). -/
abbrev SaddleId := Fin 8
/-- A ridge die (R11). -/
abbrev RidgeId := Fin 16
/-- A scale-out port P0 to P5 (R23). -/
abbrev PortId := Fin 6
/-- A serial link: the scale-out ports 0 to 5, and 6 for the Shutik link (R366). -/
abbrev LinkId := Fin 7
/-- A timing domain number of R271. -/
abbrev DomainNo := Fin 1123

end Sys2Proof
end

