-- ==== Sys2Proof/Syntax.lean ====
section
/-! DEFINITION. The commands of the module: one constructor of `Instr` for each row of the table of operations and
events, with the row's operands. A core's instruction names its core and carries the fields of its encoding; an
event of the module names the unit where it happens; a frame, a datagram or a dictionary access carries its
contents. Every constructor's row stands in the comment at the end of its line. -/

namespace Sys2Proof

/-- The fields of the vector format (R155). -/
structure VF where
  vd : Reg
  vs1 : Reg
  vs2 : Reg
  km : BitVec 3
  x : Bool
deriving DecidableEq, Repr

/-- A reset domain (R304). -/
inductive Dom where
  | cluster (k : ClusterId)
  | spur (d : SpurId)
  | ridge (r : RidgeId)
  | saddle (n : SaddleId)
  | module
deriving DecidableEq, Repr

/-- A block that is asked at the entry to Nap or Hold (R387). -/
inductive Block where
  | cluster (k : ClusterId)
  | ridge (r : RidgeId)
  | saddle (n : SaddleId)
  | plinth (p : PlinthId)
deriving DecidableEq, Repr

/-- Who writes or reads a dictionary object, or holds the semaphore (R426, R412). -/
inductive Master where
  | core (c : CoreId)
  | remote (dev : BitVec 12) (core : BitVec 21)
  | host
  | session (portB : Bool) (sid : BitVec 16)
  | summit
deriving DecidableEq, Repr

/-- A traverse frame after its TYPE (R348): the header's fields and the data flits. -/
structure Frame where
  fcrc : BitVec 16 := 0
  dest : BitVec 12
  src : BitVec 12
  tag : BitVec 16
  line : BitVec 45
  hops : BitVec 5
  vcb : Bool
  aux : BitVec 16
  flits : List (BitVec 128)
deriving DecidableEq, Repr

/-- A Shutik frame after its TYPE (R367); LEN is the length of `flits`. -/
structure HFrame where
  fcrc : BitVec 16 := 0
  buf : BitVec 6
  seq : BitVec 12
  addr : BitVec 52
  tag : BitVec 16
  aux : BitVec 16
  flits : List (BitVec 128)
deriving DecidableEq, Repr

/-- A manager frame as it arrives at a port: its header and data flits (R348). What it says is the command's other operands, since
the manual lays out none of it (R349). -/
structure MHead where
  port : PortId
  f : Frame
deriving DecidableEq, Repr

/-- A dictionary datagram as it reaches a management port (R420). LENGTH is the length of `data`;
`iid` is the interface identifier of the client's address (R429). -/
structure Dgram where
  portB : Bool
  ver : Byte
  type : Byte
  sid : BitVec 16
  seq : BitVec 32
  index : BitVec 16
  sub : Byte
  status : Byte
  offset : BitVec 32
  aux : BitVec 16
  data : List Byte
  tag : List Byte
  /-- the interface identifier of the sender's address -/
  iid : Word
  /-- LENGTH as the datagram carries it (R420), the rest of its two addresses, and its UDP ports (R418) -/
  length : BitVec 16 := BitVec.ofNat 16 data.length
  srcPrefix : Word := 0xFE80000000000000
  dstPrefix : Word := 0xFE80000000000000
  dstIid : Word
  srcPort : BitVec 16 := 48211
  dstPort : BitVec 16 := 48211
deriving DecidableEq, Repr

/-- What the rim of a napping spur holds for one of its cores (R392). -/
inductive HeldEvent where
  | irq (source : BitVec 3)
  | store (offset : BitVec 6) (value : Word)
  | load (offset : BitVec 6)
deriving DecidableEq, Repr

/-- The temperatures of one sample, in m°C (R435, R469). -/
structure Temps where
  ridge : List Int
  saddle : List Int
  summit : Int
  stack : List Int
  inlet : Int
  outlet : Int
deriving DecidableEq, Repr

/-- The commands. An operand with a default is one that an event need not carry: the beat of an arrival that nothing delays, or the head
of a manager frame, which a report of the module's own summit does not have. -/
inductive Instr where
  | add (c : CoreId) (rd rs1 rs2 : Reg) -- ADD
  | sub (c : CoreId) (rd rs1 rs2 : Reg) -- SUB
  | and (c : CoreId) (rd rs1 rs2 : Reg) -- AND
  | or (c : CoreId) (rd rs1 rs2 : Reg) -- OR
  | xor (c : CoreId) (rd rs1 rs2 : Reg) -- XOR
  | sll (c : CoreId) (rd rs1 rs2 : Reg) -- SLL
  | srl (c : CoreId) (rd rs1 rs2 : Reg) -- SRL
  | sra (c : CoreId) (rd rs1 rs2 : Reg) -- SRA
  | slt (c : CoreId) (rd rs1 rs2 : Reg) -- SLT
  | sltu (c : CoreId) (rd rs1 rs2 : Reg) -- SLTU
  | min (c : CoreId) (rd rs1 rs2 : Reg) -- MIN
  | max (c : CoreId) (rd rs1 rs2 : Reg) -- MAX
  | minu (c : CoreId) (rd rs1 rs2 : Reg) -- MINU
  | maxu (c : CoreId) (rd rs1 rs2 : Reg) -- MAXU
  | addi (c : CoreId) (rd rs1 : Reg) (imm : BitVec 16) -- ADDI
  | slti (c : CoreId) (rd rs1 : Reg) (imm : BitVec 16) -- SLTI
  | sltiu (c : CoreId) (rd rs1 : Reg) (imm : BitVec 16) -- SLTIU
  | andi (c : CoreId) (rd rs1 : Reg) (imm : BitVec 16) -- ANDI
  | ori (c : CoreId) (rd rs1 : Reg) (imm : BitVec 16) -- ORI
  | xori (c : CoreId) (rd rs1 : Reg) (imm : BitVec 16) -- XORI
  | slli (c : CoreId) (rd rs1 : Reg) (sh : BitVec 6) -- SLLI
  | srli (c : CoreId) (rd rs1 : Reg) (sh : BitVec 6) -- SRLI
  | srai (c : CoreId) (rd rs1 : Reg) (sh : BitVec 6) -- SRAI
  | lui (c : CoreId) (rd : Reg) (imm : BitVec 21) -- LUI
  | auipc (c : CoreId) (rd : Reg) (imm : BitVec 21) -- AUIPC
  | mul (c : CoreId) (rd rs1 rs2 : Reg) -- MUL
  | mulh (c : CoreId) (rd rs1 rs2 : Reg) -- MULH
  | mulhu (c : CoreId) (rd rs1 rs2 : Reg) -- MULHU
  | mulhsu (c : CoreId) (rd rs1 rs2 : Reg) -- MULHSU
  | crc32c (c : CoreId) (rd rs1 rs2 : Reg) (w : BitVec 2) -- CRC32C
  | crc64 (c : CoreId) (rd rs1 rs2 : Reg) (w : BitVec 2) -- CRC64
  | parity (c : CoreId) (rd rs1 : Reg) (w : BitVec 2) -- PARITY
  | brev (c : CoreId) (rd rs1 : Reg) (w : BitVec 2) -- BREV
  | clz (c : CoreId) (rd rs1 : Reg) (w : BitVec 2) -- CLZ
  | ctz (c : CoreId) (rd rs1 : Reg) (w : BitVec 2) -- CTZ
  | popc (c : CoreId) (rd rs1 : Reg) (w : BitVec 2) -- POPC
  | ldB (c : CoreId) (rd rs1 : Reg) (imm : BitVec 16) -- LD_B
  | ldBu (c : CoreId) (rd rs1 : Reg) (imm : BitVec 16) -- LD_BU
  | ldH (c : CoreId) (rd rs1 : Reg) (imm : BitVec 16) -- LD_H
  | ldHu (c : CoreId) (rd rs1 : Reg) (imm : BitVec 16) -- LD_HU
  | ldW (c : CoreId) (rd rs1 : Reg) (imm : BitVec 16) -- LD_W
  | ldWu (c : CoreId) (rd rs1 : Reg) (imm : BitVec 16) -- LD_WU
  | ldD (c : CoreId) (rd rs1 : Reg) (imm : BitVec 16) -- LD_D
  | stB (c : CoreId) (rs2 rs1 : Reg) (imm : BitVec 16) -- ST_B
  | stH (c : CoreId) (rs2 rs1 : Reg) (imm : BitVec 16) -- ST_H
  | stW (c : CoreId) (rs2 rs1 : Reg) (imm : BitVec 16) -- ST_W
  | stD (c : CoreId) (rs2 rs1 : Reg) (imm : BitVec 16) -- ST_D
  | pref (c : CoreId) (hint rs1 : Reg) (imm : BitVec 16) -- PREF
  | lr (c : CoreId) (rd rs1 : Reg) (aq dbl : Bool) -- LR
  | sc (c : CoreId) (rd rs1 rs2 : Reg) (rl dbl : Bool) -- SC
  | fenceL (c : CoreId) -- FENCE_L
  | fenceM (c : CoreId) -- FENCE_M
  | fenceG (c : CoreId) -- FENCE_G
  | fenceI (c : CoreId) -- FENCE_I
  | beq (c : CoreId) (rs1 rs2 : Reg) (off : BitVec 16) -- BEQ
  | bne (c : CoreId) (rs1 rs2 : Reg) (off : BitVec 16) -- BNE
  | blt (c : CoreId) (rs1 rs2 : Reg) (off : BitVec 16) -- BLT
  | bge (c : CoreId) (rs1 rs2 : Reg) (off : BitVec 16) -- BGE
  | bltu (c : CoreId) (rs1 rs2 : Reg) (off : BitVec 16) -- BLTU
  | bgeu (c : CoreId) (rs1 rs2 : Reg) (off : BitVec 16) -- BGEU
  | jal (c : CoreId) (off : BitVec 26) -- JAL
  | jalr (c : CoreId) (rd rs1 : Reg) (imm : BitVec 16) -- JALR
  | loop (c : CoreId) (rs1 : Reg) (lenm1 : BitVec 11) -- LOOP
  | sysr (c : CoreId) (rd : Reg) (sr : BitVec 12) -- SYSR
  | sysw (c : CoreId) (rd rs1 : Reg) (sr : BitVec 12) -- SYSW
  | syss (c : CoreId) (rd rs1 : Reg) (sr : BitVec 12) -- SYSS
  | sysc (c : CoreId) (rd rs1 : Reg) (sr : BitVec 12) -- SYSC
  | syscall (c : CoreId) -- SYSCALL
  | sret (c : CoreId) -- SRET
  | sretSkip (c : CoreId) -- SRET_SKIP
  | noint (c : CoreId) (nm1 : BitVec 8) -- NOINT
  | unclaimedCoprocessor (c : CoreId) (word : BitVec 32) -- UNCLAIMED_COPROCESSOR
  | sigcAdd (c : CoreId) (rs1 rs2 : Reg) (q : Bool) -- SIGC_ADD
  | sigcDec (c : CoreId) (rs1 rs2 : Reg) (q : Bool) -- SIGC_DEC
  | waitcGe (c : CoreId) (rs1 rs2 : Reg) (q : Bool) -- WAITC_GE
  | waitcBar (c : CoreId) (rs1 : Reg) (q : Bool) -- WAITC_BAR
  | nmc (c : CoreId) (op : BitVec 4) (rg rc : Reg) -- NMC
  | tmma (c : CoreId) (tc ta tb : BitVec 3) (acc : Bool) (var : BitVec 2) (mm1 nm1 : Reg) -- TMMA
  | tmmap (c : CoreId) (tc ta tb : BitVec 3) (acc : Bool) (mm1 nm1 : Reg) -- TMMAP
  | tmmaq (c : CoreId) (tc ta tb : BitVec 3) (acc : Bool) (mm1 nm1 : Reg) -- TMMAQ
  | tfence (c : CoreId) -- TFENCE
  | canvasSlotRun (c : CoreId) -- CANVAS_SLOT_RUN
  | canvasMapCommit (k : ClusterId) -- CANVAS_MAP_COMMIT
  | mapCommitApply (k : ClusterId) -- MAP_COMMIT_APPLY
  | tcfg (c : CoreId) (vs : Reg) -- TCFG
  | tcfgrd (c : CoreId) (vd : Reg) -- TCFGRD
  | tld (c : CoreId) (tn : BitVec 3) (rs1 rs2 : Reg) (rsel : BitVec 2) (ca : Bool) -- TLD
  | tst (c : CoreId) (tn : BitVec 3) (rs1 rs2 : Reg) (rsel : BitVec 2) (ca : Bool) -- TST
  | tileRowArrival (c : CoreId) -- TILE_ROW_ARRIVAL
  | tileStoreRowAccept (c : CoreId) -- TILE_STORE_ROW_ACCEPT
  | tmvv (c : CoreId) (vd : Reg) (tn : BitVec 3) (rs1 : Reg) -- TMVV
  | tmvt (c : CoreId) (tn : BitVec 3) (vs rs1 : Reg) -- TMVT
  | vsetvl (c : CoreId) (rd rs1 : Reg) (gfl sew ft : BitVec 2) -- VSETVL
  | vadd (c : CoreId) (f : VF) -- VADD
  | vsub (c : CoreId) (f : VF) -- VSUB
  | vmul (c : CoreId) (f : VF) -- VMUL
  | vmulh (c : CoreId) (f : VF) -- VMULH
  | vmulhu (c : CoreId) (f : VF) -- VMULHU
  | vand (c : CoreId) (f : VF) -- VAND
  | vor (c : CoreId) (f : VF) -- VOR
  | vxor (c : CoreId) (f : VF) -- VXOR
  | vsll (c : CoreId) (f : VF) -- VSLL
  | vsrl (c : CoreId) (f : VF) -- VSRL
  | vsra (c : CoreId) (f : VF) -- VSRA
  | vmin (c : CoreId) (f : VF) -- VMIN
  | vmax (c : CoreId) (f : VF) -- VMAX
  | vminu (c : CoreId) (f : VF) -- VMINU
  | vmaxu (c : CoreId) (f : VF) -- VMAXU
  | vmv (c : CoreId) (f : VF) -- VMV
  | vbcast (c : CoreId) (f : VF) -- VBCAST
  | vsel (c : CoreId) (f : VF) -- VSEL
  | vfadd (c : CoreId) (f : VF) -- VFADD
  | vfsub (c : CoreId) (f : VF) -- VFSUB
  | vfmul (c : CoreId) (f : VF) -- VFMUL
  | vfma (c : CoreId) (f : VF) -- VFMA
  | vfdiv (c : CoreId) (f : VF) -- VFDIV
  | vfsqrt (c : CoreId) (f : VF) -- VFSQRT
  | vfmin (c : CoreId) (f : VF) -- VFMIN
  | vfmax (c : CoreId) (f : VF) -- VFMAX
  | vfsgnj (c : CoreId) (f : VF) -- VFSGNJ
  | vfsgnjn (c : CoreId) (f : VF) -- VFSGNJN
  | vfsgnjx (c : CoreId) (f : VF) -- VFSGNJX
  | vwmul (c : CoreId) (f : VF) -- VWMUL
  | vwmulu (c : CoreId) (f : VF) -- VWMULU
  | vwadd (c : CoreId) (f : VF) -- VWADD
  | vfwmul (c : CoreId) (f : VF) -- VFWMUL
  | vdot4 (c : CoreId) (f : VF) -- VDOT4
  | vfdot4E4m3 (c : CoreId) (f : VF) -- VFDOT4_E4M3
  | vfdot4E5m2 (c : CoreId) (f : VF) -- VFDOT4_E5M2
  | vfdot2Bf16 (c : CoreId) (f : VF) -- VFDOT2_BF16
  | vfdot2Fp16 (c : CoreId) (f : VF) -- VFDOT2_FP16
  | vaddp (c : CoreId) (f : VF) -- VADDP
  | vmulp (c : CoreId) (f : VF) -- VMULP
  | vcvtF32H (c : CoreId) (f : VF) -- VCVT_F32_H
  | vcvtHF32 (c : CoreId) (f : VF) -- VCVT_H_F32
  | vcvtF32Q (c : CoreId) (f : VF) -- VCVT_F32_Q
  | vcvtQF32 (c : CoreId) (f : VF) -- VCVT_Q_F32
  | vcvtI32F32 (c : CoreId) (f : VF) -- VCVT_I32_F32
  | vcvtF32I32 (c : CoreId) (f : VF) -- VCVT_F32_I32
  | vcvtF2mx (c : CoreId) (ty : Fin 6) (f : VF) -- VCVT_F2MX
  | vcvtMx2f (c : CoreId) (ty : Fin 6) (f : VF) -- VCVT_MX2F
  | vcmpeq (c : CoreId) (f : VF) -- VCMPEQ
  | vcmpne (c : CoreId) (f : VF) -- VCMPNE
  | vcmplt (c : CoreId) (f : VF) -- VCMPLT
  | vcmple (c : CoreId) (f : VF) -- VCMPLE
  | vcmpltu (c : CoreId) (f : VF) -- VCMPLTU
  | vcmpleu (c : CoreId) (f : VF) -- VCMPLEU
  | vfcmpeq (c : CoreId) (f : VF) -- VFCMPEQ
  | vfcmpne (c : CoreId) (f : VF) -- VFCMPNE
  | vfcmplt (c : CoreId) (f : VF) -- VFCMPLT
  | vfcmple (c : CoreId) (f : VF) -- VFCMPLE
  | kand (c : CoreId) (f : VF) -- KAND
  | kor (c : CoreId) (f : VF) -- KOR
  | kxor (c : CoreId) (f : VF) -- KXOR
  | kandn (c : CoreId) (f : VF) -- KANDN
  | knot (c : CoreId) (f : VF) -- KNOT
  | kpopc (c : CoreId) (f : VF) -- KPOPC
  | kfirst (c : CoreId) (f : VF) -- KFIRST
  | vredsum (c : CoreId) (f : VF) -- VREDSUM
  | vfredsum (c : CoreId) (f : VF) -- VFREDSUM
  | vfredmax (c : CoreId) (f : VF) -- VFREDMAX
  | vfredmin (c : CoreId) (f : VF) -- VFREDMIN
  | vext (c : CoreId) (f : VF) -- VEXT
  | vcrc32c (c : CoreId) (f : VF) -- VCRC32C
  | vcrc64 (c : CoreId) (f : VF) -- VCRC64
  | vparity (c : CoreId) (f : VF) -- VPARITY
  | vbrev (c : CoreId) (f : VF) -- VBREV
  | vpopc (c : CoreId) (f : VF) -- VPOPC
  | vclz (c : CoreId) (f : VF) -- VCLZ
  | exceptionEntry (c : CoreId) -- EXCEPTION_ENTRY
  | interruptEntry (c : CoreId) -- INTERRUPT_ENTRY
  | deferredException (c : CoreId) -- DEFERRED_EXCEPTION
  | memoryQueueSend (c : CoreId) (sync : Bool) -- MEMORY_QUEUE_SEND
  | answerDelivery (c : CoreId) (arrival : Nat) (contended : Bool) -- ANSWER_DELIVERY
  | errorAnswer (c : CoreId) (arrival : Nat := 0) (contended : Bool := false) -- ERROR_ANSWER
  | asyncErrorAnswer (c : CoreId) (arrival : Nat := 0) (contended : Bool := false) -- ASYNC_ERROR_ANSWER
  | storePathErrorAnswer (k : ClusterId) (arrival : Nat := 0) (contended : Bool := false) -- STORE_PATH_ERROR_ANSWER
  | waitcAnswer (c : CoreId) (sync : Bool) (arrival : Nat := 0) (contended : Bool := false) -- WAITC_ANSWER
  | waitcResend (c : CoreId) (sync : Bool) -- WAITC_RESEND
  | requestResend (k : ClusterId) -- REQUEST_RESEND
  | freezeEnd (c : CoreId) -- FREEZE_END
  | icacheFill (c : CoreId) (arrival : Nat := 0) (contended : Bool := false) -- ICACHE_FILL
  | translationWalk (c : CoreId) (arrival : Nat := 0) (contended : Bool := false) -- TRANSLATION_WALK
  | storePathDrain (k : ClusterId) -- STORE_PATH_DRAIN
  | clusterCacheFill (k : ClusterId) -- CLUSTER_CACHE_FILL
  | sketchDataArrival (k : ClusterId) -- SKETCH_DATA_ARRIVAL
  | sketchInvalidate (k : ClusterId) -- SKETCH_INVALIDATE
  | sketchRelease (p : PlinthId) -- SKETCH_RELEASE
  | plinthRead (p : PlinthId) -- PLINTH_READ
  | plinthWrite (p : PlinthId) -- PLINTH_WRITE
  | prefetchRead (p : PlinthId) -- PREFETCH_READ
  | dramAccessDone (p : PlinthId) -- DRAM_ACCESS_DONE
  | refresh (p : PlinthId) (bank : Nat) -- REFRESH
  | sorterRetry (p : PlinthId) -- SORTER_RETRY
  | iwordStore (c : CoreId) -- IWORD_STORE
  | iwordLoad (c : CoreId) -- IWORD_LOAD
  | copy (p : PlinthId) -- COPY
  | copyd (p : PlinthId) -- COPYD
  | digest (p : PlinthId) -- DIGEST
  | gather (p : PlinthId) -- GATHER
  | scatter (p : PlinthId) -- SCATTER
  | sort (p : PlinthId) -- SORT
  | merge (p : PlinthId) -- MERGE
  | reduce (p : PlinthId) -- REDUCE
  | compress (p : PlinthId) -- COMPRESS
  | decompress (p : PlinthId) -- DECOMPRESS
  | gfmac (p : PlinthId) -- GFMAC
  | pinrel (p : PlinthId) -- PINREL
  | nmcCompletionSignal (p : PlinthId) -- NMC_COMPLETION_SIGNAL
  | cairnSignal (n : SaddleId) -- CAIRN_SIGNAL
  | cairnDecrement (n : SaddleId) -- CAIRN_DECREMENT
  | cairnWait (n : SaddleId) -- CAIRN_WAIT
  | cairnBarrierArrival (n : SaddleId) -- CAIRN_BARRIER_ARRIVAL
  | cairnConfigWrite (n : SaddleId) -- CAIRN_CONFIG_WRITE
  | cairnFlagsWrite (n : SaddleId) -- CAIRN_FLAGS_WRITE
  | pset (n : SaddleId) -- PSET
  | cairnAnswerSend (n : SaddleId) -- CAIRN_ANSWER_SEND
  | cairnCancel (n : SaddleId) -- CAIRN_CANCEL
  | waiterShareRetry (n : SaddleId) -- WAITER_SHARE_RETRY
  | bgctlWrite (d : DomainNo) (v : Word) -- BGCTL_WRITE
  | stoppedDomainRestart (d : DomainNo) -- STOPPED_DOMAIN_RESTART
  | rateWindowArmed (d : DomainNo) (slow : Bool := false) -- RATE_WINDOW_ARMED
  | recoveryTrigger (d : Dom) (code : BitVec 16) (same : Bool := false) -- RECOVERY_TRIGGER
  | resetCommand (m : Master) (v : BitVec 32) -- RESET_COMMAND
  | fencePhaseEnd (d : Dom) -- FENCE_PHASE_END
  | fenceLimit (d : Dom) -- FENCE_LIMIT
  | drainEnd (d : Dom) -- DRAIN_END
  | drainLimit (d : Dom) -- DRAIN_LIMIT
  | resetScrubDone (d : Dom) -- RESET_SCRUB_DONE
  | resetScrubLimit (d : Dom) -- RESET_SCRUB_LIMIT
  | reloadDone (d : Dom) -- RELOAD_DONE
  | reloadFailure (d : Dom) -- RELOAD_FAILURE
  | rejoinDone (d : Dom) -- REJOIN_DONE
  | reloadRejoinLimit (d : Dom) -- RELOAD_REJOIN_LIMIT
  | dropReport (dev : BitVec 12) (record : Word) (stepNo : BitVec 32) (rollBase : Nat) (via : Option MHead := none) -- DROP_REPORT
  | rcmdJoin (m : Master) -- RCMD_JOIN
  | rcmdLeave (m : Master) -- RCMD_LEAVE
  | joinRepeat -- JOIN_REPEAT
  | leaveTimeout -- LEAVE_TIMEOUT
  | join (h : MHead) (dev : BitVec 12) (partners : List (BitVec 16)) -- JOIN
  | leave (dev : BitVec 12) (rollBase : Nat) (via : Option MHead := none) -- LEAVE
  | route (table : Nat) (via : Option MHead := none) -- ROUTE
  | routeEpochLimit (n : SaddleId) -- ROUTE_EPOCH_LIMIT
  | report (dev : BitVec 12) (record : Word) (stepNo : BitVec 32) (rollBase : Nat) (via : Option MHead := none) -- REPORT
  | notice (kind : Byte) (dev : BitVec 12) (drop : Bool) (stepNo : BitVec 32) (record : Word) (via : Option MHead := none) -- NOTICE
  | memberLost (dev : BitVec 12) (rollBase : Nat) -- MEMBER_LOST
  | epoch (ecur eprev : BitVec 16) (via : Option MHead := none) -- EPOCH
  | beacon (via : Option MHead := none) -- BEACON
  | beaconTimeout -- BEACON_TIMEOUT
  | linkdown (dev : BitVec 12) (port : PortId) (partners : List (BitVec 16) := []) (rollBase : Nat := 0) (via : Option MHead := none) -- LINKDOWN
  | rd (p : PortId) (f : Frame) -- RD
  | rdx (p : PortId) (f : Frame) -- RDX
  | prd (p : PortId) (f : Frame) -- PRD
  | wr (p : PortId) (f : Frame) -- WR
  | scFrame (p : PortId) (f : Frame) -- SC_FRAME
  | csig (p : PortId) (f : Frame) -- CSIG
  | cwait (p : PortId) (f : Frame) -- CWAIT
  | ccan (p : PortId) (f : Frame) -- CCAN
  | nmcFrame (p : PortId) (f : Frame) -- NMC_FRAME
  | inv (p : PortId) (f : Frame) -- INV
  | srel (p : PortId) (f : Frame) -- SREL
  | data (p : PortId) (f : Frame) -- DATA
  | ack (p : PortId) (f : Frame) -- ACK
  | cans (p : PortId) (f : Frame) -- CANS
  | iack (p : PortId) (f : Frame) -- IACK
  | lctlAck (l : LinkId) (num : BitVec 12) (cred : BitVec 72) (fcrc : Option (BitVec 16) := none) -- LCTL_ACK
  | lctlNak (l : LinkId) (num : BitVec 12) (fcrc : Option (BitVec 16) := none) -- LCTL_NAK
  | lctlReplayStart (l : LinkId) (num : BitVec 12) (fcrc : Option (BitVec 16) := none) -- LCTL_REPLAY_START
  | lctlIdle (l : LinkId) (fcrc : Option (BitVec 16) := none) -- LCTL_IDLE
  | badFrame (l : LinkId) (unknown : Bool := false) -- BAD_FRAME
  | ackTimer (l : LinkId) -- ACK_TIMER
  | portTrainingDone (l : LinkId) (partner : BitVec 12) (crossing : Nat) -- PORT_TRAINING_DONE
  | portRetrain (l : LinkId) -- PORT_RETRAIN
  | portRetrainTimeout (l : LinkId) -- PORT_RETRAIN_TIMEOUT
  | hrd (f : HFrame) -- HRD
  | hwr (f : HFrame) -- HWR
  | bopen (f : HFrame) -- BOPEN
  | bdata (f : HFrame) -- BDATA
  | bres (f : HFrame) -- BRES
  | bstat (f : HFrame) -- BSTAT
  | dbell (f : HFrame) -- DBELL
  | crst -- CRST
  | burstCommitDone (b : BitVec 6) -- BURST_COMMIT_DONE
  | burstPause (b : BitVec 6) -- BURST_PAUSE
  | burstDiscard (b : BitVec 6) -- BURST_DISCARD
  | descriptorTake -- DESCRIPTOR_TAKE
  | descriptorDone (i : Nat) -- DESCRIPTOR_DONE
  | ringConfigWrite (m : Master) (sub : Byte) (v : Word) -- RING_CONFIG_WRITE
  | inputSample (mV : Int) (mA : Nat) -- INPUT_SAMPLE
  | inputLoss -- INPUT_LOSS
  | inputOvervoltage -- INPUT_OVERVOLTAGE
  | brownoutDrainLimit -- BROWNOUT_DRAIN_LIMIT
  | brownoutClampLimit -- BROWNOUT_CLAMP_LIMIT
  | supplyFlagClear (m : Master) (v : Byte) -- SUPPLY_FLAG_CLEAR
  | moduleRequestRun (m : Master) -- MODULE_REQUEST_RUN
  | moduleRequestHold (m : Master) -- MODULE_REQUEST_HOLD
  | moduleRequestOff (m : Master) -- MODULE_REQUEST_OFF
  | moduleRequestRestart (m : Master) -- MODULE_REQUEST_RESTART
  | spurRequestRun (m : Master) (d : SpurId) -- SPUR_REQUEST_RUN
  | spurRequestDoze (m : Master) (d : SpurId) -- SPUR_REQUEST_DOZE
  | spurRequestNap (m : Master) (d : SpurId) -- SPUR_REQUEST_NAP
  | prepWindowEnd -- PREP_WINDOW_END
  | blockAnswer (b : Block) -- BLOCK_ANSWER
  | blockDelayExpiry (b : Block) -- BLOCK_DELAY_EXPIRY
  | clusterQuiesce (k : ClusterId) -- CLUSTER_QUIESCE
  | entryLimit -- ENTRY_LIMIT
  | blockShutdown (b : Block) -- BLOCK_SHUTDOWN
  | rimHeldEvent (c : CoreId) (e : HeldEvent) -- RIM_HELD_EVENT
  | wakePhaseEnd -- WAKE_PHASE_END
  | spurWake (d : SpurId) -- SPUR_WAKE
  | clusterRestore (k : ClusterId) -- CLUSTER_RESTORE
  | autowake -- AUTOWAKE
  | cadenceTracking (m : Master) -- CADENCE_TRACKING
  | cadenceFixed (m : Master) -- CADENCE_FIXED
  | startupStepEnd -- STARTUP_STEP_END
  | inputQualified -- INPUT_QUALIFIED
  | release (m : Master) -- RELEASE
  | temperatureSample (t : Temps) -- TEMPERATURE_SAMPLE
  | mgmtOpen (d : Dgram) (nonce : List Byte) -- OPEN
  | read (d : Dgram) -- READ
  | write (d : Dgram) -- WRITE
  | dictionaryWrite (m : Master) (index : BitVec 16) (sub : Byte) (value : List Byte) -- DICTIONARY_WRITE
  | lock (d : Dgram) -- LOCK
  | renew (d : Dgram) -- RENEW
  | unlock (d : Dgram) -- UNLOCK
  | close (d : Dgram) -- CLOSE
  | leaseExpiry -- LEASE_EXPIRY
  | sessionIdleExpiry (slot : Fin 8) -- SESSION_IDLE_EXPIRY
  | apply (m : Master) (portB : Bool) -- APPLY
  | mgmtLinkUp (portB : Bool) -- MGMT_LINK_UP
  | neighborSolicitation (portB : Bool) (target : Word) -- NEIGHBOR_SOLICITATION
  | echoRequest (portB : Bool) (payload : List Byte) -- ECHO_REQUEST
  | mailboxClaim (m : Master) (i : Fin 8) -- MAILBOX_CLAIM
  | mailboxRelease (m : Master) (i : Fin 8) -- MAILBOX_RELEASE
  | mailboxRead (m : Master) (i : Fin 8) (cmd : Word) -- MAILBOX_READ
  | mailboxWrite (m : Master) (i : Fin 8) (cmd : Word) -- MAILBOX_WRITE
  | mailboxOpDone (i : Fin 8) -- MAILBOX_OP_DONE
  | mailboxClaimExpiry (i : Fin 8) -- MAILBOX_CLAIM_EXPIRY
  | store (m : Master) -- STORE
  | storeDone -- STORE_DONE
  | lcreq (m : Master) (target : Byte) -- LCREQ
  | lifecycleTransitionDone (verified : Bool) -- LIFECYCLE_TRANSITION_DONE
  | managementKeyWrite (m : Master) (key : List Byte) -- MANAGEMENT_KEY_WRITE
  | updcmd (m : Master) (v : Byte) -- UPDCMD
  | firmwareUpdateDone (flashOk : Bool) -- FIRMWARE_UPDATE_DONE
  | attest (d : Dgram) -- ATTEST
  | aread (d : Dgram) -- AREAD
  | reportSigned -- REPORT_SIGNED
  | level1TreeCompute -- LEVEL1_TREE_COMPUTE
  | dbgrd (d : Dgram) -- DBGRD
  | dbgwr (d : Dgram) -- DBGWR
  | dbghalt (d : Dgram) -- DBGHALT
  | dbgrun (d : Dgram) -- DBGRUN
  | bistStart (d : Dgram) -- BIST_START
  | bistAbort (d : Dgram) -- BIST_ABORT
  | bistItemDone (item : BitVec 11) (pass : Bool) -- BIST_ITEM_DONE
  | bwaitExpiry (item : BitVec 11) -- BWAIT_EXPIRY
  | bistRunDone -- BIST_RUN_DONE
  | illegalInstruction (c : CoreId) (word : BitVec 32) -- ILLEGAL_INSTRUCTION
  | summitFault -- SUMMIT_FAULT
  | cableMated (l : LinkId) -- CABLE_MATED
  | mgmtLinkDown (portB : Bool) -- MGMT_LINK_DOWN
  | duplicateAddress (portB : Bool) -- DUPLICATE_ADDRESS
  | unknownRequestType (d : Dgram) -- UNKNOWN_REQUEST_TYPE
  | mgmtFrameDiscarded (portB : Bool) -- MGMT_FRAME_DISCARDED
  | loopbackRequest (p : PortId) -- LOOPBACK_REQUEST
  | loopbackLimit (p : PortId) -- LOOPBACK_LIMIT
  | burstCompleteTimeout (b : BitVec 6) -- BURST_COMPLETE_TIMEOUT
  | joinRefusal (via : Option MHead := none) -- JOIN_REFUSAL
  | leaveAcknowledgement (via : Option MHead := none) -- LEAVE_ACKNOWLEDGEMENT
deriving DecidableEq, Repr

end Sys2Proof
end

