-- ==== Sys2Proof/Decode.lean ====
section
/-! DEFINITION. The 32-bit words of a core's instructions: the decoder of R119 to R121 with the legality conditions of
the instruction pages, and the encoder. The table of operations gives no row any bits, so `decodeTableWord` reads none. -/

namespace Sys2Proof

/-- The command that a word spells by the bits of the table of operations: no row has any. DESIGN CHOICE, log entry 4. -/
def decodeTableWord (_nbits _w : Nat) : Option Instr := none

/-- Bits [h:l] of an instruction word. -/
def wfld (w h l : Nat) : Nat := (w >>> l) % 2 ^ (h + 1 - l)

/-- A five-bit register field whose lowest bit is `l` (R119). -/
def wreg (w l : Nat) : Reg := BitVec.ofNat 5 (w >>> l)

/-- The first boot core's number (R132). -/
def bootBase : Nat := 1048576

/-- Whether the core is a boot core (R112). -/
def isBoot (c : CoreId) : Bool := bootBase ≤ c.val

/-- Whether a system register number is in the table of R131; a boot core lacks some. -/
def sysExists (boot : Bool) (sr : Nat) : Bool :=
  if sr = 4 || sr = 5 || (0x10 ≤ sr && sr ≤ 0x19) then !boot
  else sr ≤ 0xA || (0x100 ≤ sr && sr ≤ 0x107) || sr = 0x180 || sr = 0x181 || (0x201 ≤ sr && sr ≤ 0x207)

/-- R147: the supported combinations of SEW and FT. -/
def vcfgSupported (sew ft : Nat) : Bool :=
  match sew with
  | 0 => ft ≤ 1
  | 1 => ft ≤ 1
  | _ => ft = 0

/-- The vector operation of a major and func (R156). -/
def vecCtor (major func : Nat) : Option (CoreId → VF → Instr) :=
  match major, func with
  | 0x31, 0x00 => some .vadd
  | 0x31, 0x01 => some .vsub
  | 0x31, 0x02 => some .vmul
  | 0x31, 0x03 => some .vmulh
  | 0x31, 0x04 => some .vmulhu
  | 0x31, 0x05 => some .vand
  | 0x31, 0x06 => some .vor
  | 0x31, 0x07 => some .vxor
  | 0x31, 0x08 => some .vsll
  | 0x31, 0x09 => some .vsrl
  | 0x31, 0x0A => some .vsra
  | 0x31, 0x0B => some .vmin
  | 0x31, 0x0C => some .vmax
  | 0x31, 0x0D => some .vminu
  | 0x31, 0x0E => some .vmaxu
  | 0x31, 0x0F => some .vmv
  | 0x31, 0x10 => some .vbcast
  | 0x31, 0x11 => some .vsel
  | 0x32, 0x00 => some .vfadd
  | 0x32, 0x01 => some .vfsub
  | 0x32, 0x02 => some .vfmul
  | 0x32, 0x03 => some .vfma
  | 0x32, 0x04 => some .vfdiv
  | 0x32, 0x05 => some .vfsqrt
  | 0x32, 0x06 => some .vfmin
  | 0x32, 0x07 => some .vfmax
  | 0x32, 0x08 => some .vfsgnj
  | 0x32, 0x09 => some .vfsgnjn
  | 0x32, 0x0A => some .vfsgnjx
  | 0x33, 0x00 => some .vwmul
  | 0x33, 0x01 => some .vwmulu
  | 0x33, 0x02 => some .vwadd
  | 0x33, 0x03 => some .vfwmul
  | 0x33, 0x10 => some .vdot4
  | 0x33, 0x11 => some .vfdot4E4m3
  | 0x33, 0x12 => some .vfdot4E5m2
  | 0x33, 0x13 => some .vfdot2Bf16
  | 0x33, 0x14 => some .vfdot2Fp16
  | 0x34, 0x00 => some .vaddp
  | 0x34, 0x01 => some .vmulp
  | 0x35, 0x00 => some .vcvtF32H
  | 0x35, 0x01 => some .vcvtHF32
  | 0x35, 0x02 => some .vcvtF32Q
  | 0x35, 0x03 => some .vcvtQF32
  | 0x35, 0x04 => some .vcvtI32F32
  | 0x35, 0x05 => some .vcvtF32I32
  | 0x35, 0x08 => some (fun c => .vcvtF2mx c 0)
  | 0x35, 0x09 => some (fun c => .vcvtF2mx c 1)
  | 0x35, 0x0A => some (fun c => .vcvtF2mx c 2)
  | 0x35, 0x0B => some (fun c => .vcvtF2mx c 3)
  | 0x35, 0x0C => some (fun c => .vcvtF2mx c 4)
  | 0x35, 0x0D => some (fun c => .vcvtF2mx c 5)
  | 0x35, 0x10 => some (fun c => .vcvtMx2f c 0)
  | 0x35, 0x11 => some (fun c => .vcvtMx2f c 1)
  | 0x35, 0x12 => some (fun c => .vcvtMx2f c 2)
  | 0x35, 0x13 => some (fun c => .vcvtMx2f c 3)
  | 0x35, 0x14 => some (fun c => .vcvtMx2f c 4)
  | 0x35, 0x15 => some (fun c => .vcvtMx2f c 5)
  | 0x36, 0x00 => some .vcmpeq
  | 0x36, 0x01 => some .vcmpne
  | 0x36, 0x02 => some .vcmplt
  | 0x36, 0x03 => some .vcmple
  | 0x36, 0x04 => some .vcmpltu
  | 0x36, 0x05 => some .vcmpleu
  | 0x36, 0x08 => some .vfcmpeq
  | 0x36, 0x09 => some .vfcmpne
  | 0x36, 0x0A => some .vfcmplt
  | 0x36, 0x0B => some .vfcmple
  | 0x36, 0x10 => some .kand
  | 0x36, 0x11 => some .kor
  | 0x36, 0x12 => some .kxor
  | 0x36, 0x13 => some .kandn
  | 0x36, 0x14 => some .knot
  | 0x36, 0x15 => some .kpopc
  | 0x36, 0x16 => some .kfirst
  | 0x36, 0x18 => some .vredsum
  | 0x36, 0x19 => some .vfredsum
  | 0x36, 0x1A => some .vfredmax
  | 0x36, 0x1B => some .vfredmin
  | 0x36, 0x1C => some .vext
  | 0x37, 0x00 => some .vcrc32c
  | 0x37, 0x01 => some .vcrc64
  | 0x37, 0x02 => some .vparity
  | 0x37, 0x03 => some .vbrev
  | 0x37, 0x04 => some .vpopc
  | 0x37, 0x05 => some .vclz
  | _, _ => none

/-- The operations without a second source (R156). -/
def vecOneSource (major func : Nat) : Bool :=
  (major = 0x31 && func = 0x0F) || (major = 0x32 && func = 5) || major = 0x35 ||
  (major = 0x36 && 0x10 ≤ func && func ≤ 0x16) || major = 0x37

/-- The conditions of R155 and R156 on the fields of a vector word that do not depend on VCFG. -/
def vecFieldsLegal (major func : Nat) (f : VF) : Bool :=
  let vd := f.vd.toNat
  let vs1 := f.vs1.toNat
  let vs2 := f.vs2.toNat
  let maskDest := major = 0x36 && func ≤ 0x14
  let maskOp := major = 0x36 && 0x10 ≤ func && func ≤ 0x16
  (if vecOneSource major func then !f.x else true) &&
  (if major = 0x34 then !f.x else true) &&
  -- X must be 1
  (if (major = 0x31 && func = 0x10) || (major = 0x36 && 0x18 ≤ func) then f.x else true) &&
  -- fields that must be 0
  (if (major = 0x31 && func = 0x0F) || (major = 0x32 && func = 5) || (major = 0x37 && 2 ≤ func) then vs2 = 0 else true) &&
  (if major = 0x31 && func = 0x10 then vs1 = 0 else true) &&
  (if major = 0x31 && func = 0x11 then f.km ≠ 0 else true) &&
  (if major = 0x36 && func = 0x1C then f.km = 0 else true) &&
  (if major = 0x36 && 0x10 ≤ func && func ≤ 0x14 then f.km = 0 else true) &&
  -- mask register fields
  (if maskDest then vd < 8 else true) &&
  (if maskOp then vs1 < 8 else true) &&
  (if major = 0x36 && 0x10 ≤ func && func ≤ 0x13 then vs2 < 8 else true) &&
  (if major = 0x36 && func = 0x14 then vs2 = 0 else true)

/-- The instruction that a word stands for on core `c`; `none` for an illegal word (R121). What depends on the
machine's state (a level, VCFG, a delay slot) is checked at issue. DESIGN CHOICE, log entry 4. -/
def decodeWord (c : CoreId) (w : Nat) : Option Instr :=
  let boot := isBoot c
  let major := wfld w 31 26
  let r1 := wreg w 21
  let r2 := wreg w 16
  let r3 := wreg w 11
  let func := wfld w 10 0
  let imm : BitVec 16 := BitVec.ofNat 16 w
  let w2 : BitVec 2 := BitVec.ofNat 2 w
  match major with
  | 0x01 =>
    match func with
    | 0 => some (.add c r1 r2 r3)
    | 1 => some (.sub c r1 r2 r3)
    | 2 => some (.and c r1 r2 r3)
    | 3 => some (.or c r1 r2 r3)
    | 4 => some (.xor c r1 r2 r3)
    | 5 => some (.sll c r1 r2 r3)
    | 6 => some (.srl c r1 r2 r3)
    | 7 => some (.sra c r1 r2 r3)
    | 8 => some (.slt c r1 r2 r3)
    | 9 => some (.sltu c r1 r2 r3)
    | 10 => some (.min c r1 r2 r3)
    | 11 => some (.max c r1 r2 r3)
    | 12 => some (.minu c r1 r2 r3)
    | 13 => some (.maxu c r1 r2 r3)
    | _ => none
  | 0x02 =>
    match func with
    | 0 => some (.mul c r1 r2 r3)
    | 1 => some (.mulh c r1 r2 r3)
    | 2 => some (.mulhu c r1 r2 r3)
    | 3 => some (.mulhsu c r1 r2 r3)
    | _ => none
  | 0x03 =>
    match wfld w 10 2 with
    | 0 => some (.crc32c c r1 r2 r3 w2)
    | 1 => some (.crc64 c r1 r2 r3 w2)
    | 2 => if r3 = 0 then some (.parity c r1 r2 w2) else none
    | 3 => if r3 = 0 then some (.brev c r1 r2 w2) else none
    | 4 => if r3 = 0 then some (.clz c r1 r2 w2) else none
    | 5 => if r3 = 0 then some (.ctz c r1 r2 w2) else none
    | 6 => if r3 = 0 then some (.popc c r1 r2 w2) else none
    | _ => none
  | 0x04 => some (.addi c r1 r2 imm)
  | 0x05 => some (.slti c r1 r2 imm)
  | 0x06 => some (.sltiu c r1 r2 imm)
  | 0x07 => some (.andi c r1 r2 imm)
  | 0x08 => some (.ori c r1 r2 imm)
  | 0x09 => some (.xori c r1 r2 imm)
  | 0x0A =>
    if wfld w 15 8 ≠ 0 then none
    else match wfld w 7 6 with
      | 0 => some (.slli c r1 r2 (BitVec.ofNat 6 w))
      | 1 => some (.srli c r1 r2 (BitVec.ofNat 6 w))
      | 2 => some (.srai c r1 r2 (BitVec.ofNat 6 w))
      | _ => none
  | 0x0B => some (.lui c r1 (BitVec.ofNat 21 w))
  | 0x0C => some (.auipc c r1 (BitVec.ofNat 21 w))
  | 0x10 => some (.ldB c r1 r2 imm)
  | 0x11 => some (.ldBu c r1 r2 imm)
  | 0x12 => some (.ldH c r1 r2 imm)
  | 0x13 => some (.ldHu c r1 r2 imm)
  | 0x14 => some (.ldW c r1 r2 imm)
  | 0x15 => some (.ldWu c r1 r2 imm)
  | 0x16 => some (.ldD c r1 r2 imm)
  | 0x17 => some (.pref c r1 r2 imm)
  | 0x18 => some (.stB c r1 r2 imm)
  | 0x19 => some (.stH c r1 r2 imm)
  | 0x1A => some (.stW c r1 r2 imm)
  | 0x1B => some (.stD c r1 r2 imm)
  | 0x1C =>
    let aq := wfld w 7 7
    let rl := wfld w 6 6
    let wd := wfld w 5 4
    if wfld w 3 0 ≠ 0 then none
    else match wfld w 10 8 with
      | 0 => if 2 ≤ wd && r3 = 0 && rl = 0 then some (.lr c r1 r2 (aq = 1) (wd = 3)) else none
      | 1 => if 2 ≤ wd && aq = 0 then some (.sc c r1 r2 r3 (rl = 1) (wd = 3)) else none
      | 4 => if wfld w 25 11 = 0 && wfld w 7 4 = 0 then some (.fenceL c) else none
      | 5 => if wfld w 25 11 = 0 && wfld w 7 4 = 0 then some (.fenceM c) else none
      | 6 => if wfld w 25 11 = 0 && wfld w 7 4 = 0 then some (.fenceG c) else none
      | 7 => if wfld w 25 11 = 0 && wfld w 7 4 = 0 then some (.fenceI c) else none
      | _ => none
  | 0x20 => some (.beq c r1 r2 imm)
  | 0x21 => some (.bne c r1 r2 imm)
  | 0x22 => some (.blt c r1 r2 imm)
  | 0x23 => some (.bge c r1 r2 imm)
  | 0x24 => some (.bltu c r1 r2 imm)
  | 0x25 => some (.bgeu c r1 r2 imm)
  | 0x26 => some (.jal c (BitVec.ofNat 26 w))
  | 0x27 => some (.jalr c r1 r2 imm)
  | 0x28 => if wfld w 9 0 = 0 then some (.loop c r1 (BitVec.ofNat 11 (w >>> 10))) else none
  | 0x29 =>
    match func with
    | 0 => if wfld w 25 11 = 0 then some (.syscall c) else none
    | 1 => if wfld w 25 11 = 0 then some (.sret c) else none
    | 2 => if wfld w 25 11 = 0 then some (.sretSkip c) else none
    | 3 => if wfld w 17 11 = 0 then some (.noint c (BitVec.ofNat 8 (w >>> 18))) else none
    | _ => none
  | 0x2A =>
    let sr : BitVec 12 := BitVec.ofNat 12 (w >>> 4)
    if !sysExists boot sr.toNat then none
    else match wfld w 3 0 with
      | 0 => if r2 = 0 then some (.sysr c r1 sr) else none
      | 1 => some (.sysw c r1 r2 sr)
      | 2 => some (.syss c r1 r2 sr)
      | 3 => some (.sysc c r1 r2 sr)
      | _ => none
  | 0x2B =>
    if r1 ≠ 0 || wfld w 6 0 ≠ 0 then none
    else
      let q := wfld w 7 7 = 1
      match wfld w 10 8 with
      | 0 => some (.sigcAdd c r2 r3 q)
      | 1 => some (.sigcDec c r2 r3 q)
      | 4 => some (.waitcGe c r2 r3 q)
      | 5 => if r3 = 0 then some (.waitcBar c r2 q) else none
      | _ => none
  | 0x30 =>
    let gfl : BitVec 2 := BitVec.ofNat 2 (w >>> 14)
    let sew : BitVec 2 := BitVec.ofNat 2 (w >>> 12)
    let ft : BitVec 2 := BitVec.ofNat 2 (w >>> 10)
    if boot || wfld w 9 0 ≠ 0 || !vcfgSupported sew.toNat ft.toNat then none
    else some (.vsetvl c r1 r2 gfl sew ft)
  | 0x38 =>
    if boot then none
    else
      let tc : BitVec 3 := BitVec.ofNat 3 (w >>> 20)
      let ta : BitVec 3 := BitVec.ofNat 3 (w >>> 17)
      let tb : BitVec 3 := BitVec.ofNat 3 (w >>> 14)
      let acc := wfld w 13 13 = 1
      let var : BitVec 2 := BitVec.ofNat 2 (w >>> 11)
      let mm1 := wreg w 5
      let nm1 := wreg w 0
      match wfld w 25 23 with
      | 0 => if tc.toNat % 2 = 0 && var ≠ 3 && wfld w 10 10 = 0 then some (.tmma c tc ta tb acc var mm1 nm1) else none
      | 1 => if tc.toNat % 4 = 0 && var = 0 && wfld w 10 10 = 0 && mm1.toNat ≤ 15 then some (.tmmap c tc ta tb acc mm1 nm1) else none
      | 2 => if var = 0 && wfld w 10 10 = 0 && mm1.toNat ≤ 15 && nm1.toNat ≤ 15 then some (.tmmaq c tc ta tb acc mm1 nm1) else none
      | 3 => if wfld w 22 0 = 0 then some (.tfence c) else none
      | _ => none
  | 0x39 =>
    if boot then none
    else
      let v := wreg w 18
      let tn : BitVec 3 := BitVec.ofNat 3 (w >>> 20)
      let rsel : BitVec 2 := BitVec.ofNat 2 (w >>> 8)
      match wfld w 25 23 with
      | 0 => if rsel ≠ 3 && wfld w 6 0 = 0 then some (.tld c tn (wreg w 15) (wreg w 10) rsel (wfld w 7 7 = 1)) else none
      | 1 => if rsel ≠ 3 && wfld w 6 0 = 0 then some (.tst c tn (wreg w 15) (wreg w 10) rsel (wfld w 7 7 = 1)) else none
      | 2 => if wfld w 17 0 = 0 then some (.tcfg c v) else none
      | 3 => if wfld w 17 0 = 0 then some (.tcfgrd c v) else none
      | 4 => if wfld w 9 0 = 0 then some (.tmvv c v (BitVec.ofNat 3 (w >>> 15)) (wreg w 10)) else none
      | 5 => if wfld w 9 0 = 0 then some (.tmvt c (BitVec.ofNat 3 (w >>> 15)) v (wreg w 10)) else none
      | _ => none
  | 0x3C =>
    let op : BitVec 4 := BitVec.ofNat 4 (w >>> 22)
    let rg := wreg w 17
    if 12 ≤ op.toNat || rg = 0 || rg.toNat % 4 ≠ 0 || wfld w 11 0 ≠ 0 then none
    else some (.nmc c op rg (wreg w 12))
  | 0x3D => some (.unclaimedCoprocessor c (BitVec.ofNat 32 w))
  | 0x3E => some (.unclaimedCoprocessor c (BitVec.ofNat 32 w))
  | _ =>
    if 0x31 ≤ major && major ≤ 0x37 && !boot then
      let f : VF := ⟨r1, r2, r3, BitVec.ofNat 3 (w >>> 8), wfld w 7 7 = 1⟩
      let fn := wfld w 6 0
      if vecFieldsLegal major fn f then (vecCtor major fn).map (fun k => k c f) else none
    else none

/-! ### The encoder, written from the same tables -/

/-- Fields put at their lowest bits. -/
def fieldsAt : List (Nat × Nat) → Nat
  | [] => 0
  | (l, v) :: fs => v <<< l + fieldsAt fs

def encR (major : Nat) (rd rs1 rs2 : Reg) (func : Nat) : Nat :=
  fieldsAt [(26, major), (21, rd.toNat), (16, rs1.toNat), (11, rs2.toNat), (0, func)]

def encI (major : Nat) (rd rs1 : Reg) (imm : Nat) : Nat :=
  fieldsAt [(26, major), (21, rd.toNat), (16, rs1.toNat), (0, imm)]

def encU (major : Nat) (rd : Reg) (imm : BitVec 21) : Nat :=
  fieldsAt [(26, major), (21, rd.toNat), (0, imm.toNat)]

def encV (major func : Nat) (f : VF) : Nat :=
  fieldsAt [(26, major), (21, f.vd.toNat), (16, f.vs1.toNat), (11, f.vs2.toNat), (8, f.km.toNat), (7, f.x.toNat), (0, func)]

def encBit (op : Nat) (rd rs1 rs2 : Reg) (w : BitVec 2) : Nat := encR 0x03 rd rs1 rs2 (op * 4 + w.toNat)

def encLrSc (op : Nat) (rd rs1 rs2 : Reg) (aq rl dbl : Bool) : Nat :=
  fieldsAt [(26, 0x1C), (21, rd.toNat), (16, rs1.toNat), (11, rs2.toNat), (8, op), (7, aq.toNat), (6, rl.toNat), (4, 2 + dbl.toNat)]

def encCairn (op : Nat) (rs1 rs2 : Reg) (q : Bool) : Nat :=
  fieldsAt [(26, 0x2B), (16, rs1.toNat), (11, rs2.toNat), (8, op), (7, q.toNat)]

def encTm (minor : Nat) (tc ta tb : BitVec 3) (acc : Bool) (var : Nat) (mm1 nm1 : Reg) : Nat :=
  fieldsAt [(26, 0x38), (23, minor), (20, tc.toNat), (17, ta.toNat), (14, tb.toNat), (13, acc.toNat), (11, var),
    (5, mm1.toNat), (0, nm1.toNat)]

def encTx (minor : Nat) (tn : BitVec 3) (rs1 rs2 : Reg) (rsel : BitVec 2) (ca : Bool) : Nat :=
  fieldsAt [(26, 0x39), (23, minor), (20, tn.toNat), (15, rs1.toNat), (10, rs2.toNat), (8, rsel.toNat), (7, ca.toNat)]

def encX (rd rs1 : Reg) (sr : BitVec 12) (op : Nat) : Nat :=
  fieldsAt [(26, 0x2A), (21, rd.toNat), (16, rs1.toNat), (4, sr.toNat), (0, op)]

/-- The word of a core's instruction (R119); 0 for a command that is no instruction. -/
def encodeWord : Instr → Nat
  | .add _ d a b => encR 1 d a b 0
  | .sub _ d a b => encR 1 d a b 1
  | .and _ d a b => encR 1 d a b 2
  | .or _ d a b => encR 1 d a b 3
  | .xor _ d a b => encR 1 d a b 4
  | .sll _ d a b => encR 1 d a b 5
  | .srl _ d a b => encR 1 d a b 6
  | .sra _ d a b => encR 1 d a b 7
  | .slt _ d a b => encR 1 d a b 8
  | .sltu _ d a b => encR 1 d a b 9
  | .min _ d a b => encR 1 d a b 10
  | .max _ d a b => encR 1 d a b 11
  | .minu _ d a b => encR 1 d a b 12
  | .maxu _ d a b => encR 1 d a b 13
  | .addi _ d a i => encI 4 d a i.toNat
  | .slti _ d a i => encI 5 d a i.toNat
  | .sltiu _ d a i => encI 6 d a i.toNat
  | .andi _ d a i => encI 7 d a i.toNat
  | .ori _ d a i => encI 8 d a i.toNat
  | .xori _ d a i => encI 9 d a i.toNat
  | .slli _ d a n => encI 10 d a n.toNat
  | .srli _ d a n => encI 10 d a (64 + n.toNat)
  | .srai _ d a n => encI 10 d a (128 + n.toNat)
  | .lui _ d i => encU 0x0B d i
  | .auipc _ d i => encU 0x0C d i
  | .mul _ d a b => encR 2 d a b 0
  | .mulh _ d a b => encR 2 d a b 1
  | .mulhu _ d a b => encR 2 d a b 2
  | .mulhsu _ d a b => encR 2 d a b 3
  | .crc32c _ d a b w => encBit 0 d a b w
  | .crc64 _ d a b w => encBit 1 d a b w
  | .parity _ d a w => encBit 2 d a 0 w
  | .brev _ d a w => encBit 3 d a 0 w
  | .clz _ d a w => encBit 4 d a 0 w
  | .ctz _ d a w => encBit 5 d a 0 w
  | .popc _ d a w => encBit 6 d a 0 w
  | .ldB _ d a i => encI 0x10 d a i.toNat
  | .ldBu _ d a i => encI 0x11 d a i.toNat
  | .ldH _ d a i => encI 0x12 d a i.toNat
  | .ldHu _ d a i => encI 0x13 d a i.toNat
  | .ldW _ d a i => encI 0x14 d a i.toNat
  | .ldWu _ d a i => encI 0x15 d a i.toNat
  | .ldD _ d a i => encI 0x16 d a i.toNat
  | .pref _ h a i => encI 0x17 h a i.toNat
  | .stB _ b a i => encI 0x18 b a i.toNat
  | .stH _ b a i => encI 0x19 b a i.toNat
  | .stW _ b a i => encI 0x1A b a i.toNat
  | .stD _ b a i => encI 0x1B b a i.toNat
  | .lr _ d a aq dbl => encLrSc 0 d a 0 aq false dbl
  | .sc _ d a b rl dbl => encLrSc 1 d a b false rl dbl
  | .fenceL _ => encR 0x1C 0 0 0 0x400
  | .fenceM _ => encR 0x1C 0 0 0 0x500
  | .fenceG _ => encR 0x1C 0 0 0 0x600
  | .fenceI _ => encR 0x1C 0 0 0 0x700
  | .beq _ a b o => encI 0x20 a b o.toNat
  | .bne _ a b o => encI 0x21 a b o.toNat
  | .blt _ a b o => encI 0x22 a b o.toNat
  | .bge _ a b o => encI 0x23 a b o.toNat
  | .bltu _ a b o => encI 0x24 a b o.toNat
  | .bgeu _ a b o => encI 0x25 a b o.toNat
  | .jal _ o => fieldsAt [(26, 0x26), (0, o.toNat)]
  | .jalr _ d a i => encI 0x27 d a i.toNat
  | .loop _ a n => fieldsAt [(26, 0x28), (21, a.toNat), (10, n.toNat)]
  | .sysr _ d sr => encX d 0 sr 0
  | .sysw _ d a sr => encX d a sr 1
  | .syss _ d a sr => encX d a sr 2
  | .sysc _ d a sr => encX d a sr 3
  | .syscall _ => encR 0x29 0 0 0 0
  | .sret _ => encR 0x29 0 0 0 1
  | .sretSkip _ => encR 0x29 0 0 0 2
  | .noint _ n => fieldsAt [(26, 0x29), (18, n.toNat), (0, 3)]
  | .unclaimedCoprocessor _ w => w.toNat
  | .sigcAdd _ a b q => encCairn 0 a b q
  | .sigcDec _ a b q => encCairn 1 a b q
  | .waitcGe _ a b q => encCairn 4 a b q
  | .waitcBar _ a q => encCairn 5 a 0 q
  | .nmc _ op rg rc => fieldsAt [(26, 0x3C), (22, op.toNat), (17, rg.toNat), (12, rc.toNat)]
  | .tmma _ tc ta tb acc var mm1 nm1 => encTm 0 tc ta tb acc var.toNat mm1 nm1
  | .tmmap _ tc ta tb acc mm1 nm1 => encTm 1 tc ta tb acc 0 mm1 nm1
  | .tmmaq _ tc ta tb acc mm1 nm1 => encTm 2 tc ta tb acc 0 mm1 nm1
  | .tfence _ => fieldsAt [(26, 0x38), (23, 3)]
  | .tcfg _ v => fieldsAt [(26, 0x39), (23, 2), (18, v.toNat)]
  | .tcfgrd _ v => fieldsAt [(26, 0x39), (23, 3), (18, v.toNat)]
  | .tld _ tn a b rsel ca => encTx 0 tn a b rsel ca
  | .tst _ tn a b rsel ca => encTx 1 tn a b rsel ca
  | .tmvv _ v tn a => fieldsAt [(26, 0x39), (23, 4), (18, v.toNat), (15, tn.toNat), (10, a.toNat)]
  | .tmvt _ tn v a => fieldsAt [(26, 0x39), (23, 5), (18, v.toNat), (15, tn.toNat), (10, a.toNat)]
  | .vsetvl _ d a gfl sew ft =>
    fieldsAt [(26, 0x30), (21, d.toNat), (16, a.toNat), (14, gfl.toNat), (12, sew.toNat), (10, ft.toNat)]
  | .vadd _ f => encV 0x31 0x00 f
  | .vsub _ f => encV 0x31 0x01 f
  | .vmul _ f => encV 0x31 0x02 f
  | .vmulh _ f => encV 0x31 0x03 f
  | .vmulhu _ f => encV 0x31 0x04 f
  | .vand _ f => encV 0x31 0x05 f
  | .vor _ f => encV 0x31 0x06 f
  | .vxor _ f => encV 0x31 0x07 f
  | .vsll _ f => encV 0x31 0x08 f
  | .vsrl _ f => encV 0x31 0x09 f
  | .vsra _ f => encV 0x31 0x0A f
  | .vmin _ f => encV 0x31 0x0B f
  | .vmax _ f => encV 0x31 0x0C f
  | .vminu _ f => encV 0x31 0x0D f
  | .vmaxu _ f => encV 0x31 0x0E f
  | .vmv _ f => encV 0x31 0x0F f
  | .vbcast _ f => encV 0x31 0x10 f
  | .vsel _ f => encV 0x31 0x11 f
  | .vfadd _ f => encV 0x32 0x00 f
  | .vfsub _ f => encV 0x32 0x01 f
  | .vfmul _ f => encV 0x32 0x02 f
  | .vfma _ f => encV 0x32 0x03 f
  | .vfdiv _ f => encV 0x32 0x04 f
  | .vfsqrt _ f => encV 0x32 0x05 f
  | .vfmin _ f => encV 0x32 0x06 f
  | .vfmax _ f => encV 0x32 0x07 f
  | .vfsgnj _ f => encV 0x32 0x08 f
  | .vfsgnjn _ f => encV 0x32 0x09 f
  | .vfsgnjx _ f => encV 0x32 0x0A f
  | .vwmul _ f => encV 0x33 0x00 f
  | .vwmulu _ f => encV 0x33 0x01 f
  | .vwadd _ f => encV 0x33 0x02 f
  | .vfwmul _ f => encV 0x33 0x03 f
  | .vdot4 _ f => encV 0x33 0x10 f
  | .vfdot4E4m3 _ f => encV 0x33 0x11 f
  | .vfdot4E5m2 _ f => encV 0x33 0x12 f
  | .vfdot2Bf16 _ f => encV 0x33 0x13 f
  | .vfdot2Fp16 _ f => encV 0x33 0x14 f
  | .vaddp _ f => encV 0x34 0x00 f
  | .vmulp _ f => encV 0x34 0x01 f
  | .vcvtF32H _ f => encV 0x35 0x00 f
  | .vcvtHF32 _ f => encV 0x35 0x01 f
  | .vcvtF32Q _ f => encV 0x35 0x02 f
  | .vcvtQF32 _ f => encV 0x35 0x03 f
  | .vcvtI32F32 _ f => encV 0x35 0x04 f
  | .vcvtF32I32 _ f => encV 0x35 0x05 f
  | .vcvtF2mx _ ty f => encV 0x35 (0x08 + ty.val) f
  | .vcvtMx2f _ ty f => encV 0x35 (0x10 + ty.val) f
  | .vcmpeq _ f => encV 0x36 0x00 f
  | .vcmpne _ f => encV 0x36 0x01 f
  | .vcmplt _ f => encV 0x36 0x02 f
  | .vcmple _ f => encV 0x36 0x03 f
  | .vcmpltu _ f => encV 0x36 0x04 f
  | .vcmpleu _ f => encV 0x36 0x05 f
  | .vfcmpeq _ f => encV 0x36 0x08 f
  | .vfcmpne _ f => encV 0x36 0x09 f
  | .vfcmplt _ f => encV 0x36 0x0A f
  | .vfcmple _ f => encV 0x36 0x0B f
  | .kand _ f => encV 0x36 0x10 f
  | .kor _ f => encV 0x36 0x11 f
  | .kxor _ f => encV 0x36 0x12 f
  | .kandn _ f => encV 0x36 0x13 f
  | .knot _ f => encV 0x36 0x14 f
  | .kpopc _ f => encV 0x36 0x15 f
  | .kfirst _ f => encV 0x36 0x16 f
  | .vredsum _ f => encV 0x36 0x18 f
  | .vfredsum _ f => encV 0x36 0x19 f
  | .vfredmax _ f => encV 0x36 0x1A f
  | .vfredmin _ f => encV 0x36 0x1B f
  | .vext _ f => encV 0x36 0x1C f
  | .vcrc32c _ f => encV 0x37 0x00 f
  | .vcrc64 _ f => encV 0x37 0x01 f
  | .vparity _ f => encV 0x37 0x02 f
  | .vbrev _ f => encV 0x37 0x03 f
  | .vpopc _ f => encV 0x37 0x04 f
  | .vclz _ f => encV 0x37 0x05 f
  | .illegalInstruction _ w => w.toNat
  | _ => 0

end Sys2Proof
end

