-- ==== Sys2Proof/Machine/Bits.lean ====
section
/-! DEFINITION. Bit fields, bytes and their order (R1, R10), and the CRC and bit operations of R120, R141 and R243. -/

namespace Sys2Proof.Machine

/-- x[h:l] of a number (R1). -/
def fld (x h l : Nat) : Nat := (x >>> l) % 2 ^ (h + 1 - l)
/-- x[n] of a number. -/
def bitAt (x n : Nat) : Bool := (x >>> n) % 2 == 1
/-- `x` with field [h:l] holding the low bits of `v`. -/
def setFld (x h l v : Nat) : Nat :=
  x - (fld x h l) * 2 ^ l + (v % 2 ^ (h + 1 - l)) * 2 ^ l

/-- x[h:l] of a word, as a number. -/
def wf (x : Word) (h l : Nat) : Nat := fld x.toNat h l
/-- x[n] of a word. -/
def wb (x : Word) (n : Nat) : Bool := x.getLsbD n
/-- A word from a number, low 64 bits (R10). -/
def w64 (n : Nat) : Word := BitVec.ofNat 64 n
/-- `x` with field [h:l] holding the low bits of `v`. -/
def wset (x : Word) (h l v : Nat) : Word := w64 (setFld x.toNat h l v)
/-- `x` with bit n holding `v`. -/
def wsetb (x : Word) (n : Nat) (v : Bool) : Word := wset x n n v.toNat
/-- 1 or 0. -/
def b64 (b : Bool) : Word := if b then 1 else 0

/-- The low `n` bits of `x` sign-extended to 64 bits (R125, R156). -/
def sext64 (n x : Nat) : Word :=
  let y := x % 2 ^ n
  if bitAt y (n - 1) then w64 (y + (2 ^ 64 - 2 ^ n)) else w64 y

/-- The low `n` bits of `x` as a signed integer. -/
def sint (n x : Nat) : Int :=
  let y := x % 2 ^ n
  if bitAt y (n - 1) then (y : Int) - (2 ^ n : Nat) else (y : Int)

/-- An integer as an `n`-bit code, modulo 2^n. -/
def ofSint (n : Nat) (i : Int) : Nat := (i % ((2 ^ n : Nat) : Int)).toNat

/-- Bytes of a number, least significant first (R1). -/
def natBytes : Nat → Nat → List Byte
  | 0, _ => []
  | n + 1, x => BitVec.ofNat 8 x :: natBytes n (x / 256)

/-- The number that bytes spell, least significant first (R1). -/
def bytesNat : List Byte → Nat
  | [] => 0
  | b :: bs => b.toNat + 256 * bytesNat bs

/-- Byte `i` of a number, little-endian; and the number with that byte replaced. -/
def byteOf (x i : Nat) : Nat := fld x (8 * i + 7) (8 * i)
def setByte (x i v : Nat) : Nat := setFld x (8 * i + 7) (8 * i) v

/-- Number of set bits among the low `n`. -/
def popN : Nat → Nat → Nat
  | 0, _ => 0
  | n + 1, x => x % 2 + popN n (x / 2)

/-- Bit i moves to bit n − 1 − i. -/
def revN : Nat → Nat → Nat
  | 0, _ => 0
  | n + 1, x => (x % 2) * 2 ^ n + revN n (x / 2)

/-- Leading zeros of the low `n` bits; `n` when all are zero. -/
def clzN : Nat → Nat → Nat
  | 0, _ => 0
  | n + 1, x => if bitAt x n then 0 else 1 + clzN n x

/-- Trailing zeros of the low `n` bits; `n` when all are zero. -/
def ctzN : Nat → Nat → Nat
  | 0, _ => 0
  | n + 1, x => if x % 2 == 1 then 0 else 1 + ctzN n (x / 2)

/-- `n` reflected CRC steps, data bit 0 first (R141). -/
def crcBits (poly : Nat) : Nat → Nat → Nat → Nat
  | 0, c, _ => c
  | n + 1, c, d =>
    let f := (c ^^^ d) % 2
    let c' := c / 2
    crcBits poly n (if f == 1 then c' ^^^ poly else c') (d / 2)

/-- The reflected Castagnoli and ECMA-182 polynomials (CRC page). -/
def poly32c : Nat := 0x82F63B78
def poly64 : Nat := 0xC96C5795D7870F42

/-- A CRC over bytes in address order, started at all ones and inverted at the end (R141). -/
def crcOver (poly width : Nat) (bs : List Byte) : Nat :=
  (bs.foldl (fun c b => crcBits poly 8 c b.toNat) (2 ^ width - 1)) ^^^ (2 ^ width - 1)

/-- The FCRC of a frame: CRC-16 of polynomial 0x1021, reflected, started at all ones, not inverted (R350). -/
def fcrc (bs : List Byte) : Nat := bs.foldl (fun c b => crcBits 0x8408 8 c b.toNat) 0xFFFF

/-- The 16-byte digest of R243. -/
def digestOf (bs : List Byte) (epoch : Nat) : List Byte :=
  natBytes 8 (crcOver poly64 64 bs) ++ natBytes 4 (crcOver poly32c 32 bs) ++ natBytes 2 epoch ++ [0, 0]

/-- Doubling in GF(2^8) with 0x11D (R243). -/
def gfDouble (x : Nat) : Nat := if x < 128 then 2 * x else ((2 * x) ^^^ 0x11D) % 256

/-- Product in GF(2^8) (R243): `n` bits of `a` remain. -/
def gfMulN : Nat → Nat → Nat → Nat
  | 0, _, _ => 0
  | n + 1, a, b => (if a % 2 == 1 then b else 0) ^^^ gfMulN n (a / 2) (gfDouble b)

def gfMul (a b : Nat) : Nat := gfMulN 8 a b

end Sys2Proof.Machine
end

