-- ==== Sys2Proof/Machine/Float.lean ====
section
/-! DEFINITION. Number formats and their exact arithmetic: element types (R26 to R33), rounding and vector arithmetic
(R37, R38), MX blocks (R39, R40), comparison (R41, R42), compensated pairs (R43 to R45), the tile group rule and the
pair rule (R46, R47, R49) and reductions (R50, R51). Encodings are numbers; a result comes with the flags it raises,
laid out as FCTL[4:0] (R35). -/

namespace Sys2Proof.Machine

/-- How a format encodes infinities and NaNs (R27). -/
inductive Specials where
  | ieee | e4m3 | absent
deriving DecidableEq, Repr

/-- A floating-point format (R27). -/
structure Fmt where
  ebits : Nat
  fbits : Nat
  bias : Nat
  sp : Specials
deriving DecidableEq, Repr

def fp32 : Fmt := ⟨8, 23, 127, .ieee⟩
def bf16 : Fmt := ⟨8, 7, 127, .ieee⟩
def fp16 : Fmt := ⟨5, 10, 15, .ieee⟩
def e5m2 : Fmt := ⟨5, 2, 15, .ieee⟩
def e4m3 : Fmt := ⟨4, 3, 7, .e4m3⟩
def e3m2 : Fmt := ⟨3, 2, 3, .absent⟩
def e2m3 : Fmt := ⟨2, 3, 1, .absent⟩
def e2m1 : Fmt := ⟨2, 1, 1, .absent⟩

/-- Width in bits. -/
def Fmt.width (f : Fmt) : Nat := 1 + f.ebits + f.fbits
def Fmt.signBit (f : Fmt) : Nat := f.ebits + f.fbits
def Fmt.expAll (f : Fmt) : Nat := 2 ^ f.ebits - 1
/-- The sign, exponent field and fraction of an encoding. -/
def Fmt.neg (f : Fmt) (x : Nat) : Bool := bitAt x f.signBit
def Fmt.expo (f : Fmt) (x : Nat) : Nat := fld x (f.signBit - 1) f.fbits
def Fmt.frac (f : Fmt) (x : Nat) : Nat := x % 2 ^ f.fbits

/-- The largest finite magnitude's encoding (R27). -/
def Fmt.maxFinite (f : Fmt) : Nat :=
  match f.sp with
  | .ieee => f.expAll * 2 ^ f.fbits - 1
  | .e4m3 => 2 ^ (f.ebits + f.fbits) - 2
  | .absent => 2 ^ (f.ebits + f.fbits) - 1

/-- The positive infinity of a format that has one. -/
def Fmt.inf (f : Fmt) : Nat := f.expAll * 2 ^ f.fbits

/-- The canonical NaN (R32). -/
def Fmt.canonNan (f : Fmt) : Nat :=
  match f.sp with
  | .ieee => f.expAll * 2 ^ f.fbits + 2 ^ (f.fbits - 1)
  | _ => 2 ^ (f.ebits + f.fbits) - 1

def Fmt.isNan (f : Fmt) (x : Nat) : Bool :=
  match f.sp with
  | .ieee => f.expo x == f.expAll && f.frac x != 0
  | .e4m3 => f.expo x == f.expAll && f.frac x == 2 ^ f.fbits - 1
  | .absent => false

def Fmt.isInf (f : Fmt) (x : Nat) : Bool :=
  match f.sp with
  | .ieee => f.expo x == f.expAll && f.frac x == 0
  | _ => false

/-- A signalling NaN: its most significant fraction bit is 0; the E4M3 NaN is quiet. -/
def Fmt.isSnan (f : Fmt) (x : Nat) : Bool := f.isNan x && !bitAt x (f.fbits - 1)

/-- The quiet form of a NaN (R32). -/
def Fmt.quiet (f : Fmt) (x : Nat) : Nat := x ||| 2 ^ (f.fbits - 1)

/-- The encoding with sign `s` and magnitude `m`. -/
def Fmt.pack (f : Fmt) (s : Bool) (m : Nat) : Nat := s.toNat * 2 ^ f.signBit + m

/-- A value: a NaN, an infinity, or (−1)^neg × m × 2^e. -/
inductive Val where
  | nan
  | inf (neg : Bool)
  | fin (neg : Bool) (m : Nat) (e : Int)
deriving DecidableEq, Repr

/-- The value of an encoding (R27). -/
def Fmt.val (f : Fmt) (x : Nat) : Val :=
  if f.isNan x then .nan
  else if f.isInf x then .inf (f.neg x)
  else if f.expo x = 0 then .fin (f.neg x) (f.frac x) (1 - (f.bias : Int) - f.fbits)
  else .fin (f.neg x) (2 ^ f.fbits + f.frac x) ((f.expo x : Int) - f.bias - f.fbits)

/-- Flags of FCTL[4:0] (R35, R37). -/
abbrev FF := BitVec 5
def fNV : FF := 16
def fDZ : FF := 8
def fOF : FF := 4
def fUF : FF := 2
def fNX : FF := 1

/-- The rounding modes of FCTL.RM (R35). -/
inductive RM where
  | near | zero | down | up
deriving DecidableEq, Repr

/-- Whether a magnitude cut to `n` (with remainder `r` of `2^s`, plus anything below when `sticky`) is rounded away from
zero. -/
def roundAway (rm : RM) (neg : Bool) (n r s : Nat) (sticky : Bool) : Bool :=
  let half := 2 ^ s
  match rm with
  | .near => 2 * r > half || (2 * r == half && (sticky || n % 2 == 1))
  | .zero => false
  | .down => neg && (r != 0 || sticky)
  | .up => !neg && (r != 0 || sticky)

/-- m × 2^e (and a bit more when `sticky`) cut at 2^q and rounded: the multiple of 2^q, and whether it is inexact. -/
def roundAt (rm : RM) (neg : Bool) (m : Nat) (e q : Int) (sticky : Bool) : Nat × Bool :=
  if q ≤ e then (m * 2 ^ (e - q).toNat + (if sticky && roundAway rm neg (m * 2 ^ (e - q).toNat) 0 1 true then 1 else 0), sticky)
  else
    let s := (q - e).toNat
    let n := m / 2 ^ s
    let r := m % 2 ^ s
    ((if roundAway rm neg n r s sticky then n + 1 else n), r != 0 || sticky)

/-- The leading bit's weight of m × 2^e. -/
def leadExp (m : Nat) (e : Int) : Int := (Nat.log2 m : Int) + e

/-- What an overflow delivers (R38); E4M3 by SATE4 (R35). -/
def overflowTo (f : Fmt) (rm : RM) (sate4 neg : Bool) : Nat :=
  match f.sp with
  | .e4m3 => if sate4 then f.maxFinite else f.canonNan
  | .absent => f.maxFinite
  | .ieee =>
    match rm with
    | .near => f.inf
    | .zero => f.maxFinite
    | .down => if neg then f.inf else f.maxFinite
    | .up => if neg then f.maxFinite else f.inf

/-- (−1)^neg × m × 2^e rounded once into `f` (R38), with OF, UF and NX (R37). Zero keeps its sign. -/
def roundTo (f : Fmt) (rm : RM) (sate4 neg : Bool) (m : Nat) (e : Int) (sticky : Bool) : Nat × FF :=
  if m = 0 then (f.pack neg 0, 0)
  else
    let emin : Int := 1 - (f.bias : Int)
    let le := leadExp m e
    let q : Int := (if le < emin then emin else le) - f.fbits
    let (n, inexact) := roundAt rm neg m e q sticky
    -- n × 2^q; n may have carried into the next binade
    let mag : Nat :=
      if n < 2 ^ f.fbits then n
      else (q + f.fbits + f.bias - 1).toNat * 2 ^ f.fbits + n
    if f.maxFinite < mag then
      (f.pack neg (overflowTo f rm sate4 neg), fOF ||| fNX)
    else
      -- tininess after rounding (R37): rounded with unbounded exponent, still below 2^emin
      let (nu, _) := roundAt rm neg m e (le - f.fbits) sticky
      let tiny := le + 1 < emin || (le < emin && nu < 2 ^ (f.fbits + 1))
      (f.pack neg mag, (if inexact then fNX else 0) ||| (if inexact && tiny then fUF else 0))

/-- A signed exact number m × 2^e, and addition. -/
structure Dy where
  m : Int
  e : Int
deriving DecidableEq, Repr

def Dy.add (a b : Dy) : Dy :=
  let e := if a.e ≤ b.e then a.e else b.e
  ⟨a.m * 2 ^ (a.e - e).toNat + b.m * 2 ^ (b.e - e).toNat, e⟩

def dyOf (neg : Bool) (m : Nat) (e : Int) : Dy := ⟨if neg then -(m : Int) else m, e⟩

/-- An exact number rounded into `f`; an exact zero takes the sign `z`. -/
def roundDy (f : Fmt) (rm : RM) (sate4 z : Bool) (d : Dy) : Nat × FF :=
  if d.m = 0 then (f.pack z 0, 0) else roundTo f rm sate4 (d.m < 0) d.m.natAbs d.e false

/-- The quiet form of the first NaN among the operands, with NV if any is signalling (R38). -/
def nanOf (f : Fmt) : List Nat → Option (Nat × FF)
  | xs =>
    match xs.find? f.isNan with
    | some x => some (f.quiet x, if xs.any f.isSnan then fNV else 0)
    | none => none

/-- The sign of an exact zero sum (R38). DEDUCED, log entry 20. -/
def zeroSumSign (rm : RM) (na nb : Bool) : Bool := (na && nb) || rm == .down

def fAdd (f : Fmt) (rm : RM) (a b : Nat) : Nat × FF :=
  match nanOf f [a, b] with
  | some r => r
  | none =>
    match f.val a, f.val b with
    | .inf sa, .inf sb => if sa == sb then (f.pack sa f.inf, 0) else (f.canonNan, fNV)
    | .inf sa, _ => (f.pack sa f.inf, 0)
    | _, .inf sb => (f.pack sb f.inf, 0)
    | .fin na ma ea, .fin nb mb eb =>
      roundDy f rm true (zeroSumSign rm na nb) ((dyOf na ma ea).add (dyOf nb mb eb))
    | _, _ => (f.canonNan, 0)

/-- The encoding with its sign inverted; a NaN keeps its sign, so that a − b returns the quiet form of b. -/
def fNeg (f : Fmt) (x : Nat) : Nat := if f.isNan x then x else x ^^^ 2 ^ f.signBit

def fSub (f : Fmt) (rm : RM) (a b : Nat) : Nat × FF := fAdd f rm a (fNeg f b)

/-- a × b rounded into `g`, for values of format `f` (R38; `g` differs from `f` for VFWMUL). -/
def fMulTo (f g : Fmt) (rm : RM) (a b : Nat) : Nat × FF :=
  match f.val a, f.val b with
  | .inf sa, .inf sb => (g.pack (sa != sb) g.inf, 0)
  | .inf sa, .fin nb mb _ => if mb = 0 then (g.canonNan, fNV) else (g.pack (sa != nb) g.inf, 0)
  | .fin na ma _, .inf sb => if ma = 0 then (g.canonNan, fNV) else (g.pack (na != sb) g.inf, 0)
  | .fin na ma ea, .fin nb mb eb => roundTo g rm true (na != nb) (ma * mb) (ea + eb) false
  | _, _ => (g.canonNan, 0)

def fMul (f : Fmt) (rm : RM) (a b : Nat) : Nat × FF :=
  match nanOf f [a, b] with
  | some r => r
  | none => fMulTo f f rm a b

/-- a × b + c rounded once; zero times infinity sets NV even beside a NaN (R38). -/
def fMa (f : Fmt) (rm : RM) (a b c : Nat) : Nat × FF :=
  let zeroInf : Bool := match f.val a, f.val b with
    | .inf _, .fin _ m _ => m == 0
    | .fin _ m _, .inf _ => m == 0
    | _, _ => false
  match nanOf f [a, b, c] with
  | some (r, fl) => (r, if zeroInf then fl ||| fNV else fl)
  | none =>
    if zeroInf then (f.canonNan, fNV) else
    let ps := f.neg a != f.neg b
    match f.val a, f.val b, f.val c with
    | .fin _ ma ea, .fin _ mb eb, .fin nc mc ec =>
      roundDy f rm true (zeroSumSign rm ps nc) ((dyOf ps (ma * mb) (ea + eb)).add (dyOf nc mc ec))
    | .fin _ _ _, .fin _ _ _, .inf sc => (f.pack sc f.inf, 0)
    | _, _, .inf sc => if ps == sc then (f.pack sc f.inf, 0) else (f.canonNan, fNV)
    | _, _, _ => (f.pack ps f.inf, 0)

def fDiv (f : Fmt) (rm : RM) (a b : Nat) : Nat × FF :=
  match nanOf f [a, b] with
  | some r => r
  | none =>
    match f.val a, f.val b with
    | .inf _, .inf _ => (f.canonNan, fNV)
    | .inf sa, .fin nb _ _ => (f.pack (sa != nb) f.inf, 0)
    | .fin na _ _, .inf sb => (f.pack (na != sb) 0, 0)
    | .fin na ma ea, .fin nb mb eb =>
      if mb = 0 then
        if ma = 0 then (f.canonNan, fNV) else (f.pack (na != nb) f.inf, fDZ)
      else
        let n := ma * 2 ^ 64
        roundTo f rm true (na != nb) (n / mb) (ea - eb - 64) (n % mb != 0)
    | _, _ => (f.canonNan, 0)

/-- The integer square root, bit by bit: `n` candidate bits remain. -/
def isqrtN : Nat → Nat → Nat → Nat
  | 0, _, r => r
  | n + 1, x, r =>
    let t := r + 2 ^ n
    isqrtN n x (if t * t ≤ x then t else r)

def fSqrt (f : Fmt) (rm : RM) (a : Nat) : Nat × FF :=
  match nanOf f [a] with
  | some r => r
  | none =>
    match f.val a with
    | .inf s => if s then (f.canonNan, fNV) else (f.inf, 0)
    | .fin s m e =>
      if m = 0 then (f.pack s 0, 0)
      else if s then (f.canonNan, fNV)
      else
        let odd := e % 2 != 0
        let x := (if odd then 2 * m else m) * 2 ^ 64
        let r := isqrtN 48 x 0
        roundTo f rm true false r ((if odd then e - 1 else e) / 2 - 32) (r * r != x)
    | .nan => (f.canonNan, 0)

/-- Whether a is below b, for operands that are no NaN; −0 is below +0 when `zeros` is set (R41). -/
def fLess (f : Fmt) (zeros : Bool) (a b : Nat) : Bool :=
  let ma := a % 2 ^ f.signBit
  let mb := b % 2 ^ f.signBit
  if ma = 0 && mb = 0 then zeros && f.neg a && !f.neg b
  else match f.neg a, f.neg b with
    | true, true => mb < ma
    | true, false => true
    | false, true => false
    | false, false => ma < mb

/-- Minimum and maximum (R41). -/
def fMinMax (f : Fmt) (mx : Bool) (a b : Nat) : Nat × FF :=
  match nanOf f [a, b] with
  | some r => r
  | none => (if fLess f true a b == mx then b else a, 0)

/-- The comparison relations of R42. -/
inductive Rel where
  | eq | ne | lt | le
deriving DecidableEq, Repr

def fCmp (f : Fmt) (r : Rel) (a b : Nat) : Bool × FF :=
  if f.isNan a || f.isNan b then (r == .ne, if f.isSnan a || f.isSnan b then fNV else 0)
  else
    let lt := fLess f false a b
    let gt := fLess f false b a
    (match r with
     | .eq => !lt && !gt
     | .ne => lt || gt
     | .lt => lt
     | .le => !gt, 0)

/-- A NaN of `f` in format `g` (R33). -/
def nanConv (f g : Fmt) (x : Nat) : Nat :=
  match g.sp with
  | .ieee =>
    let fr := f.frac x
    let kept := if g.fbits ≤ f.fbits then fr / 2 ^ (f.fbits - g.fbits) else fr * 2 ^ (g.fbits - f.fbits)
    g.quiet (g.pack (f.neg x) (g.expAll * 2 ^ g.fbits + kept))
  | _ => g.pack (f.neg x) g.canonNan

/-- Conversion between floating-point types outside MX conversion (R33, R37, R38). -/
def fConv (f g : Fmt) (rm : RM) (sate4 : Bool) (x : Nat) : Nat × FF :=
  match f.val x with
  | .nan => (nanConv f g x, if f.isSnan x then fNV else 0)
  | .inf s =>
    match g.sp with
    | .ieee => (g.pack s g.inf, 0)
    | _ => if sate4 then (g.pack s g.maxFinite, fOF ||| fNX) else (g.pack s g.canonNan, fNV)
  | .fin s m e => roundTo g rm sate4 s m e false

/-- Float to INT32 (R38). -/
def fToI32 (rm : RM) (x : Nat) : Nat × FF :=
  match fp32.val x with
  | .nan => (0, fNV)
  | .inf s => (if s then 0x80000000 else 0x7FFFFFFF, fNV)
  | .fin s m e =>
    let (n, ix) := roundAt rm s m e 0 false
    if s then (if 2 ^ 31 < n then (0x80000000, fNV) else (ofSint 32 (-(n : Int)), if ix then fNX else 0))
    else (if 2 ^ 31 ≤ n then (0x7FFFFFFF, fNV) else (n, if ix then fNX else 0))

/-- INT32 to float (R38). -/
def i32ToF (rm : RM) (x : Nat) : Nat × FF := roundDy fp32 rm true false ⟨sint 32 x, 0⟩

/-- VADDP (R43), flags of the first output (R45). -/
def twoSum (a b : Nat) : Nat × Nat × FF :=
  match nanOf fp32 [a, b] with
  | some (r, fl) => (r, r, fl)
  | none =>
    let (s, fl) := fAdd fp32 .near a b
    match fp32.val a, fp32.val b, fp32.val s with
    | .fin na ma ea, .fin nb mb eb, .fin ns ms es =>
      (s, (roundDy fp32 .near true false
        (((dyOf na ma ea).add (dyOf nb mb eb)).add (dyOf (!ns) ms es))).1, fl)
    | _, _, .nan => (fp32.canonNan, fp32.canonNan, fl)
    | _, _, _ => (s, 0, fl)

/-- VMULP (R44), flags of the first output (R45). -/
def twoProd (a b : Nat) : Nat × Nat × FF :=
  match nanOf fp32 [a, b] with
  | some (r, fl) => (r, r, fl)
  | none =>
    let (p, fl) := fMul fp32 .near a b
    match fp32.val a, fp32.val b, fp32.val p with
    | .fin na ma ea, .fin nb mb eb, .fin np mp ep =>
      (p, (roundDy fp32 .near true false
        ((dyOf (na != nb) (ma * mb) (ea + eb)).add (dyOf (!np) mp ep))).1, fl)
    | _, _, .nan => (fp32.canonNan, fp32.canonNan, fl)
    | _, _, _ => (p, 0, fl)

/-! ### Exact terms: the group rule, the pair rule and reductions -/

/-- The exact product of two values; zero times infinity makes the result NaN (R46). -/
def Val.mul : Val → Val → Val
  | .fin na ma ea, .fin nb mb eb => .fin (na != nb) (ma * mb) (ea + eb)
  | .inf sa, .inf sb => .inf (sa != sb)
  | .inf sa, .fin nb mb _ => if mb = 0 then .nan else .inf (sa != nb)
  | .fin na ma _, .inf sb => if ma = 0 then .nan else .inf (na != sb)
  | _, _ => .nan

/-- A value times an E8M0 scale (R29). -/
def Val.scale (v : Val) (x : Nat) : Val :=
  if x = 255 then .nan
  else match v with
    | .fin n m e => .fin n m (e + (x : Int) - 127)
    | w => w

def Val.isNegZero : Val → Bool
  | .fin n m _ => m = 0 && n
  | _ => false

/-- The special cases of R46, in order; `none` when every term is finite. DEDUCED, log entry 20. -/
def specialSum (ts : List Val) : Option Nat :=
  if ts.any (fun t => t == .nan) then some fp32.canonNan
  else if ts.any (fun t => t == .inf false) && ts.any (fun t => t == .inf true) then some fp32.canonNan
  else if ts.any (fun t => t == .inf false) then some fp32.inf
  else if ts.any (fun t => t == .inf true) then some (fp32.pack true fp32.inf)
  else none

/-- The largest exponent of a leading bit among the nonzero terms. -/
def maxLead (ts : List Val) : Option Int :=
  ts.foldl (fun acc t =>
    match t with
    | .fin _ m e =>
      if m = 0 then acc
      else match acc with
        | none => some (leadExp m e)
        | some b => some (if b < leadExp m e then leadExp m e else b)
    | _ => acc) none

/-- A term cut to a multiple of 2^q, toward zero on the magnitude. -/
def cutAt (q : Int) : Val → Dy
  | .fin n m e =>
    dyOf n (if e ≥ q then m * 2 ^ (e - q).toNat else m / 2 ^ (q - e).toNat) q
  | _ => ⟨0, q⟩

def sumDy (ds : List Dy) : Dy := ds.foldl Dy.add ⟨0, 0⟩

/-- The tile group rule for one output element (R46); `acc` is absent with ACC = 0 (R64). −0 comes only of terms that are
all −0. DEDUCED, log entry 20. -/
def groupRule (products : List Val) (acc : Option Nat) : Nat :=
  let ts := products ++ (match acc with
    | some c => [fp32.val c]
    | none => [])
  match specialSum ts with
  | some r => r
  | none =>
    match maxLead ts with
    | none => if !ts.isEmpty && ts.all Val.isNegZero then fp32.pack true 0 else 0
    | some e =>
      let r := (roundDy fp32 .near true false (sumDy (ts.map (cutAt (e - 26))))).1
      if r = fp32.pack true 0 then 0 else r

/-- The exact value of a finite term. -/
def exactOf : Val → Dy
  | .fin n m e => dyOf n m e
  | _ => ⟨0, 0⟩

/-- The pair rule for one output element (R49): hi' and lo'. A sum below zero that rounds to zero gives −0, in hi' and in lo': the
model's choice. DEDUCED, log entry 20. DESIGN CHOICE, log entry 86. -/
def pairRule (products : List Val) (acc : Option (Nat × Nat)) : Nat × Nat :=
  let as := match acc with
    | some (h, l) => [fp32.val h, fp32.val l]
    | none => []
  match specialSum (products ++ as) with
  | some r => (r, if fp32.isNan r then r else 0)
  | none =>
    let ps := match maxLead products with
      | none => []
      | some e => products.map (cutAt (e - 26))
    let s := sumDy (ps ++ as.map exactOf)
    if s.m = 0 then
      (if !(products ++ as).isEmpty && (products ++ as).all Val.isNegZero then fp32.pack true 0 else 0, 0)
    else
      let hi := (roundDy fp32 .near true false s).1
      if fp32.isInf hi then (hi, 0)
      else
        let d := exactOf (fp32.val hi)
        (hi, (roundDy fp32 .near true false (s.add ⟨-d.m, d.e⟩)).1)

/-- An exact integer cut to INT32 once (R47, R51, R157). -/
def sat32 (i : Int) : Nat :=
  ofSint 32 (if i < -(2 ^ 31 : Int) then -(2 ^ 31) else if (2 ^ 31 : Int) - 1 < i then 2 ^ 31 - 1 else i)

/-- A reduction of floating-point contributions of format `f` (R50); `mean` divides by `n`. -/
def reduceF (f : Fmt) (mean : Bool) (n : Nat) (xs : List Nat) : Nat :=
  let ts := xs.map f.val
  if ts.any (fun t => t == .nan) then f.canonNan
  else if ts.any (fun t => t == .inf false) && ts.any (fun t => t == .inf true) then f.canonNan
  else if ts.any (fun t => t == .inf false) then f.inf
  else if ts.any (fun t => t == .inf true) then f.pack true f.inf
  else
    let s := sumDy (ts.map exactOf)
    if s.m = 0 then (if !ts.isEmpty && ts.all Val.isNegZero then f.pack true 0 else 0)
    else if mean then
      let k := s.m.natAbs * 2 ^ 64
      (roundTo f .near true (s.m < 0) (k / n) (s.e - 64) (k % n != 0)).1
    else (roundDy f .near true false s).1

/-- A reduction of INT32 contributions (R51). -/
def reduceI (mean : Bool) (n : Nat) (xs : List Nat) : Nat :=
  let s := (xs.map (sint 32)).foldl (· + ·) 0
  if mean && n != 0 then
    let q := s.natAbs / n
    let r := s.natAbs % n
    let m := if 2 * r > n || (2 * r == n && q % 2 == 1) then q + 1 else q
    sat32 (if s < 0 then -(m : Int) else m)
  else sat32 s

/-! ### MX blocks -/

/-- The element types of MX conversion: format and emax, or MXINT8 (R39). -/
inductive MxElem where
  | flt (f : Fmt) (emax : Nat)
  | int8
deriving DecidableEq, Repr

/-- The six MX types in the order of their func codes (R156). -/
def mxElem (t : Nat) : MxElem :=
  match t with
  | 0 => .flt e4m3 8
  | 1 => .flt e5m2 15
  | 2 => .flt e3m2 4
  | 3 => .flt e2m3 2
  | 4 => .flt e2m1 2
  | _ => .int8

def MxElem.bits : MxElem → Nat
  | .flt f _ => f.width
  | .int8 => 8

/-- One element scaled by 2^(127 − x) (R39): its code, and whether it is inexact. -/
def mxRound (t : MxElem) (neg : Bool) (m : Nat) (e : Int) : Nat × Bool :=
  match t with
  | .int8 =>
    let (n, ix) := roundAt .near neg m (e + 6) 0 false
    let c := if 127 < n then 127 else n
    (ofSint 8 (if neg then -(c : Int) else c), ix || 127 < n)
  | .flt f _ =>
    let (r, fl) := roundTo { f with sp := .absent } .near true neg m e false
    let mag := r % 2 ^ f.signBit
    (f.pack neg (if f.maxFinite < mag then f.maxFinite else mag), fl &&& fNX != 0 || f.maxFinite < mag)

/-- Conversion of one block of 32 values of format `f` (R39): scale, elements, flags. -/
def mxBlock (f : Fmt) (t : MxElem) (v : List Nat) : Nat × List Nat × FF :=
  if v.any (fun x => f.isNan x || f.isInf x) then (255, v.map (fun _ => 0), fNV)
  else
    let vs := v.map f.val
    let emax : Int := match t with
      | .flt _ k => k
      | .int8 => 0
    let es : Int := match maxLead vs with
      | none => -127
      | some e => e - emax
    let x : Int := if es + 127 < 0 then 0 else if 254 < es + 127 then 254 else es + 127
    let els := vs.map (fun w =>
      match w with
      | .fin n m e => mxRound t n m (e + 127 - x)
      | _ => (0, false))
    (x.toNat, els.map (·.1), if els.any (·.2) then fNX else 0)

/-- An element with its block's scale into format `g` (R40). -/
def mxToFloat (t : MxElem) (g : Fmt) (rm : RM) (el sc : Nat) : Nat × FF :=
  if sc = 255 then (g.canonNan, fNV)
  else match t with
    | .int8 =>
      let q := sint 8 el
      roundTo g rm true (q < 0) q.natAbs ((sc : Int) - 127 - 6) false
    | .flt f _ =>
      match f.val el with
      | .nan => (nanConv f g el, if f.isSnan el then fNV else 0)
      | .inf s => (g.pack s g.inf, 0)
      | .fin s m e => roundTo g rm true s m (e + (sc : Int) - 127) false

/-- Element `i` of packed elements of `bits` bits (R31): narrow elements pack little-endian without gaps. -/
def unpackAt (bits i x : Nat) : Nat := fld x (bits * i + bits - 1) (bits * i)

/-- Elements packed in R31's order. -/
def packAll (bits : Nat) : List Nat → Nat
  | [] => 0
  | e :: es => e % 2 ^ bits + 2 ^ bits * packAll bits es

end Sys2Proof.Machine
end

