-- ==== Sys2Proof/Config.lean ====
section
/-! DEFINITION. What one module fixes for itself, and the free values: opaque constants with no body, so that
every statement holds for whatever they are. -/

namespace Sys2Proof.Config

/-- The module serial, a decimal number below 2^39 (R435). DESIGN CHOICE, log entry 9. -/
opaque serial : Nat
/-- Hardware revision (R435). DESIGN CHOICE, log entry 9. -/
opaque hwRevision : BitVec 16
/-- Typed measurements of the device that the manual lists without a default (R435, the dashes). DESIGN CHOICE, log entries 10, 9. -/
opaque undocumentedDefault : Nat → Nat
/-- The voltage in mV that gives a spur 0.45 Gbeat/s at its ridge die's temperature (R273). DESIGN CHOICE, log entry 13. -/
opaque railFloor : Nat → Nat
/-- A value that the manual leaves open, drawn afresh by number (the counter is State.fresh). DESIGN CHOICE, log entry 13. -/
opaque freeValue : Nat → Word
/-- FWKEYHASH, burned into fuses before wafer test ends (R441). DESIGN CHOICE, log entry 9. -/
opaque fwKeyHash : List Byte
/-- SEED and I of the identity key that the module of State.reset was provisioned with (R446). DESIGN CHOICE, log entry 8. -/
opaque identitySeed : List Byte
opaque identityId : List Byte
/-- SEED and I of a level-1 tree, from those of the identity key and the tree's number: the manual gives no formula (R446). DESIGN CHOICE,
log entry 14. -/
opaque treeSeed : List Byte → List Byte → Nat → List Byte
opaque treeId : List Byte → List Byte → Nat → List Byte
/-- The randomizer of a signature, by level and leaf (RFC 8554, section 4.5). DESIGN CHOICE, log entry 14. -/
opaque randomizer : Nat → Nat → List Byte
/-- The bank of a line of a stack: the manual gives no bank map (R233, R234). DESIGN CHOICE, log entry 12. -/
opaque bankOf : Nat → Nat
/-- The row of its bank that a line stands in: the manual gives no row map (R233, R281). DESIGN CHOICE, log entry 12. -/
opaque rowOf : Nat → Nat
/-- Which line an instruction cache gives up: the manual gives no organisation (R15, R282). DESIGN CHOICE, log entry 12. -/
opaque icacheVictim : List Nat → Nat
/-- The address at which the boot cores begin an image whose ENTRY is given: the manual does not say where its body stands
(R189, R441). DESIGN CHOICE, log entry 15. -/
opaque bootEntry : Nat → BitVec 48
/-- At which member of a ring of links the fabric-manager firmware sets DL: the one with the least of these numbers, by device and port,
of which the manual says nothing (R358). DESIGN CHOICE, log entry 15. -/
opaque dateline : Nat → Nat → Nat
/-- The port through which a member reaches a module that has joined after it, of which no frame tells the manager (R340). DESIGN
CHOICE, log entry 15. -/
opaque unreportedPort : Nat → Nat → Nat
/-- The class of a line in a far module, of which the answer frame says nothing (R283). DESIGN CHOICE, log entry 82. -/
opaque farClass : Nat → Nat
/-- The link-symbol crossing of link `i` on the way to a device, behind the module's own port (R277, R283); and how many links lie between
the module and a device. DESIGN CHOICE, log entry 82. -/
opaque farCrossing : Nat → Nat → Nat
opaque hopsTo : Nat → Nat
/-- What the manual leaves to each manager frame (R348, R349), by its kind and what it carries: the TYPE, counted from 0x18, of the kinds
that the table does not name, and TAG, LINE, AUX and the data flits. DESIGN CHOICE, log entry 83. -/
opaque mgrType : Nat → Nat
opaque mgrTag : Nat → List Nat → BitVec 16
opaque mgrLine : Nat → List Nat → BitVec 45
opaque mgrAux : Nat → List Nat → BitVec 16
opaque mgrData : Nat → List Nat → List (BitVec 128)

/-- How wide a far domain is that answers Fenced: a cluster or a saddle, a spur, a ridge die, or the module (R321). DESIGN CHOICE, log
entry 82. -/
opaque farFence : Nat → Nat
/-- How many shards the range has, by restore; like what follows it is the firmware's, and the manual does not say where it lies (R326 to
R334). DESIGN CHOICE, log entry 80. -/
opaque shardCount : Nat → Nat
/-- The copies of a shard that the firmware finds, by restore and shard: their bytes and digests. DESIGN CHOICE, log entry 80. -/
opaque shardCopies : Nat → Nat → List (List Byte × List Byte)
/-- A shard's place among the ten members of its parity group. DESIGN CHOICE, log entry 80. -/
opaque shardPlace : Nat → Nat
/-- What the ten members of a shard's group still hold, by restore, shard and epoch. DESIGN CHOICE, log entry 80. -/
opaque shardGroup : Nat → Nat → Nat → List (Option (List Byte))
/-- The digest that the table of its group gives a shard, by restore, shard and epoch. DESIGN CHOICE, log entry 80. -/
opaque shardDigest : Nat → Nat → Nat → List Byte

/-- Whether an access that no page translates counts as shared, and its reuse class: R208 gives both to pages only.
DESIGN CHOICE, log entry 11. -/
opaque untranslatedShared : Bool
/-- DESIGN CHOICE, log entry 11. -/
opaque untranslatedClass : BitVec 2

end Sys2Proof.Config
end

