-- ==== Sys2Proof/Machine/Hash.lean ====
section
/-! DEFINITION. The standards' functions that the management and security chapters name: SHA-256 (FIPS 180-4), HMAC-SHA-256 (RFC
2104), and the hash-based signatures of RFC 8554 with the parameter sets of R442 and R446. -/

namespace Sys2Proof.Machine

/-! ### SHA-256 -/

/-- A number as `n` bytes, most significant first, as these standards write them. -/
def natBytesBE (n v : Nat) : List Byte := (natBytes n v).reverse
def u16str (v : Nat) : List Byte := natBytesBE 2 v
def u32str (v : Nat) : List Byte := natBytesBE 4 v
/-- A 32-bit word of four bytes, most significant first. -/
def word32 (bs : List Byte) : BitVec 32 := BitVec.ofNat 32 (bytesNat bs.reverse)

/-- The 64 round constants: the first 32 bits of the fractional parts of the cube roots of the first 64 primes. -/
def shaK0 : List Nat :=
  [0x428A2F98, 0x71374491, 0xB5C0FBCF, 0xE9B5DBA5, 0x3956C25B, 0x59F111F1, 0x923F82A4, 0xAB1C5ED5,
   0xD807AA98, 0x12835B01, 0x243185BE, 0x550C7DC3, 0x72BE5D74, 0x80DEB1FE, 0x9BDC06A7, 0xC19BF174,
   0xE49B69C1, 0xEFBE4786, 0x0FC19DC6, 0x240CA1CC, 0x2DE92C6F, 0x4A7484AA, 0x5CB0A9DC, 0x76F988DA,
   0x983E5152, 0xA831C66D, 0xB00327C8, 0xBF597FC7, 0xC6E00BF3, 0xD5A79147, 0x06CA6351, 0x14292967]
def shaK1 : List Nat :=
  [0x27B70A85, 0x2E1B2138, 0x4D2C6DFC, 0x53380D13, 0x650A7354, 0x766A0ABB, 0x81C2C92E, 0x92722C85,
   0xA2BFE8A1, 0xA81A664B, 0xC24B8B70, 0xC76C51A3, 0xD192E819, 0xD6990624, 0xF40E3585, 0x106AA070,
   0x19A4C116, 0x1E376C08, 0x2748774C, 0x34B0BCB5, 0x391C0CB3, 0x4ED8AA4A, 0x5B9CCA4F, 0x682E6FF3,
   0x748F82EE, 0x78A5636F, 0x84C87814, 0x8CC70208, 0x90BEFFFA, 0xA4506CEB, 0xBEF9A3F7, 0xC67178F2]
/-- The first hash value: of the square roots of the first 8 primes. -/
def shaH : List (BitVec 32) :=
  [0x6A09E667, 0xBB67AE85, 0x3C6EF372, 0xA54FF53A, 0x510E527F, 0x9B05688C, 0x1F83D9AB, 0x5BE0CD19]

/-- The message, a 1 bit, zeros, and the length in bits in 8 bytes, to a multiple of 64 bytes. -/
def shaPad (m : List Byte) : List Byte :=
  m ++ [0x80] ++ List.replicate ((119 - m.length % 64) % 64) 0 ++ natBytesBE 8 (8 * m.length)

/-- The 16 words of a block. -/
def shaWords : Nat → List Byte → List (BitVec 32)
  | 0, _ => []
  | n + 1, bs => word32 (bs.take 4) :: shaWords n (bs.drop 4)

/-- The next word of the message schedule, from the last 16. -/
def shaNext (w : List (BitVec 32)) : BitVec 32 :=
  let x := w.getD 14 0
  let y := w.getD 1 0
  (x.rotateRight 17 ^^^ x.rotateRight 19 ^^^ (x >>> 10)) + w.getD 9 0
    + (y.rotateRight 7 ^^^ y.rotateRight 18 ^^^ (y >>> 3)) + w.getD 0 0

/-- One round on the eight working variables. -/
def shaRound (v : List (BitVec 32)) (k w : BitVec 32) : List (BitVec 32) :=
  match v with
  | [a, b, c, d, e, f, g, h] =>
    let t1 := h + (e.rotateRight 6 ^^^ e.rotateRight 11 ^^^ e.rotateRight 25) + ((e &&& f) ^^^ (~~~e &&& g)) + k + w
    let t2 := (a.rotateRight 2 ^^^ a.rotateRight 13 ^^^ a.rotateRight 22) + ((a &&& b) ^^^ (a &&& c) ^^^ (b &&& c))
    [t1 + t2, a, b, c, d + t1, e, f, g]
  | _ => v

/-- The rounds for a list of constants; `w` holds the next 16 words of the schedule. -/
def shaRounds : List Nat → List (BitVec 32) → List (BitVec 32) → List (BitVec 32)
  | [], _, v => v
  | k :: ks, w, v => shaRounds ks (w.drop 1 ++ [shaNext w]) (shaRound v (BitVec.ofNat 32 k) (w.getD 0 0))

/-- The compression of `n` blocks. -/
def shaBlocks : Nat → List Byte → List (BitVec 32) → List (BitVec 32)
  | 0, _, h => h
  | n + 1, bs, h =>
    shaBlocks n (bs.drop 64) (List.zipWith (· + ·) h (shaRounds (shaK0 ++ shaK1) (shaWords 16 (bs.take 64)) h))

/-- SHA-256 (R441, R442, R450). -/
@[irreducible] def sha256 (m : List Byte) : List Byte :=
  let p := shaPad m
  (shaBlocks (p.length / 64) p shaH).flatMap (fun w => u32str w.toNat)

/-- HMAC-SHA-256, key first (R420, R422). -/
@[irreducible] def hmacSha256 (key m : List Byte) : List Byte :=
  let k0 := if 64 < key.length then sha256 key else key
  let k := k0 ++ List.replicate (64 - k0.length) 0
  sha256 (k.map (· ^^^ 0x5C) ++ sha256 (k.map (· ^^^ 0x36) ++ m))

/-! ### Hash-based signatures (RFC 8554) -/

/-- The parameters of an LMS key: its type and height, its LM-OTS type, Winternitz width, number of chains and checksum shift. -/
structure LmsSet where
  type : Nat
  height : Nat
  ots : Nat
  width : Nat
  chains : Nat
  shift : Nat
deriving DecidableEq, Repr

/-- LMS_SHA256_M32_H15 with LMOTS_SHA256_N32_W8, of firmware images (R442). -/
def lmsImage : LmsSet := { type := 7, height := 15, ots := 4, width := 8, chains := 34, shift := 0 }
/-- LMS_SHA256_M32_H20 with LMOTS_SHA256_N32_W4, of the identity key (R446). -/
def lmsIdentity : LmsSet := { type := 8, height := 20, ots := 3, width := 4, chains := 67, shift := 4 }

/-- The bytes of an LM-OTS signature, of an LMS signature, of an LMS public key. -/
def LmsSet.otsLen (p : LmsSet) : Nat := 36 + 32 * p.chains
def LmsSet.sigLen (p : LmsSet) : Nat := 8 + p.otsLen + 32 * p.height
def lmsKeyLen : Nat := 56

/-- Digit `i` of a string, of the key's width. -/
def LmsSet.digit (p : LmsSet) (s : List Byte) (i : Nat) : Nat :=
  let per := 8 / p.width
  (s.getD (i / per) 0).toNat / 2 ^ (8 - p.width * (i % per + 1)) % 2 ^ p.width
/-- A hash with its checksum. -/
def LmsSet.summed (p : LmsSet) (q : List Byte) : List Byte :=
  let sum := ((List.range (256 / p.width)).map (fun i => 2 ^ p.width - 1 - p.digit q i)).sum
  q ++ u16str (sum * 2 ^ p.shift % 65536)
/-- `n` steps of chain `i`, from step `j`. -/
def chainStep (id : List Byte) (q i : Nat) : Nat → Nat → List Byte → List Byte
  | 0, _, x => x
  | n + 1, j, x => chainStep id q i n (j + 1) (sha256 (id ++ u32str q ++ u16str i ++ natBytesBE 1 j ++ x))
/-- What leaf `q` signs for a message. -/
def LmsSet.message (p : LmsSet) (id : List Byte) (q : Nat) (c m : List Byte) : List Byte :=
  p.summed (sha256 (id ++ u32str q ++ u16str 0x8181 ++ c ++ m))
/-- The LM-OTS public key of the ends of the chains. -/
def otsKey (id : List Byte) (q : Nat) (ends : List (List Byte)) : List Byte :=
  sha256 (id ++ u32str q ++ u16str 0x8080 ++ ends.flatten)
/-- A leaf of the tree, an inner node. -/
def lmsLeaf (id : List Byte) (r : Nat) (k : List Byte) : List Byte := sha256 (id ++ u32str r ++ u16str 0x8282 ++ k)
def lmsInner (id : List Byte) (r : Nat) (a b : List Byte) : List Byte := sha256 (id ++ u32str r ++ u16str 0x8383 ++ a ++ b)

/-! ### Verification -/

/-- `n` bytes from an offset. -/
def cutBytes (bs : List Byte) (off n : Nat) : List Byte := (bs.drop off).take n
/-- A big-endian word of a list of bytes. -/
def wordBE (bs : List Byte) (off : Nat) : Nat := bytesNat (cutBytes bs off 4).reverse

/-- The root that a path leads to, from a node and its hash. -/
def lmsClimb (id : List Byte) : Nat → Nat → List Byte → List Byte → List Byte
  | 0, _, x, _ => x
  | n + 1, r, x, path =>
    let y := path.take 32
    let up := if r % 2 = 1 then lmsInner id (r / 2) y x else lmsInner id (r / 2) x y
    lmsClimb id n (r / 2) up (path.drop 32)

/-- An LMS signature of a message under a public key, both of these parameters, by their types (RFC 8554, sections 4.6, 5.4.2). -/
def LmsSet.verifies (p : LmsSet) (key m sig : List Byte) : Bool :=
  let id := cutBytes key 8 16
  let q := wordBE sig 0
  let w := p.message id q (cutBytes sig 8 32) m
  let ends := (List.range p.chains).map (fun i =>
    let a := p.digit w i
    chainStep id q i (2 ^ p.width - 1 - a) a (cutBytes sig (40 + 32 * i) 32))
  let r := 2 ^ p.height + q
  key.length = lmsKeyLen && sig.length = p.sigLen
  && wordBE key 0 = p.type && wordBE key 4 = p.ots && wordBE sig 4 = p.ots && wordBE sig (4 + p.otsLen) = p.type
  && q < 2 ^ p.height
  && lmsClimb id p.height r (lmsLeaf id r (otsKey id q ends)) (sig.drop (8 + p.otsLen)) = cutBytes key 24 32

/-- An HSS signature of two levels, both of these parameters: Nspk is 1 (R442; RFC 8554, section 6.3). -/
def LmsSet.hssVerifies (p : LmsSet) (key m sig : List Byte) : Bool :=
  let mid := cutBytes sig (4 + p.sigLen) lmsKeyLen
  key.length = 4 + lmsKeyLen && wordBE key 0 = 2 && wordBE sig 0 = 1
  && p.verifies (key.drop 4) mid (cutBytes sig 4 p.sigLen)
  && p.verifies mid m (sig.drop (4 + p.sigLen + lmsKeyLen))

/-! ### Signing -/

/-- A private key by the pseudorandom method: what its chains begin with comes from SEED and I (R446; RFC 8554, Appendix A). -/
structure LmsKey where
  seed : List Byte
  id : List Byte
deriving DecidableEq, Repr

def LmsKey.chainStart (k : LmsKey) (q i : Nat) : List Byte :=
  sha256 (k.id ++ u32str q ++ u16str i ++ [0xFF] ++ k.seed)
/-- Chain `i` of leaf `q` after `n` steps. -/
def LmsKey.chain (k : LmsKey) (q i n : Nat) : List Byte := chainStep k.id q i n 0 (k.chainStart q i)
/-- The node `r` of the tree, `n` levels above the leaves. -/
def LmsKey.node (k : LmsKey) (p : LmsSet) : Nat → Nat → List Byte
  | 0, r =>
    let q := r - 2 ^ p.height
    lmsLeaf k.id r (otsKey k.id q ((List.range p.chains).map (fun i => k.chain q i (2 ^ p.width - 1))))
  | n + 1, r => lmsInner k.id r (k.node p n (2 * r)) (k.node p n (2 * r + 1))
/-- The public key. -/
def LmsKey.public (k : LmsKey) (p : LmsSet) : List Byte := u32str p.type ++ u32str p.ots ++ k.id ++ k.node p p.height 1
/-- The siblings on the way from leaf `q` to the root. -/
def LmsKey.path (k : LmsKey) (p : LmsSet) (q : Nat) : List Byte :=
  (List.range p.height).flatMap (fun n => k.node p n (((2 ^ p.height + q) / 2 ^ n) ^^^ 1))
/-- An LMS signature with leaf `q` and randomizer `c`. -/
def LmsKey.sign (k : LmsKey) (p : LmsSet) (q : Nat) (c m : List Byte) : List Byte :=
  let w := p.message k.id q c m
  u32str q ++ u32str p.ots ++ c ++ (List.range p.chains).flatMap (fun i => k.chain q i (p.digit w i))
    ++ u32str p.type ++ k.path p q

/-- A list of bytes at a length. -/
def fitBytes (n : Nat) (bs : List Byte) : List Byte := (bs ++ List.replicate n 0).take n

/-- The key of level-1 tree `j`: the manual derives it from SEED, I and j by the same method, and gives no formula for SEED and I of
the tree (R446). DESIGN CHOICE, log entry 14. -/
def LmsKey.child (k : LmsKey) (j : Nat) : LmsKey :=
  { seed := fitBytes 32 (Config.treeSeed k.seed k.id j), id := fitBytes 16 (Config.treeId k.seed k.id j) }
/-- The HSS public key of the identity (R446). -/
def LmsKey.hssPublic (k : LmsKey) : List Byte := u32str 2 ++ k.public lmsIdentity
/-- The HSS signature with global index `q`: level-0 leaf q[39:20] signs level-1 tree q[39:20], whose leaf q[19:0] signs the message
(R447). The randomizers come from the random source. DESIGN CHOICE, log entry 14. -/
def LmsKey.hssSign (k : LmsKey) (q : Nat) (m : List Byte) : List Byte :=
  let j := q / 2 ^ 20
  let t := k.child j
  let pub := t.public lmsIdentity
  u32str 1 ++ k.sign lmsIdentity j (fitBytes 32 (Config.randomizer 0 j)) pub ++ pub
    ++ t.sign lmsIdentity (q % 2 ^ 20) (fitBytes 32 (Config.randomizer 1 q)) m

end Sys2Proof.Machine
end

