-- ==== Sys2Proof/Machine/Map.lean ====
section
/-! DEFINITION. Sparse tables: a list of (key, value) pairs, keys strictly rising, no entry equal to the value an
unlisted key reads as. Memory (a list of `Host.Cell`), the units of the module and the dictionary are held so. -/

namespace Sys2Proof.Machine

/-- A sparse table. What an unlisted key reads as is given by the reader. -/
abbrev Map (α : Type) := List (Nat × α)

/-- The entry for key `k`, if one is listed. -/
def mfind {α : Type} : Map α → Nat → Option α
  | [], _ => none
  | (k', v) :: m, k => if k' = k then some v else mfind m k

/-- The value at key `k`; `d k` where none is listed. -/
def mget {α : Type} (d : Nat → α) (m : Map α) (k : Nat) : α :=
  match mfind m k with
  | some v => v
  | none => d k

/-- The table with key `k` not listed. -/
def mdel {α : Type} : Map α → Nat → Map α
  | [], _ => []
  | (k', v) :: m, k => if k' = k then mdel m k else (k', v) :: mdel m k

/-- The pair put before the first larger key. -/
def mins {α : Type} : Map α → Nat → α → Map α
  | [], k, v => [(k, v)]
  | (k', v') :: m, k, v => if k < k' then (k, v) :: (k', v') :: m else (k', v') :: mins m k v

/-- The table with key `k` listed with value `v`, keys still rising. -/
def mput {α : Type} (m : Map α) (k : Nat) (v : α) : Map α := mins (mdel m k) k v

/-- Writing: the canonical form is kept by not listing what an unlisted key reads as. -/
def mset {α : Type} [DecidableEq α] (d : Nat → α) (m : Map α) (k : Nat) (v : α) : Map α :=
  if v = d k then mdel m k else mput m k v

/-- Every listed value is updated; what becomes the value of an unlisted key is listed no more. -/
def mupd {α : Type} [DecidableEq α] (d : Nat → α) (f : Nat → α → α) : Map α → Map α
  | [] => []
  | (k, v) :: m => if f k v = d k then mupd d f m else (k, f k v) :: mupd d f m

/-- Every key of `m` is above `lo`, and the keys rise. -/
def mrising {α : Type} : Option Nat → Map α → Bool
  | _, [] => true
  | lo, (k, _) :: m =>
    (match lo with
     | none => true
     | some l => decide (l < k)) && mrising (some k) m

/-- The canonical form: keys strictly rising, and no entry equal to what an unlisted key reads as. -/
def mwf {α : Type} [DecidableEq α] (d : Nat → α) (m : Map α) : Bool :=
  mrising none m && m.all (fun e => decide (e.2 ≠ d e.1))

end Sys2Proof.Machine
end

