-- ==== Sys2Proof/Machine/State.lean ====
section
/-! DEFINITION. The state of the module: every register, queue, buffer and counter the manual gives it, as plain
data, and the queue of waiting commands. A unit's table lists only the units that differ from their reset value. -/

namespace Sys2Proof.Machine

/-- Local DRAM (R196): (address, byte) pairs in canonical form; see `memDefault`. -/
abbrev Memory := List Host.Cell

/-- One save set with its vector base and scratch register (R176 to R182). -/
structure SaveSet where
  pc : Word := 0
  st : Word := 0
  cause : Word := 0
  faultv : Word := 0
  aux : Word := 0
  ivec : Word := 0
  scratch : Word := 0
deriving DecidableEq, Repr

/-- Where a result in flight lands (R114, R115, R163). -/
inductive PDest where
  | sreg (r : Reg)
  /-- a field-by-field write of system register `sr`, with the W1C bits `clr`, checked at level `lvl` (R131, R171) -/
  | sys (sr : BitVec 12) (clr : Word) (lvl : BitVec 2)
  | fflags
deriving DecidableEq, Repr

/-- A result in flight: it takes effect at active beat `due`; `tag` names the request whose answer it awaits. -/
structure Pend where
  due : Nat
  dst : PDest
  tag : Option Nat
  val : Word
  /-- the spur beat from which the value is present (R118) -/
  ready : Nat := 0
  /-- the virtual address of the access that the result comes from (R172), its width and its extension (R125) -/
  va : Word := 0
  bytes : Nat := 8
  signed : Bool := false
deriving DecidableEq, Repr

/-- An exception that an instruction has raised and that has not been entered yet (R172, R185, R192). -/
structure Exc where
  code : BitVec 16
  faultv : Word
  restart : BitVec 48
  ecode : BitVec 16
  x : Nat
  deferred : Bool
  shd : Bool
deriving DecidableEq, Repr

/-- What an access is, for translation and checks (R209). -/
inductive Acc where
  | fetch | load | store
  /-- a PREF, whose failed translation is discarded (R125) -/
  | pref
  /-- an operand of a near-memory command: A is checked for W, B and C for R -/
  | nmcA | nmcSrc
deriving DecidableEq, Repr

/-- Why a core is frozen (R116, R210). -/
inductive Freeze where
  | answer | icache | memFull | syncFull | canvasFull | tfence | storePath
  | walk (va : Word) (acc : Acc)
deriving DecidableEq, Repr

/-- A near-memory command with its translated operands (R237, NMC page); B lies in the page from `bBase` to `bEnd`. -/
structure NmcCmd where
  op : BitVec 4
  a : Word
  b : Word
  p : Word
  c : Word
  cairn : Option Word
  ident : Word
  bBase : Word
  bEnd : Word
deriving DecidableEq, Repr

/-- What an entry of a memory or sync queue does (R126). -/
inductive QOp where
  | load (bytes : Nat) (signed : Bool)
  | store (bytes : Nat) (v : Word)
  | tileRow (row : Nat) (ca : Bool)
  | pref (hint : Reg) (pageEnd : Word)
  | lr (dbl aq : Bool)
  | sc (dbl rl : Bool) (v : Word)
  | fence (scope : Fin 3)
  | fenceI
  | nmc (cmd : NmcCmd)
  | sigc (dec : Bool) (n : Nat)
  | waitGe (n : Nat)
  /-- a barrier wait; with a sense it is sent again as a pure wait (R269) -/
  | waitBar (sense : Option Bool)
deriving DecidableEq, Repr

/-- One entry of a memory or sync queue. `at_` is the first beat at which it may be sent (R126, R284); `sent` says that its
request has left, or that the release before it has begun; `again` that it is to be sent again (R269). -/
structure QEntry where
  id : Nat
  at_ : Nat
  op : QOp
  pa : Word
  va : Word
  sh : Bool
  cls : BitVec 2
  sent : Bool
  again : Bool
deriving DecidableEq, Repr

/-- A tile transfer in progress (R100 to R105). `rows` counts the rows; `next` is the first row not yet requested and `q`
the beat of its request; `moved` is the first row not yet moved and `w` the first beat at which it may be. `tags` names
the rows whose data is awaited, `got` holds the rows that have arrived with their beat, and `fault` the row that ends the
transfer, with its cause, FAULTV, the error code of an answer and the first beat at which it may be taken. -/
structure Xfer where
  load : Bool
  tn : BitVec 3
  base : Word
  stride : Word
  first : Nat
  rows : Nat
  ca : Bool
  next : Nat
  q : Nat
  moved : Nat
  w : Nat
  tags : List (Nat × Nat)
  got : List (Nat × Nat × Line)
  /-- the lines that have arrived for its rows: line number of the virtual address, spur beat and bytes (R100) -/
  lines : List (Nat × Nat × BitVec 1024)
  fault : Option (Nat × Nat × Word × Nat × Nat)
deriving DecidableEq, Repr

/-- A TMVV or TMVT in progress (R88, R168): the lines still to be read and those still to be written, in order, what the last
step has read, the collector beat of the next step, and the beat of the last access. -/
structure Move where
  src : List Nat
  dst : List Nat
  prev : Option Line
  at_ : Nat
  last : Nat
deriving DecidableEq, Repr

/-- A canvas command: its queue entry (R62), the beat of its slot beat 0, the beat up to which its palette accesses have
been made, and the lines that the cells, feeders and reducers have read so far (R53 to R55, R73). -/
structure CCmd where
  entry : BitVec 128
  start : Nat
  done : Nat
  got : Map Line
deriving DecidableEq, Repr

/-- An entry of a translation cache (R210): a valid leaf with its page, its size and its ASID. -/
structure Tlb where
  vpn : Nat
  big : Bool
  asid : BitVec 16
  leaf : Word
deriving DecidableEq, Repr

/-- One core: its registers (R111, R131, R154, R171 to R182), its palette partition (R86, R87), its queues (R59, R126)
and what it has in flight. -/
structure Core where
  s : Map Word := []
  pc : BitVec 48 := 0
  /-- the target of the taken branch whose delay slot is the next instruction (R129) -/
  slot : Option (BitVec 48) := none
  stat : Word := 3
  saveS : SaveSet := {}
  saveM : SaveSet := {}
  vcfg : Word := 0x20
  fctl : Word := 0x800
  tprog : Word := 0
  cflags : BitVec 2 := 0
  lcnt : Word := 0
  lbeg : Word := 0
  lend : Word := 0
  /-- what SYSR still reads of LCNT, LBEG and LEND in the shadow of a LOOP, up to an active beat each (LOOP page) -/
  loopSeen : List (Nat × Word × Word × Word) := []
  atb : Word := 0
  asid : Word := 0
  tcfg : BitVec 512 := 0
  k : Map (BitVec 2048) := []
  /-- palette lines, keyed 32 × local bank + line -/
  lines : Map Line := []
  pend : List Pend := []
  /-- the spur beat at which BCNT was 0, and the frozen beats since (R133) -/
  bbase : Nat := 0
  fcnt : Nat := 0
  /-- the first beat at which the next instruction may issue -/
  next : Nat := 0
  frozen : Option (Freeze × Nat) := none
  /-- the beat in which the condition of the freeze cleared (R117), where the freeze does not name it itself; 0 before -/
  clear : Nat := 0
  /-- no interrupt is taken before the next instruction issues: after a branch, or after SRET (R183, R191) -/
  noIntr : Bool := false
  exc : Option Exc := none
  /-- the last active beat of a mode-change shadow, and the end of a NOINT window (R134, R183) -/
  shadow : Nat := 0
  noint : Option Nat := none
  /-- the local copy of the reservation's granule (R139) -/
  rsv : Option Nat := none
  /-- the eight bytes that the last LR read, which a store-conditional of a word carries with it (R349) -/
  rsvWord : Word := 0
  /-- the beat of the final step of the last vector instruction (R164) -/
  vfinal : Nat := 0
  /-- the beat of the last palette access of a vector instruction (R89) -/
  vlast : Nat := 0
  /-- the palette line that this final step writes (R160) -/
  vfinalLine : Option Nat := none
  cq : List CCmd := []
  running : List CCmd := []
  memQ : List QEntry := []
  /-- the first beat at which an entry behind the ones that have left the memory queue may be sent (R213, R284) -/
  memAt : Nat := 0
  syncQ : List QEntry := []
  xfer : Option Xfer := none
  move : Option Move := none
  tlb : List Tlb := []
  icache : List Nat := []
  /-- the beat of the stop point at which the core has stopped (R388, R453) -/
  stopped : Option Nat := none
  iword : Word := 0
  aerr : Word := 0
  aadr : Word := 0
  /-- the spur beats at which the accepted stores and SIGCs of the core are known to be: those at homes of the module, and at others
  (R278, R281, R283) -/
  visible : Nat := 0
  visibleFar : Nat := 0
  /-- interrupt events and numbered requests that the rim holds while the spur naps (R392) -/
  held : BitVec 8 := 0
  heldReq : List (Nat × HeldEvent) := []
deriving DecidableEq, Repr

/-- A line of a cluster cache (R219). `bad` marks the 64-bit words whose parity bit is wrong. -/
structure CLine where
  way : Nat
  line : Nat
  valid : BitVec 128
  dirty : BitVec 128
  data : BitVec 1024
  bad : BitVec 16
  sh : Bool
deriving DecidableEq, Repr

/-- What one core has merged into a store-path entry (R474). -/
structure Contrib where
  core : Nat
  tile : Bool
  low : Word
deriving DecidableEq, Repr

/-- An entry of a store path (R220). -/
structure SEntry where
  addr : Word
  device : Bool
  data : BitVec 1024
  mask : BitVec 128
  sh : Bool
  /-- the highest class of the pages whose stores it holds (R226) -/
  cls : BitVec 2
  noAlloc : Bool
  contrib : List Contrib
deriving DecidableEq, Repr

/-- A core's load or tile row that waits for a line (R221). -/
structure MissWait where
  core : Nat
  tag : Nat
  /-- the bytes of the line that the store path or the cache held at the lookup (R216) -/
  mask : BitVec 128
  data : BitVec 1024
  /-- the spur beat at which the access was sent (R278) -/
  t : Nat
deriving DecidableEq, Repr

/-- A line requested from its home by a cluster, or awaited from a Pending sketch-buffer entry of the same number (R221,
R227). `install` is false for CA = 0 (R224). -/
structure Miss where
  id : Nat
  line : Nat
  sh : Bool
  cls : BitVec 2
  install : Bool
  /-- requested before an acquire's actions began, or before bytes of the line left for its home (R213): it is not installed, and no later
  load joins it (R222) -/
  old : Bool
  /-- the number of the victim's write-back, whose acceptance the fill waits for (R221) -/
  victim : Option Nat
  waits : List MissWait
deriving DecidableEq, Repr

/-- State of a sketch-buffer entry; Empty entries are not listed (R225). -/
inductive SkState where
  | pending | ready | invalid
deriving DecidableEq, Repr

/-- A sketch-buffer entry, oldest allocated first. -/
structure Sketch where
  line : Nat
  st : SkState
  id : Nat
  data : BitVec 1024
deriving DecidableEq, Repr

/-- The slot-map registers (R65 to R67). -/
structure Maps where
  csmap : Word := 0
  csctl : Word := 0
  cqmap : List Word := [0, 0, 0, 0]
  cqctl : List Word := [0, 0, 0, 0]
deriving DecidableEq, Repr

/-- Whether a cluster runs (R404, R318, R398). -/
inductive CPhase where
  | held | run | parked | quiesced
deriving DecidableEq, Repr

/-- A cluster's shared parts: canvas maps, cluster cache, store path, sketch buffer (R218 to R229). -/
structure Cluster where
  phase : CPhase := .held
  pendingMaps : Maps := {}
  maps : Maps := {}
  /-- the commit request in force (MAPPEND) with the frame boundary that it waits for, and MAPERR -/
  commit : Option (Nat × Maps) := none
  maperr : Bool := false
  /-- the frame boundary at which the committed maps came into force by a commit (R71) -/
  mapsFrom : Option Nat := none
  cache : Map (List CLine) := []
  storePath : List SEntry := []
  /-- the first spur beat at which the store path may drain again (R284) -/
  drainAt : Nat := 0
  misses : List Miss := []
  sketch : List Sketch := []
  /-- the spur beats at which its accepted write-backs are known to be, at homes of the module and at others (R281, R284) -/
  visible : Nat := 0
  visibleFar : Nat := 0
  /-- the spur beat at which its last reset completed (R133) -/
  bbase : Nat := 0
deriving DecidableEq, Repr

/-- A timing domain's generator (R274), its frame beat, and whether its rate triggers are armed (R385). -/
structure Domain where
  beat : Nat := 0
  cad : BitVec 2 := 0
  /-- CAP as the difference to the reset value is not kept: `none` is the reset value of the kind -/
  cap : Option (BitVec 12) := none
  rate : BitVec 16 := 0
  armed : Bool := false
  /-- the cadence a stopped generator returns to (R384) -/
  cadBefore : BitVec 2 := 0
  /-- the beat at which the spur's last reset completed (R133) -/
  rbase : Nat := 0
  /-- the spur's beat at which the rate of a domain that serves it last fell (R280) -/
  fellAt : Option Nat := none
deriving DecidableEq, Repr

/-- Who sent a request, and so where its answer goes. -/
inductive Src where
  | core (c : Nat)
  | cluster (k : Nat)
  | storePath (k : Nat) (e : List Contrib)
  | sketch (k : Nat) (mso : Bool)
  | remote (port : Nat) (dev : BitVec 12) (tag : BitVec 16)
  | host (tag : BitVec 16)
  | engine (plinth : Nat)
  | link
  | summit
deriving DecidableEq, Repr

/-- What a request asks of its target. -/
inductive RKind where
  | read (word : Bool)
  | readReserve (dbl : Bool)
  | prefetch (mso : Bool) (cls : BitVec 2)
  | write (mask : BitVec 128) (data : BitVec 1024) (tile : Bool)
  | storeCond (dbl : Bool) (v : Word)
  | signal (n : Nat) | decrement (n : Nat)
  | waitGe (n : Nat) | waitBar (sense : Option Bool)
  | cancel
  | word (v : Word)
  | loadWord
  | nmc (cmd : NmcCmd)
  | invalidate (plinth : Nat) (line : Nat)
  | sketchRelease (line : Nat)
deriving DecidableEq, Repr

/-- A request on its way to its target. `ident` is the requester's identity word (R252); `beat` the saddle beat at which it reached a
cairn unit (R266), elsewhere what its path had taken before it left (R282); `acks` the invalidations it waits for (R228), once they have
been sent; `t` the spur beat at which a core sent it (R278); `symbols` the link-symbol crossings of its path (R277). -/
structure Req where
  id : Nat
  src : Src
  kind : RKind
  addr : Word
  cls : BitVec 2
  ident : Word
  beat : Nat
  acks : Option Nat
  t : Nat
  symbols : Nat := 0
deriving DecidableEq, Repr

/-- An answer on its way to its requester: error code (R322), data, the barrier sense of a Fenced answer, the path count of
its class (R281), the beat at which the request was sent, and whether the path is guarded (R279); `symbols` holds the path's link-symbol
crossings (R277), `joined` says that another access has asked for the line before (R221), and `no` is its place among what a plinth has
sent to a cluster (R228). -/
structure Ans where
  id : Nat
  dst : Src
  code : BitVec 16
  data : BitVec 1024
  sense : Option Bool
  path : Nat
  t : Nat
  guarded : Bool
  kind : RKind
  addr : Word
  ident : Word
  cls : BitVec 2
  symbols : Nat := 0
  joined : Bool := false
  no : Nat := 0
deriving DecidableEq, Repr

/-- A line of a memory-side cache: the home's bytes stand in DRAM, the cache keeps place and class (R231). -/
structure MLine where
  way : Nat
  tag : Nat
  cls : BitVec 2
  dirty : Bool
deriving DecidableEq, Repr

/-- A slot of a request sorter (R233). -/
structure Slot where
  line : Nat
  write : Bool
  bank : Nat
  waits : List Req
  /-- the highest class among the requests that have joined a read -/
  cls : BitVec 2 := 0
deriving DecidableEq, Repr

/-- A refused request with its ticket and retry count (R234, R263). -/
structure Ticket where
  no : Nat
  req : Req
  retry : Nat
deriving DecidableEq, Repr

/-- A plinth (R228 to R242): memory-side cache, sorter, write filter, reservations, command queue. -/
structure Plinth where
  msc : Map (List MLine) := []
  slots : List Slot := []
  refused : List Ticket := []
  ticket : Nat := 0
  /-- (line, device, cluster, cluster tag of the holder) -/
  filter : List (Nat × BitVec 12 × BitVec 16) := []
  /-- reservations, oldest first: (core identity word, granule) -/
  rsv : List (Word × Nat) := []
  nmcQ : List Req := []
  /-- a command whose writes are visible and whose answer is not yet sent: request and error code -/
  nmcDone : Option (Req × BitVec 16) := none
  /-- banks held by a refresh (R233) -/
  refreshing : List Nat := []
  /-- by bank: its open row, and how many requests to it have been served while an older one to another row waited (R233) -/
  openRows : List (Nat × Nat × Nat) := []
  /-- the holders that have been asked for a write of the summit, the host link or the debugger, and have not acknowledged (R228) -/
  asked : List (Nat × BitVec 12 × BitVec 16) := []
  /-- what the command at the head of the queue does, once it has started: error code and writes (R240, R242) -/
  nmcGot : Option (Nat × List (Nat × List Byte)) := none
  /-- the commands that the full queue has refused (R242) -/
  nmcWait : List Ticket := []
deriving DecidableEq, Repr

/-- A listed waiter of a cairn (R254, R257). -/
structure Waiter where
  req : Req
  n : Nat
  barrier : Bool
  sense : Bool
deriving DecidableEq, Repr

/-- A cairn (R248 to R252). -/
structure Cairn where
  mode : BitVec 2 := 0
  sense : Bool := false
  pm1 : BitVec 20 := 0
  value : Nat := 0
  flags : BitVec 4 := 0
  last : Word := 0
  flagid : Word := 0
  waiters : List Waiter := []
deriving DecidableEq, Repr

/-- A saddle: its cairn unit's beat and outlet (R258, R266), its remote waiter share (R263), and where it stands in a route
epoch (R360). -/
structure Saddle where
  beat : Nat := 0
  outlet : List Ans := []
  /-- the first beat at which the outlet may send again (R284) -/
  outAt : Nat := 0
  refused : List Ticket := []
  ticket : Nat := 0
  epochWait : Bool := false
  /-- the table that it has installed, while that is not yet the module's (R360) -/
  routes : Option Nat := none
deriving DecidableEq, Repr

/-- A frame with its type, as sent. -/
structure TFrame where
  ty : BitVec 5
  f : Frame
deriving DecidableEq, Repr

/-- A Shutik frame with its type, as sent. -/
structure THFrame where
  ty : BitVec 5
  f : HFrame
deriving DecidableEq, Repr

/-- The manager frames and reports that a summit sends (R338 to R343, R355, R360). -/
inductive MgrKind where
  | join | leave | route | report | notice | epoch | beacon | linkdown | refusal | leaveAck | routeAck
deriving DecidableEq, Repr

/-- TYPE of a manager frame (R349); the table gives none to a LINKDOWN, a refusal and an acknowledgement. DESIGN CHOICE, log
entry 83. -/
def MgrKind.type : MgrKind → BitVec 5
  | .join => 0x18
  | .leave => 0x19
  | .route => 0x1A
  | .report => 0x1B
  | .notice => 0x1C
  | .epoch => 0x1D
  | .beacon => 0x1E
  | .linkdown => BitVec.ofNat 5 (0x18 + Config.mgrType 0 % 7)
  | .refusal => BitVec.ofNat 5 (0x18 + Config.mgrType 1 % 7)
  | .leaveAck => BitVec.ofNat 5 (0x18 + Config.mgrType 2 % 7)
  | .routeAck => 0x1A

/-- A manager frame on a link: its kind, its header and flits (R348), and what it carries. -/
structure MFrame where
  kind : MgrKind
  f : Frame
  body : List Nat
deriving DecidableEq, Repr

/-- A frame of a scale-out port, or of the Shutik link. -/
inductive LFrame where
  | t (f : TFrame)
  | m (f : MFrame)
  | h (f : THFrame)
deriving DecidableEq, Repr

/-- What a summit still has to do in local DRAM because a saddle was fenced or an earlier request stood in the way (R299, R321, R334,
R342, R344): a restore of the shards; a notice; the decision and the notice of a report; a member that is lost; a lost member that is
decided out again. -/
inductive SumOp where
  | restore
  | notice (kind dev : Nat) (drop : Bool) (step record : Nat)
  | report (dev record step rollBase : Nat)
  | lose (dev rollBase step : Nat)
  | out (dev rollBase step : Nat)
deriving DecidableEq, Repr

/-- The link layer of one direction pair (R351 to R355, R369). Frames wait in `txq` for credits, and stay in `replay` until
they are acknowledged; `sent` is what has left the module, `lctlSent` its link-control flits (R351).
`trained` says that the link has not gone down since its training, `advertise` that its credits start again as it has trained (R377). -/
structure Link where
  trained : Bool := false
  rxExpected : Nat := 0
  rxBlocked : Bool := false
  txNum : Nat := 0
  txq : List LFrame := []
  replay : List (Nat × LFrame) := []
  sent : List (Nat × LFrame) := []
  credit : List Nat := [0, 0, 0, 0, 0, 0]
  held : List Nat := [0, 0, 0, 0, 0, 0]
  lctlSent : List (BitVec 128) := []
  advertise : Bool := false
  loopback : Bool := false
deriving DecidableEq, Repr

/-- State of a burst buffer (R375). -/
inductive BState where
  | none | open | paused | committing
deriving DecidableEq, Repr

/-- A burst into the module (R375). `desc` is the descriptor it belongs to, for a burst asked for with BFETCH. -/
structure Burst where
  st : BState := .none
  addr : BitVec 52 := 0
  frames : Nat := 0
  expected : Nat := 0
  data : List (BitVec 128) := []
  desc : Option Nat := none
deriving DecidableEq, Repr

/-- A burst to the host (R373, R377): the host's buffer, the descriptor's number, and the data flits. -/
structure OutBurst where
  buf : BitVec 6
  desc : Nat
  data : List (BitVec 128)
deriving DecidableEq, Repr

/-- A descriptor that the link engine runs (R373): its number, its address in the ring, where its next burst begins in the module
and at the host, what is left to ask for, its code, the bursts that run, and whether DONE has been written. -/
structure Desc where
  no : Nat
  slot : Nat
  op : BitVec 2
  cv : Bool
  cairn : BitVec 16
  left : Nat
  at_ : Nat
  host : Nat
  code : BitVec 16
  running : Nat
  written : Bool
deriving DecidableEq, Repr

/-- The Shutik link (R366 to R377). `ringIndex` is the next ring index, `descNo` the next descriptor's number; `waiting` holds
the reads and doorbells that met a fenced saddle, to be tried again (R321). -/
structure HostLink where
  waiting : List THFrame := []
  bursts : Map Burst := []
  out : List OutBurst := []
  descs : List Desc := []
  ringIndex : Nat := 0
  descNo : Nat := 0
  /-- the writes of the ring's base and cairn whose CONFIG has met a fenced saddle, to be tried again (R321, R374) -/
  ringSet : Option (List (Nat × Nat)) := none
  /-- frames discarded for a bad FCRC or an unknown type (R352, R368) -/
  crcErrors : Nat := 0
deriving DecidableEq, Repr

/-- Phases of a recovery (R308). -/
inductive RPhase where
  | fence | drain | scrub | reload | rejoin
deriving DecidableEq, Repr

/-- A recovery in progress (R306 to R319). `release` marks the reload and rejoin of R404. -/
structure Recov where
  dom : Dom
  phase : RPhase
  code : BitVec 16
  release : Bool
deriving DecidableEq, Repr

/-- An entry to Nap or Hold in progress (R386 to R391). `stage` is 0 in the preparation window, 1 to 5 while the groups of
blocks are asked (saddles and plinths whether they can, clusters, ridge rims, saddles, plinths), 6 while blocks are shut
down; 7 and 8 are the drain and the quiesce of a brownout (R401). `accepted` and `delayed` are of the group being asked. -/
structure Entry where
  hold : Bool
  off : Bool
  restart : Bool
  spurs : List Nat
  stage : Nat
  accepted : List Block := []
  delayed : List Block := []
  delays : List Block := []
  shut : List Block := []
  /-- the entry of some of its spurs has been withdrawn (R407) -/
  aborted : Bool := false
deriving DecidableEq, Repr

/-- The power controller (R378 to R407, R470). `startStep` is the start-up step that runs, 8 at Ready; `latched` that Off was
entered with the input present, `abandoned` that a start-up was abandoned; `low40` how many samples must pass before the
last 100 ms hold none below 40 V; `thermal` by how many steps of 10 mV a sensor's setpoint lies below
nominal; `samples` is in µW, `throttled` the sensors of which a run at a throttle threshold has been counted and goes on. -/
structure Power where
  startStep : Nat := 0
  off : Bool := true
  latched : Bool := false
  abandoned : Bool := false
  below34 : Nat := 0
  above60 : Nat := 0
  /-- how many samples in succession have shown more than 19 kW, and more than 475 A (R22) -/
  over19 : Nat := 0
  over475 : Nat := 0
  /-- by how many mV a limit of R22 holds the ridge rails below nominal -/
  railDrop : Nat := 0
  low40 : Nat := 0
  lastMv : Int := 0
  wasOut : Bool := false
  samples : List Nat := []
  limited : Bool := false
  entry : Option Entry := none
  /-- 0, or the phase of the wake from Hold that runs -/
  wakePhase : Nat := 0
  /-- Hold was entered by a brownout, by a stop limit; RSTATE was 2 when the brownout began -/
  brownoutSaved : Bool := false
  stopHeld : Bool := false
  wasMember : Bool := false
  thermal : Map Int := []
  throttled : List Nat := []
  overWake : Bool := false
  /-- held spurs that have gone into Nap, and still read 7 (R404) -/
  gated : List Nat := []
deriving DecidableEq, Repr

/-- What the refuge keeps of a scale-out port or the Shutik link: partner, crossing, credits, and the routing table in force (R394). -/
structure PortKept where
  partner : Nat := 0
  crossing : Nat := 0
  credit : List Nat := []
  routes : Nat := 0
deriving DecidableEq, Repr

/-- A management session slot (R422 to R424). -/
structure Session where
  st : Nat := 0
  sid : BitVec 16 := 0
  opens : Nat := 0
  key : List Byte := []
  lastSeq : BitVec 32 := 0
  lastReply : Option Dgram := none
  iid : Word := 0
  nonce : Option (List Byte) := none
  report : List Byte := []
deriving DecidableEq, Repr

/-- A mailbox of the summit window (R432 to R434). -/
structure Mailbox where
  owner : Option Master := none
  cmd : Word := 0
  run : Bool := false
  done : Bool := false
  status : Byte := 0
  length : BitVec 16 := 0
  data : Map Byte := []
  /-- who started the operation that runs, and whether the claim under which it did has ended (R434) -/
  user : Option Master := none
  lost : Bool := false
deriving DecidableEq, Repr

/-- A copy of the reservation point, with the CRC32C of its five bytes (R447). -/
structure RpCopy where
  rp : Nat := 0
  crc : Nat := crcOver poly32c 32 (natBytes 5 0)
deriving DecidableEq, Repr

/-- The configuration flash (R11, R381, R416, R438, R441, R447, R459): `storing` is what a running STORE writes, `passes` the
number of varnish passes run. -/
structure Flash where
  imageA : List Byte := []
  imageB : List Byte := []
  gasps : List (List Byte) := []
  records : List (List Byte) := []
  stored : Option (Map Nat) := none
  storing : Option (Map Nat) := none
  passes : Nat := 0
  keySet : Bool := false
  key : List Byte := List.replicate 32 0
  rpA : RpCopy := {}
  rpB : RpCopy := {}
deriving DecidableEq, Repr

/-- The fuses (R437, R441, R444, R446). -/
structure Fuses where
  /-- FWKEYHASH -/
  keyHash : List Byte := fitBytes 32 Config.fwKeyHash
  lc : Nat := 3
  toggles : Nat := 0
  svn : Nat := 0
  /-- the identity bank: SEED and I of a module that has been provisioned. DESIGN CHOICE, log entry 8. -/
  identity : LmsKey := { seed := fitBytes 32 Config.identitySeed, id := fitBytes 16 Config.identityId }
  /-- the 60-byte public key, once the bank that it comes from has been blown -/
  publicKept : Option (List Byte) := none
deriving DecidableEq, Repr

/-- The BIST engine (R455 to R462). -/
structure Bist where
  run : Bool := false
  direct : Bool := false
  first : Nat := 0
  last : Nat := 0
  bcmd : Word := 0
  done : Bool := false
  outcome : Nat := 0
  results : Map (BitVec 2) := []
deriving DecidableEq, Repr

/-- The reasons a step stops the machine. -/
inductive Fault where
  /-- raised by an input sample below the rating of −60 V: the manual gives the module no behaviour there (R378, R463).
  Safe: nothing is claimed of a module outside its ratings. -/
  | beyondRating
deriving DecidableEq, Repr

/-- The reasons a command has no meaning. -/
inductive Refusal where
  /-- raised by an arm of `exec` whose command is not modelled yet. Safe. -/
  | notModelled (mnemonic : String)
deriving DecidableEq, Repr

/-- The module. -/
structure State where
  /-- the commands that wait, first in, first out -/
  pending : List Instr
  /-- the model's own: how many free values have been drawn -/
  fresh : Nat
  /-- the model's own: the number of the next request -/
  nextId : Nat
  cores : Map Core
  clusters : Map Cluster
  domains : Map Domain
  plinths : Map Plinth
  saddles : Map Saddle
  cairns : Map Cairn
  dram : Memory
  /-- poisoned lines, and lines that hold an uncorrectable or a corrected error (R230) -/
  poison : List Nat
  dramBad : List Nat
  dramSoft : List Nat
  reqs : List Req
  answers : List Ans
  /-- requests answered 0x1001, to be sent again (R321) -/
  resend : List Req
  /-- requests to other devices that wait for the end of a route epoch (R360) -/
  epochHeld : List Req
  /-- requests sent to another device: (tag, request) (R348) -/
  remote : List (BitVec 16 × Req)
  links : Map Link
  host : HostLink
  recovs : List Recov
  /-- SEQ of the last fault record (R312) -/
  faultSeq : Nat
  power : Power
  /-- the dictionary: values of objects that differ from their default, keyed 256 × index + sub-index -/
  dict : Map Nat
  /-- the port settings in use (R419), keyed as `dict` -/
  inUse : Map Nat
  sessions : Map Session
  holder : Option Master
  /-- the HOLDER word, and the remaining lease in management beats (R426, R427) -/
  holderWord : Word
  lease : Nat
  mailboxes : Map Mailbox
  replies : List Dgram
  /-- debug requests, by session slot, that a napping spur's rim holds (R392) -/
  heldDebug : List (Nat × Dgram)
  /-- the management ports whose link is up (R418, R419) -/
  linksUp : List Bool
  /-- ICMPv6 messages sent, by port: the type, then the contents (R418) -/
  netSent : List (Bool × List Byte)
  /-- manager frames and reports sent by the summit (R338 to R343): type and contents -/
  mgrSent : List (MgrKind × List Nat)
  flash : Flash
  fuses : Fuses
  bist : Bist
  halted : Option ClusterId
  /-- the signing unit: next index, requests by slot, and whether a level-1 tree is due (R447 to R449) -/
  signQ : Nat
  signWait : List Nat
  treeDue : Bool
  /-- members of the range, known to a manager: device numbers (R339) -/
  members : List (BitVec 12)
  /-- a leave has been asked for and not been acknowledged (R339) -/
  leaving : Bool
  /-- the routing table that a route epoch installs; a saddle that no longer waits uses it (R360) -/
  epochTable : Option Nat
  /-- what a manager collects: by device, the partners of its ports, 0xFFFF for none (R340) -/
  reports : List (BitVec 12 × List Nat)
  /-- the module whose JOIN the manager has accepted and that is not a member yet, and the members that have not acknowledged
  their route epoch (R339, R360) -/
  joining : Option (BitVec 12)
  routeWait : List (BitVec 12)
  /-- lost members with the base of the job's roll words (R342) -/
  lost : List (BitVec 12 × Nat)
  /-- what the summit has still to do, oldest first -/
  sumWait : List SumOp
  /-- the manager's restores: how many have begun, and what the last complete one gave each shard (R334) -/
  restores : Nat
  restored : List (Nat × List Byte)
  /-- open requests that a drain limit has abandoned: their answers are discarded (R311) -/
  abandoned : List Nat
  /-- the domains that a failed reload has parked (R318) -/
  parked : List Dom
  /-- the refuge (R15, R394): its cairn area, its port and link area, its save directory, and the bytes of the power controller and the
  summit firmware, whose use the manual leaves to them -/
  refuge : Map Cairn
  refugePorts : Map PortKept
  saveDir : List Nat
  refugeRest : Memory
deriving DecidableEq, Repr

/-- The module as a start from Off finds it, before its input qualifies (R403): nothing runs, every object has its
default (R416), every cairn is zero (R268). DESIGN CHOICE, log entries 7, 8. -/
def State.reset : State :=
  { pending := [], fresh := 0, nextId := 0, cores := [], clusters := [], domains := [], plinths := [], saddles := []
    cairns := [], dram := [], poison := [], dramBad := [], dramSoft := [], reqs := [], answers := [], resend := []
    epochHeld := [], remote := [], links := [], host := {}, recovs := [], faultSeq := 0, power := {}, dict := [], inUse := [], sessions := [], holder := none
    holderWord := 0, lease := 0, mailboxes := [], replies := [], heldDebug := [], linksUp := [], netSent := [], mgrSent := [], flash := {}, fuses := {}
    bist := {}, halted := none, signQ := 0, signWait := [], treeDue := false, members := [], leaving := false, epochTable := none, reports := []
    joining := none, routeWait := [], lost := [], sumWait := [], restores := 0, restored := [], abandoned := [], parked := [], refuge := [], refugePorts := []
    saveDir := [], refugeRest := [] }

end Sys2Proof.Machine
end

