-- ==== Sys2Proof/Machine/CanvasUnit.lean ====
section
/-! DEFINITION. The palette's lines (R84 to R87), tile configurations (R90 to R94), and the canvas's work on one core's
behalf: queue entries (R62), the palette access schedule (R73, R75), the arithmetic of a result row (R46, R47, R49,
R53, R77 to R81) and binding to slots (R60, R70, R71). -/

namespace Sys2Proof.Machine

/-! ### Palette lines -/

def lineDef (_ : Nat) : Line := 0
/-- A palette line of a core's partition, keyed 32 × local bank + line (R84). -/
def Core.line (k : Core) (key : Nat) : Line := mget lineDef k.lines key
def Core.setLine (k : Core) (key : Nat) (v : Line) : Core := { k with lines := mset lineDef k.lines key v }
/-- Line `i` of vector register `n` (R86). -/
def vregKey (n i : Nat) : Nat := 32 * (n % 8) + 4 * (n / 8) + i
/-- Tile-area row `r` (R87). -/
def rowKey (r : Nat) : Nat := 32 * (2 * (r / 32) + r % 2) + 16 + (r % 32) / 2
/-- The local bank of a tile-area row (R87). -/
def rowBank (r : Nat) : Nat := 2 * (r / 32) + r % 2
def keyBank (key : Nat) : Nat := key / 32

def Core.tileRow (k : Core) (r : Nat) : Line := k.line (rowKey r)
def Core.setTileRow (k : Core) (r : Nat) (v : Line) : Core := k.setLine (rowKey r) v

/-! ### Tile types and registers -/

/-- The operand classes of R26; `none` for a type that is no operand. -/
def typeClass (t : Nat) : Option Nat :=
  match t with
  | 0 => some 0
  | 1 => some 0
  | 2 => some 1
  | 3 => some 1
  | 4 => some 2
  | 5 => some 2
  | 6 => some 2
  | 7 => some 3
  | 8 => some 4
  | 9 => some 5
  | _ => none

/-- MX types (R56). -/
def isMx (t : Nat) : Bool := 2 ≤ t && t ≤ 7
/-- Two slots: BF16 or FP16 (R60). -/
def isWide (t : Nat) : Bool := t = 8 || t = 9
/-- MX narrow types, whose K is doubled (R53, R77). -/
def isNarrow (t : Nat) : Bool := 4 ≤ t && t ≤ 6
/-- The width of an element (R26). -/
def typeBits (t : Nat) : Nat :=
  match t with
  | 4 => 6
  | 5 => 6
  | 6 => 4
  | 8 => 16
  | 9 => 16
  | _ => 8

/-- A tile register's descriptor (R90). -/
structure TReg where
  vv : Bool
  vrow : Nat
  sv : Bool
  srow : Nat
  en : Bool
  use : Nat
  rows : Nat
  ty : Nat
  first : Nat
deriving DecidableEq, Repr

/-- Register `n` of a configuration block (R90). SV counts for an MX type only; VV for an operand only. -/
def tregOf (blk : BitVec 512) (n : Nat) : TReg :=
  let d := fld blk.toNat (64 * n + 63) (64 * n)
  let use := fld d 30 28
  let ty := fld d 21 18
  { vv := bitAt d 47 && (use = 1 || use = 2 || use = 5 || use = 6)
    vrow := fld d 46 40
    sv := bitAt d 39 && isMx ty
    srow := fld d 38 32
    en := bitAt d 31
    use := use
    rows := fld d 27 22
    ty := ty
    first := fld d 6 0 }

/-- The bits of a block that TCFG keeps: reserved fields read 0 (TCFGRD). -/
def tcfgKeep : BitVec 512 := BitVec.ofNat 512 (packAll 64 (List.replicate 8 0xFFFFFFFC007F))

/-! ### Queue entries -/

/-- The fields of a canvas queue entry (R62); `m` and `n` are the counts. -/
structure CEnt where
  c : List Nat
  asr : Nat
  bsr : Nat
  avr : Nat
  bvr : Nat
  slot : Nat
  core : Nat
  mode : Nat
  qtr : Nat
  var : Nat
  acc : Bool
  int32 : Bool
  aty : Nat
  bty : Nat
  m : Nat
  n : Nat
  ar : Nat
  br : Nat
deriving DecidableEq, Repr

def centPack (e : CEnt) : BitVec 128 :=
  BitVec.ofNat 128 (
    e.c.getD 0 0 * 2 ^ 121 + e.c.getD 1 0 * 2 ^ 114 + e.c.getD 2 0 * 2 ^ 107 + e.c.getD 3 0 * 2 ^ 100
    + e.asr * 2 ^ 93 + e.bsr * 2 ^ 86 + e.avr * 2 ^ 79 + e.bvr * 2 ^ 72 + e.slot * 2 ^ 68 + e.core * 2 ^ 60
    + e.mode * 2 ^ 58 + e.qtr * 2 ^ 56 + e.var * 2 ^ 54 + e.acc.toNat * 2 ^ 53 + e.int32.toNat * 2 ^ 52
    + e.aty * 2 ^ 48 + e.bty * 2 ^ 44 + (e.m - 1) * 2 ^ 39 + (e.n - 1) * 2 ^ 34 + e.ar * 2 ^ 27 + e.br * 2 ^ 20)

def centOf (w : BitVec 128) : CEnt :=
  let x := w.toNat
  { c := [fld x 127 121, fld x 120 114, fld x 113 107, fld x 106 100]
    asr := fld x 99 93
    bsr := fld x 92 86
    avr := fld x 85 79
    bvr := fld x 78 72
    slot := fld x 71 68
    core := fld x 63 60
    mode := fld x 59 58
    qtr := fld x 57 56
    var := fld x 55 54
    acc := bitAt x 53
    int32 := bitAt x 52
    aty := fld x 51 48
    bty := fld x 47 44
    m := fld x 43 39 + 1
    n := fld x 38 34 + 1
    ar := fld x 33 27
    br := fld x 26 20 }

/-! ### Shapes -/

def CEnt.quarter (e : CEnt) : Bool := e.mode = 2
def CEnt.pair (e : CEnt) : Bool := e.mode = 1
/-- Row pitch (R75). -/
def CEnt.pitch (e : CEnt) : Nat := (if isWide e.aty then 2 else 1) * (if e.pair then 2 else 1)
/-- K (R53, R77). -/
def CEnt.k (e : CEnt) : Nat := (if isNarrow e.aty then 2 else 1) * (if e.quarter then 16 else 32)
/-- A rows in one palette row of a type (R58). -/
def aPer (quarter : Bool) (t : Nat) : Nat :=
  if t = 4 || t = 5 || isWide t then (if quarter then 2 else 1) else (if quarter then 4 else 2)
/-- The palette rows of a B register (R58). -/
def bRows (quarter : Bool) (t : Nat) : Nat :=
  if t = 4 || t = 5 || isWide t then (if quarter then 8 else 32) else (if quarter then 4 else 16)
/-- The accumulator registers that a command accesses, by their place among C0 to C3 (R57). -/
def CEnt.accRegs (e : CEnt) : List Nat :=
  if e.quarter then [0] else
    (if e.pair then (if 16 < e.n then [0, 1, 2, 3] else [0, 2]) else (if 16 < e.n then [0, 1] else [0]))
/-- The beat e_i at which row `i` is written, from slot beat 0 (R55). -/
def CEnt.writeBeat (e : CEnt) (i : Nat) : Nat :=
  let r := e.pitch * i + e.pitch - 1 + 41
  if r % 2 = 0 then r else r + 1
def CEnt.lastWrite (e : CEnt) : Nat := e.writeBeat (e.m - 1)

/-! ### The palette access schedule (R73) -/

/-- What an access is: a B palette row, an A palette row, an accumulator row of a register, a scale row, a variant row,
a result row. -/
inductive CAcc where
  | b (row : Nat)
  | a (row : Nat)
  | acc (reg row : Nat)
  | bScale | aScale | bVar | aVar
  | result (i : Nat)
deriving DecidableEq, Repr

/-- The key under which a line that has been read is held. -/
def CAcc.key : CAcc → Nat
  | .b r => r
  | .a r => 64 + r
  | .acc q r => 128 + 32 * q + r
  | .bScale => 256
  | .aScale => 257
  | .bVar => 258
  | .aVar => 259
  | .result _ => 260

/-- The tile-area row of a read. -/
def CEnt.rowOf (e : CEnt) : CAcc → Nat
  | .b r => e.br + r
  | .a r => e.ar + r
  | .acc q r => e.c.getD q 0 + r
  | .bScale => e.bsr
  | .aScale => e.asr
  | .bVar => e.bvr
  | .aVar => e.avr
  | .result i => e.c.getD 0 0 + i

/-- Blocks of `per` consecutive output rows: block m at beat `step` × m + `off`. -/
def rowBlocks (m per : Nat) (step : Nat) (off : Int) (f : List Nat → List CAcc) : List (Int × CAcc) :=
  (List.range ((m + per - 1) / per)).flatMap (fun q =>
    let rows := ((List.range per).map (fun i => q * per + i)).filter (· < m)
    (f rows).map (fun x => ((step * q : Nat) + off, x)))

/-- Every access of a command with its slot beat (R73). DEDUCED, log entry 34. -/
def CEnt.accesses (e : CEnt) : List (Int × CAcc) :=
  let ap := aPer e.quarter e.aty
  let nb := bRows e.quarter e.bty
  let pre : Int := if e.quarter then -16 else -32
  let scales := if isMx e.aty then [(pre, CAcc.bScale), (pre + 2, CAcc.aScale)] else []
  let vars := if e.var ≠ 0 then [((-28 : Int), CAcc.bVar), (-26, CAcc.aVar)] else []
  let cb := if e.quarter then 1 else nb / 16
  let bs := (List.range nb).map (fun r => (pre + (2 * (r / cb) : Nat), CAcc.b r))
  let aOf (rows : List Nat) : List CAcc := ((rows.map (· / ap)).eraseDups).map CAcc.a
  let as :=
    if e.quarter then
      (if ap = 4 then rowBlocks e.m 4 4 (-4) aOf
       else if e.pitch = 1 then rowBlocks e.m 2 2 (-6) aOf else rowBlocks e.m 2 4 (-12) aOf)
    else if e.pair then
      (if isWide e.aty then rowBlocks e.m 1 4 (-28) aOf else rowBlocks e.m 2 4 (-12) aOf)
    else
      (if isWide e.aty then rowBlocks e.m 1 2 (-14) aOf else rowBlocks e.m 2 2 (-6) aOf)
  let accOf (rows : List Nat) : List CAcc := e.accRegs.flatMap (fun q => rows.map (fun r => CAcc.acc q r))
  let accs :=
    if !e.acc then []
    else if e.quarter then rowBlocks e.m 2 (2 * e.pitch) 12 accOf
    else if e.pair then rowBlocks e.m 1 e.pitch 10 accOf
    else rowBlocks e.m 2 (2 * e.pitch) 10 accOf
  let rs := (List.range e.m).map (fun i => ((e.writeBeat i : Int), CAcc.result i))
  scales ++ vars ++ bs ++ as ++ accs ++ rs

/-! ### A result row -/

def CCmd.cell (g : Map Line) (x : CAcc) : Nat := (mget lineDef g x.key).toNat

/-- Entry `i` of a variant row: ACT or VAL, and VNUM (R78). -/
def varEntry (line i : Nat) : Bool × Nat := (bitAt (fld line (16 * i + 15) (16 * i)) 15, fld line (16 * i + 11) (16 * i))

/-- The groups that match row `i`; `none` for a row that takes no part (R78, R81). -/
def CEnt.groups (_e : CEnt) (g : Map Line) (i : Nat) : Option (List Nat) :=
  let (act, num) := varEntry (CCmd.cell g .aVar) i
  if act then
    some ((List.range 8).filter (fun q =>
      let (vl, n) := varEntry (CCmd.cell g .bVar) q
      vl && n == num))
  else none

/-- The value of an element code of a tile type (R27, R28). -/
def elemVal (t x : Nat) : Val :=
  match t with
  | 0 => e4m3.val x
  | 1 => e5m2.val x
  | 2 => e4m3.val x
  | 3 => e5m2.val x
  | 4 => e3m2.val x
  | 5 => e2m3.val x
  | 6 => e2m1.val x
  | 7 => .fin (sint 8 x < 0) (sint 8 x).natAbs (-6)
  | 8 => bf16.val x
  | 9 => fp16.val x
  | _ => fp32.val x

/-- The code of A[i][k], of B[k][j] (R93). -/
def CEnt.aCode (e : CEnt) (g : Map Line) (i k : Nat) : Nat :=
  let w := typeBits e.aty
  let per := aPer e.quarter e.aty
  unpackAt w k (CCmd.cell g (.a (i / per)) >>> (e.k * w * (i % per)))
def CEnt.bCode (e : CEnt) (g : Map Line) (k j : Nat) : Nat :=
  let w := typeBits e.bty
  let per := e.k / bRows e.quarter e.bty
  let cols := if e.quarter then 16 else 32
  unpackAt w j (CCmd.cell g (.b (k / per)) >>> (cols * w * (k % per)))

/-- The scales of A row `i` and of column `j` for position `k` (R77, R94). -/
def CEnt.aScaleOf (e : CEnt) (g : Map Line) (i k : Nat) : Nat :=
  byteOf (CCmd.cell g .aScale) (if e.quarter then i else 32 * (k / 32) + i)
def CEnt.bScaleOf (e : CEnt) (g : Map Line) (k j : Nat) : Nat :=
  byteOf (CCmd.cell g .bScale) (if e.quarter then j else 32 * (k / 32) + j)

/-- One product, scales included (R29, R46). -/
def CEnt.product (e : CEnt) (g : Map Line) (i j k : Nat) : Val :=
  let a := elemVal e.aty (e.aCode g i k)
  let b := elemVal e.bty (e.bCode g k j)
  if isMx e.aty then (a.scale (e.aScaleOf g i k)).mul (b.scale (e.bScaleOf g k j)) else a.mul b

/-- The K positions of each group of R46 that give terms, under VK's matching groups (R79). -/
def CEnt.kGroups (e : CEnt) (gs : List Nat) : List (List Nat) :=
  let use (k : Nat) : Bool := e.var ≠ 1 || gs.contains ((k % 32) / 4)
  if isNarrow e.aty && !e.quarter then
    [(List.range 32).filter use, ((List.range 32).map (32 + ·)).filter use]
  else [(List.range e.k).filter use]

/-- The accumulator element (`reg`, column j) of row `i`, as it was read. -/
def CEnt.accAt (_e : CEnt) (g : Map Line) (reg i j : Nat) : Nat := unpackAt 32 (j % 16) (CCmd.cell g (.acc (reg + j / 16) i))

/-- One output element, hi and lo; lo counts for a pair command only (R46, R47, R49, R64). -/
def CEnt.element (e : CEnt) (g : Map Line) (gs : List Nat) (i j : Nat) : Nat × Nat :=
  let ks := e.kGroups gs
  if e.pair then
    ((ks.foldl (fun acc kk => some (pairRule (kk.map (e.product g i j)) acc))
      (if e.acc then some (e.accAt g 0 i j, e.accAt g 2 i j) else none))).getD (0, 0)
  else if e.int32 then
    let c : Int := if e.acc then sint 32 (e.accAt g 0 i j) else 0
    (ks.foldl (fun acc kk =>
      sat32 (kk.foldl (fun t k => t + sint 8 (e.aCode g i k) * sint 8 (e.bCode g k j)) (sint 32 acc))) (ofSint 32 c), 0)
  else
    (((ks.foldl (fun acc kk => some (groupRule (kk.map (e.product g i j)) acc))
      (if e.acc then some (e.accAt g 0 i j) else none))).getD 0, 0)

/-- Elements 16·h to 16·h + 15 of a result row merged into `old`: only the columns written (R76, R80). -/
def mergeCols (old : Line) (h : Nat) (written : Nat → Bool) (f : Nat → Nat) : Line :=
  BitVec.ofNat 512 (packAll 32 ((List.range 16).map (fun q =>
    if written (16 * h + q) then f (16 * h + q) else unpackAt 32 q old.toNat)))

/-- Result row `i` is written, or VMISS is set, or nothing (R55, R76, R80, R81). -/
def Core.writeRow (k : Core) (e : CEnt) (g : Map Line) (i : Nat) : Core :=
  let gs := if e.var = 0 then some [0] else e.groups g i
  match gs with
  | none => k
  | some [] => { k with cflags := k.cflags ||| 2 }
  | some gs =>
    let written (j : Nat) : Bool := j < e.n && (e.var ≠ 2 || gs.contains (j / 4))
    e.accRegs.foldl (fun t q =>
      let row := e.c.getD q 0 + i
      t.setTileRow row (mergeCols (t.tileRow row) (q % 2) written (fun j =>
        let v := e.element g gs i j
        if 2 ≤ q then v.2 else v.1))) k

/-! ### The canvas catches up with a beat -/

/-- An access to be made: absolute beat, whether it writes, and what. -/
structure CEvent where
  beat : Nat
  cmd : Nat
  acc : CAcc
deriving DecidableEq, Repr

def CAcc.isWrite : CAcc → Bool
  | .result _ => true
  | _ => false

/-- Order: by beat; reads before writes (R74). -/
def CEvent.rank (x : CEvent) : Nat := 2 * x.beat + x.acc.isWrite.toNat
def insertEv (x : CEvent) : List CEvent → List CEvent
  | [] => [x]
  | y :: ys => if y.rank ≤ x.rank then y :: insertEv x ys else x :: y :: ys

/-- The accesses of command number `n` at beats in [c.done, b). -/
def CCmd.due (c : CCmd) (n b : Nat) : List CEvent :=
  ((centOf c.entry).accesses).filterMap (fun (t, x) =>
    let beat := ((c.start : Int) + t).toNat
    if c.done ≤ beat && beat < b then some ⟨beat, n, x⟩ else none)

/-- One access is made. -/
def Core.canvasAccess (k : Core) (x : CEvent) : Core :=
  match k.running[x.cmd]? with
  | none => k
  | some c =>
    let e := centOf c.entry
    match x.acc with
    | .result i => k.writeRow e c.got i
    | r => { k with running := k.running.set x.cmd { c with got := mput c.got r.key (k.tileRow (e.rowOf r)) } }

/-- Everything that the canvas does for the core at beats before `b`: reads, writes, and the queue places freed at the end
of slot beat 0 (R59, R73). Queued commands read ahead of their slot; finished ones leave. DEDUCED, log entry 34. -/
def Core.canvasTo (k : Core) (b : Nat) : Core :=
  if k.cq.isEmpty && k.running.isEmpty then k
  else
    let n := k.running.length
    let all := k.running ++ k.cq
    let evs := (all.zipIdx.flatMap (fun (c, i) => c.due i b)).foldl (fun l x => insertEv x l) []
    let k1 := evs.foldl Core.canvasAccess { k with running := all }
    let after := k1.running.map (fun c => { c with done := Nat.max c.done b })
    { k1 with
      running := (after.take n ++ (after.drop n).filter (fun c => c.start < b)).filter
        (fun c => b ≤ c.start + (centOf c.entry).lastWrite)
      cq := (after.drop n).filter (fun c => b ≤ c.start) }

/-- The beat of the last write of every command queued or running (TFENCE); `none` with none outstanding. -/
def Core.lastWrite (k : Core) : Option Nat :=
  (k.running ++ k.cq).foldl (fun m c =>
    let w := c.start + (centOf c.entry).lastWrite
    some (match m with
      | none => w
      | some v => Nat.max v w)) none

/-! ### Slot maps and binding -/

/-- The map that a command kind uses: OWNER, OWN and EXT (R65 to R67). -/
structure SlotMap where
  owner : Word
  own : Nat
  ext : Nat
deriving DecidableEq, Repr

def Maps.full (m : Maps) : SlotMap := { owner := m.csmap, own := wf m.csctl 31 16, ext := wf m.csctl 47 32 }
def Maps.quarterMap (m : Maps) (q : Nat) : SlotMap :=
  { owner := m.cqmap.getD q 0, own := wf (m.cqctl.getD q 0) 31 16, ext := wf (m.cqctl.getD q 0) 47 32 }
def Maps.qmode (m : Maps) : Bool := wb m.csctl 2

def SlotMap.owns (m : SlotMap) (core n : Nat) : Bool := bitAt m.own n && wf m.owner (4 * n + 3) (4 * n) = core
/-- A slot that a command of one or two slots may be bound to (R60). -/
def SlotMap.usable (m : SlotMap) (core : Nat) (two : Bool) (n : Nat) : Bool :=
  m.owns core n && (!two || bitAt m.ext ((n + 1) % 16))
/-- The holder of slot `n` (R70). -/
def SlotMap.holder (m : SlotMap) (n : Nat) : Option Nat :=
  if bitAt m.own n then some (wf m.owner (4 * n + 3) (4 * n))
  else if bitAt m.ext n then
    (if bitAt m.own ((n + 15) % 16) then some (wf m.owner (4 * ((n + 15) % 16) + 3) (4 * ((n + 15) % 16))) else none)
  else none

/-- The rules of R70 on one map. -/
def SlotMap.ok (m : SlotMap) : Bool :=
  (List.range 16).all (fun n =>
    !(bitAt m.own n && bitAt m.ext n)
    && (!bitAt m.ext n || bitAt m.own ((n + 15) % 16))
    && (bitAt m.ext ((n + 1) % 16) || (match m.holder n, m.holder ((n + 1) % 16) with
        | some a, some b => a ≠ b
        | _, _ => true)))

/-- R70. -/
def Maps.ok (m : Maps) : Bool :=
  if m.qmode then
    (List.range 4).all (fun q => (m.quarterMap q).ok)
    && (List.range 16).all (fun c =>
      ((List.range 4).filter (fun q => (List.range 16).any (fun n => (m.quarterMap q).owns c n))).length ≤ 1)
  else m.full.ok

/-- The map, the slot length and the quarter for a kind of command of core `core`; `none` where the committed maps give it
no slot (R60, TMMAQ page). -/
def Maps.mapFor (m : Maps) (core : Nat) (quarter two : Bool) : Option (SlotMap × Nat × Nat) :=
  if quarter ≠ m.qmode then none
  else if quarter then
    ((List.range 4).find? (fun q => (List.range 16).any ((m.quarterMap q).usable core two))).map
      (fun q => (m.quarterMap q, 16, q))
  else if (List.range 16).any (m.full.usable core two) then some (m.full, 32, 0)
  else none

/-- Whether the occurrence at `start` of slot `n` is idle in the first frame after a commit at `from_` (R71). DEDUCED, log entry 34. -/
def idleSlot (from_ : Option Nat) (quarter : Bool) (start n : Nat) : Bool :=
  match from_ with
  | none => false
  | some f => f ≤ start && start < f + 512 && (n = 0 || (quarter && n = 1))

/-- The earliest slot beat 0 at or after `lo`, with its slot number and quarter (R60, R71). -/
def bindSlot (m : Maps) (from_ : Option Nat) (core : Nat) (quarter two : Bool) (lo : Nat) : Option (Nat × Nat × Nat) :=
  match m.mapFor core quarter two with
  | none => none
  | some (sm, len, q) =>
    let first := (lo + len - 1) / len
    (((List.range 80).map (first + ·)).find? (fun t =>
      sm.usable core two (t % 16) && !idleSlot from_ quarter (t * len) (t % 16))).map (fun t => (t * len, t % 16, q))

/-! ### The operand checks -/

/-- The accumulator registers of a command by kind: 0 TMMA, 1 TMMAP, 2 TMMAQ (R57). -/
def accNumbers (kind tc n : Nat) : List Nat :=
  match kind with
  | 0 => if 16 < n then [tc, tc + 1] else [tc]
  | 1 => if 16 < n then [tc, tc + 1, tc + 2, tc + 3] else [tc, tc + 2]
  | _ => [tc]

/-- R83 with R92: whether the command's operands are accepted. -/
def operandsOk (blk : BitVec 512) (kind tc ta tb m n var : Nat) : Bool :=
  let q := kind = 2
  let a := tregOf blk ta
  let b := tregOf blk tb
  let cs := (accNumbers kind tc n).map (tregOf blk)
  let c0 := tregOf blk tc
  a.en && a.use = (if q then 5 else 1) && b.en && b.use = (if q then 6 else 2)
  && cs.all (fun c => c.en && c.use = (if q then 7 else 3) && m ≤ c.rows && (c.ty = 10 || c.ty = 11) && c.ty = c0.ty)
  && (typeClass a.ty).isSome && typeClass a.ty == typeClass b.ty
  && (c0.ty ≠ 11 || a.ty = 7)
  && (m + aPer q a.ty - 1) / aPer q a.ty ≤ a.rows && bRows q b.ty ≤ b.rows
  && (!isMx a.ty || (a.sv && b.sv))
  && (var = 0 || (a.vv && b.vv))
  && (kind ≠ 1 || a.ty ≠ 7)

/-- The queue entry of a command (R61, R62). -/
def entryFor (blk : BitVec 512) (kind tc ta tb m n var : Nat) (acc : Bool) (core slot qtr : Nat) : CEnt :=
  let a := tregOf blk ta
  let b := tregOf blk tb
  let row (j : Nat) : Nat := if (accNumbers kind tc n).contains (tc + j) then (tregOf blk (tc + j)).first else 0
  { c := [row 0, row 1, row 2, row 3]
    asr := if isMx a.ty then a.srow else 0
    bsr := if isMx b.ty then b.srow else 0
    avr := if var = 0 then 0 else a.vrow
    bvr := if var = 0 then 0 else b.vrow
    slot := slot
    core := core
    mode := kind
    qtr := qtr
    var := var
    acc := acc
    int32 := (tregOf blk tc).ty = 11
    aty := a.ty
    bty := b.ty
    m := m
    n := n
    ar := a.first
    br := b.first }

end Sys2Proof.Machine
end

