-- ==== Sys2Proof/Machine/Objects.lean ====
section
/-! DEFINITION. The objects of the parameter dictionary: types, access rights, ranges and defaults (R410 to R412, R416,
R419, R429, R435 and the object tables of the chapters on recovery, range, supply and security). A value is kept as
a number: a scalar as itself, a BLOB or STR as its bytes, least significant first. -/

namespace Sys2Proof.Machine

/-- The object types of R411; a BLOB with its length, a STR with its longest length. -/
inductive OType where
  | bool | u8 | u16 | u32 | u64 | i32 | i64 | f32
  | str (max : Nat)
  | blob (len : Nat)
deriving DecidableEq, Repr

/-- The access rights of R412. -/
inductive ORight where
  | ro | rw | wo | rwl | svc
deriving DecidableEq, Repr

/-- The key of object index:sub-index. -/
def okey (idx sub : Nat) : Nat := 256 * idx + sub

/-- The size of a value in bytes, the longest for a STR. -/
def OType.size : OType → Nat
  | .bool => 1
  | .u8 => 1
  | .u16 => 2
  | .u32 => 4
  | .u64 => 8
  | .i32 => 4
  | .i64 => 8
  | .f32 => 4
  | .str m => m
  | .blob n => n

/-- Whether `n` bytes have the length of a type: a STR has any length up to its longest. -/
def OType.fits (ty : OType) (n : Nat) : Bool :=
  match ty with
  | .str m => n ≤ m
  | _ => n = ty.size

/-- A scalar lies in the direct map (R431). -/
def OType.scalar : OType → Bool
  | .str _ => false
  | .blob _ => false
  | _ => true

/-- Sub-indices from `lo` to `hi`. -/
def subIn (sub lo hi : Nat) (d : OType × ORight) : Option (OType × ORight) :=
  if lo ≤ sub && sub ≤ hi then some d else none

/-- The settings of a management port (R419). -/
def portObj (sub : Nat) : Option (OType × ORight) :=
  match sub with
  | 0x01 => some (.bool, .rwl)
  | 0x02 => some (.u8, .rwl)
  | 0x03 => some (.u8, .rwl)
  | 0x04 => some (.u8, .rwl)
  | 0x05 => some (.u8, .rwl)
  | 0x06 => some (.u8, .rwl)
  | 0x07 => some (.u16, .rwl)
  | 0x08 => some (.u64, .ro)
  | 0x09 => some (.u8, .ro)
  | 0x0A => some (.bool, .wo)
  | 0x0B => some (.u32, .ro)
  | 0x0C => some (.u32, .ro)
  | 0x0D => some (.u32, .ro)
  | _ => none

/-- The objects of a scale-out port. -/
def linkObj (sub : Nat) : Option (OType × ORight) :=
  match sub with
  | 1 => some (.u8, .ro)
  | 2 => some (.u16, .ro)
  | 3 => some (.u16, .ro)
  | 4 => some (.u32, .ro)
  | 5 => some (.u32, .ro)
  | 6 => some (.u32, .ro)
  | _ => none

/-- Type and access right of an assigned object; `none` for any other index and sub-index (R410). -/
def objDesc (idx sub : Nat) : Option (OType × ORight) :=
  match idx with
  | 0x1000 =>
    match sub with
    | 1 => some (.str 255, .ro)
    | 2 => some (.str 255, .ro)
    | 3 => some (.u16, .ro)
    | 4 => some (.u8, .ro)
    | _ => none
  | 0x1001 =>
    match sub with
    | 1 => some (.u8, .ro)
    | 2 => some (.u32, .ro)
    | 3 => some (.u32, .ro)
    | 4 => some (.u64, .rwl)
    | 5 => some (.u32, .rwl)
    | 6 => some (.u8, .rwl)
    | 7 => some (.u8, .ro)
    | _ => none
  | 0x1002 =>
    match sub with
    | 1 => some (.u8, .rwl)
    | 2 => some (.u8, .ro)
    | 3 => some (.u8, .ro)
    | _ => none
  | 0x2000 => subIn sub 1 3 (.u32, .ro)
  | 0x2001 =>
    match sub with
    | 1 => some (.u8, .ro)
    | 2 => some (.u8, .wo)
    | _ => subIn sub 3 7 (.u32, .ro)
  | 0x2010 => subIn sub 0 0 (.u8, .ro)
  | 0x2011 => subIn sub 0 0 (.blob 1024, .ro)
  | 0x2012 => subIn sub 0 0 (.u8, .rwl)
  | 0x2013 => subIn sub 0 0 (.blob 1024, .rwl)
  | 0x2014 => subIn sub 0 0 (.bool, .wo)
  | 0x2015 => subIn sub 0 0 (.u8, .rwl)
  | 0x2020 =>
    match sub with
    | 1 => some (.u32, .rwl)
    | 2 => some (.u32, .rwl)
    | 3 => some (.u8, .rwl)
    | 4 => some (.u8, .ro)
    | 5 => some (.u32, .ro)
    | _ => none
  | 0x2030 => subIn sub 0 0 (.u64, .rwl)
  | 0x2031 => subIn sub 1 3 (.u8, .rwl)
  | 0x2040 => subIn sub 0 0 (.bool, .rwl)
  | 0x2041 => subIn sub 0 0 (.bool, .rwl)
  | 0x2042 => subIn sub 0 0 (.u8, .ro)
  | 0x2050 => if sub = 0 then some (.u8, .ro) else subIn sub 1 16 (.blob 16, .ro)
  | 0x3000 => subIn sub 1 16 (.i32, .ro)
  | 0x3001 => subIn sub 1 8 (.i32, .ro)
  | 0x3002 => subIn sub 0 0 (.i32, .ro)
  | 0x3003 => subIn sub 1 32 (.i32, .ro)
  | 0x3004 => subIn sub 1 2 (.i32, .ro)
  | 0x3010 => if sub = 1 then some (.u8, .ro) else subIn sub 2 2 (.u32, .ro)
  | 0x4000 =>
    match sub with
    | 1 => some (.u16, .rwl)
    | 2 => some (.u8, .rwl)
    | 3 => some (.u16, .rwl)
    | 4 => some (.u8, .ro)
    | 5 => some (.u8, .wo)
    | 6 => some (.u32, .ro)
    | _ => none
  | 0x4010 => subIn sub 0 0 (.blob 2048, .ro)
  | 0x4020 =>
    match sub with
    | 1 => some (.u64, .rwl)
    | 2 => some (.u16, .rwl)
    | 3 => some (.u32, .ro)
    | _ => none
  | 0x4021 => subIn sub 1 16 (.u32, .rwl)
  | 0x4030 => subIn sub 1 64 (.blob 16, .rwl)
  | 0x4031 => subIn sub 1 64 (.blob 16, .rwl)
  | 0x4040 => subIn sub 0 0 (.u32, .rwl)
  | 0x4200 => linkObj sub
  | 0x4201 => linkObj sub
  | 0x4202 => linkObj sub
  | 0x4203 => linkObj sub
  | 0x4204 => linkObj sub
  | 0x4205 => linkObj sub
  | 0x4300 =>
    match sub with
    | 1 => some (.u8, .ro)
    | 3 => some (.u32, .rwl)
    | 4 => some (.u32, .rwl)
    | 5 => some (.u64, .rwl)
    | 6 => some (.u32, .rwl)
    | 7 => some (.u16, .rwl)
    | 8 => some (.u16, .ro)
    | 9 => some (.u32, .ro)
    | _ => none
  | 0x4310 =>
    match sub with
    | 1 => some (.u64, .rwl)
    | 2 => some (.u32, .rwl)
    | 3 => some (.u32, .ro)
    | _ => none
  | 0x4400 => portObj sub
  | 0x4401 => portObj sub
  | 0x5010 => subIn sub 0 0 (.u64, .rwl)
  | 0x5030 => subIn sub 0 0 (.u32, .rw)
  | 0x5040 => subIn sub 0 0 (.u32, .rwl)
  | 0x5100 => if sub = 0 then some (.u8, .ro) else subIn sub 1 64 (.u64, .ro)
  | 0x5101 => subIn sub 0 0 (.u64, .ro)
  | 0x5200 => subIn sub 1 2 (.u16, .rwl)
  | 0x6000 => if sub = 1 then some (.u8, .ro) else subIn sub 2 2 (.u32, .ro)
  | 0x6001 => subIn sub 1 1 (.u32, .svc)
  | 0x6002 => subIn sub 0 0 (.blob 580, .ro)
  | 0x6003 => subIn sub 1 3 (.u16, .ro)
  | 0x7000 =>
    match sub with
    | 1 => some (.u32, .ro)
    | 2 => some (.blob 60, .ro)
    | 3 => some (.blob 32, .ro)
    | _ => none
  | 0x7001 => subIn sub 0 0 (.blob 32, .wo)
  | 0x8000 => subIn sub 1 16 (.u32, .ro)
  | 0x8001 => subIn sub 1 16 (.u32, .ro)
  | 0x8002 => subIn sub 1 32 (.u32, .ro)
  | 0x8003 => subIn sub 1 32 (.u32, .ro)
  | 0x8004 => subIn sub 1 32 (.u32, .ro)
  | 0x8005 => subIn sub 1 8 (.u32, .ro)
  | 0x9000 => subIn sub 1 8 (.blob 16, .ro)
  | 0x9001 => subIn sub 1 1 (.u32, .rwl)
  | 0x9002 => subIn sub 1 2 (.u32, .ro)
  | 0x9010 =>
    match sub with
    | 1 => some (.u64, .ro)
    | 2 => some (.u32, .ro)
    | 3 => some (.u32, .wo)
    | 4 => some (.u32, .wo)
    | 5 => some (.u32, .rwl)
    | 6 => some (.bool, .wo)
    | 7 => some (.u32, .ro)
    | 8 => some (.u32, .ro)
    | _ => none
  | 0x9020 => if sub = 1 then some (.u64, .ro) else subIn sub 2 2 (.u32, .ro)
  | 0x9040 => subIn sub 1 1 (.bool, .rwl)
  | _ => none

/-- A local DRAM address (R196). -/
def dramSize : Nat := 0x18000000000

def isPow2 (v : Nat) : Bool := v != 0 && popN 64 v == 1

/-- A local DRAM address aligned to 64 KiB, 0 among them (R414). -/
def base64k (v : Nat) : Bool := v % 65536 = 0 && v < dramSize

/-- The stated range of an object's values, beside its type's (R411, R414). -/
def objInRange (idx sub v : Nat) : Bool :=
  match idx, sub with
  | 0x1001, 4 => base64k v
  | 0x2012, 0 => v = 2 || v = 4 || v = 7 || v = 8
  | 0x2015, 0 => v ≤ 1
  | 0x2030, 0 => base64k v
  | 0x2031, 1 => v ≤ 1
  | 0x4000, 1 => v ≤ 4095
  | 0x4000, 2 => v ≤ 2
  | 0x4000, 3 => v ≤ 4095
  | 0x4020, 1 => base64k v
  | 0x4020, 2 => isPow2 v && 16 ≤ v && v ≤ 4096
  | 0x4300, 5 => base64k v
  | 0x4300, 6 => isPow2 v && v ≤ 65536
  | 0x4310, 1 => base64k v
  | 0x4310, 2 => v ≤ 65536
  | 0x4400, 2 => v ≠ 255
  | 0x4401, 2 => v ≠ 255
  | 0x4400, 3 => 2 ≤ v
  | 0x4401, 3 => 2 ≤ v
  | 0x4400, 4 => v ≠ 0
  | 0x4401, 4 => v ≠ 0
  | 0x4400, 7 => 1024 ≤ v
  | 0x4401, 7 => 1024 ≤ v
  | 0x5010, 0 => base64k v
  | 0x6001, 1 => 1 ≤ v && v ≤ 40000000
  | 0x9001, 1 => 1 ≤ v && v ≤ 65535
  | 0x9010, 5 => 1 ≤ v && v ≤ 65535
  | _, _ => true

/-- An access-table entry as it is held: its reserved fields read 0 (R362). -/
def tableEntry (v : Nat) : Nat := v &&& 0xE00FFFFFFFFFFFFFFE0FFFFFFFFFF007
/-- The second word of a default table entry, of which the manual fixes the reserved field alone (R362, R365). DESIGN CHOICE, log entry
10. -/
def defaultEntry (first key : Nat) : Nat := tableEntry (first + 2 ^ 64 * (Config.undocumentedDefault key % 2 ^ 64))

/-- `n` equal bytes. -/
def repByte (b n : Nat) : Nat := b * ((256 ^ n - 1) / 255)

/-- The default of an object (R416, and the object tables); an object that the tables give no default takes the
module's own value. The first word of the default access-table entries is that of R365. DESIGN CHOICE, log entries 7, 10. -/
def objDefault (key : Nat) : Nat :=
  let idx := key / 256
  let sub := key % 256
  match idx, sub with
  | 0x1001, 1 => 0
  | 0x1002, 1 => 0xFF
  | 0x1002, 3 => 32
  | 0x2001, 7 => 0xFFFFFFFF
  | 0x2010, 0 => 1
  | 0x2011, 0 => repByte 7 1024
  | 0x2012, 0 => 2
  | 0x2020, 1 => 65536
  | 0x2020, 2 => 4000000
  | 0x2020, 3 => 64
  | 0x2031, 2 => 0xFF
  | 0x2031, 3 => 0xFF
  | 0x2040, 0 => 1
  | 0x2041, 0 => 1
  | 0x4010, 0 => repByte 0x66 2048
  | 0x4020, 2 => 256
  | 0x4021, _ => 0xFFFFFFFF
  | 0x4030, 1 => defaultEntry 0x8800000000000007 key
  | 0x4031, 1 => defaultEntry 0x8800000000000007 key
  | 0x4030, 2 => defaultEntry 0xC000000000000007 key
  | 0x4031, 2 => defaultEntry 0xC000000000000007 key
  | 0x4040, 0 => 16777216
  | 0x4200, 3 => 0xFFFF
  | 0x4201, 3 => 0xFFFF
  | 0x4202, 3 => 0xFFFF
  | 0x4203, 3 => 0xFFFF
  | 0x4204, 3 => 0xFFFF
  | 0x4205, 3 => 0xFFFF
  | 0x4300, 3 => 16384
  | 0x4300, 4 => 1048576
  | 0x4300, 6 => 256
  | 0x4300, 7 => 57344
  | 0x4400, 1 => 1
  | 0x4401, 1 => 1
  | 0x4400, 2 => 1
  | 0x4401, 2 => 1
  | 0x4400, 3 => 8
  | 0x4401, 3 => 8
  | 0x4400, 4 => 32
  | 0x4401, 4 => 32
  | 0x4400, 6 => 128
  | 0x4401, 6 => 128
  | 0x4400, 7 => 48211
  | 0x4401, 7 => 48211
  | 0x6001, 1 => 2000000
  | 0x9001, 1 => 5722
  | 0x9010, 5 => 1907
  | 0x3000, _ => Config.undocumentedDefault key % 2 ^ 32
  | 0x3001, _ => Config.undocumentedDefault key % 2 ^ 32
  | 0x3002, _ => Config.undocumentedDefault key % 2 ^ 32
  | 0x3003, _ => Config.undocumentedDefault key % 2 ^ 32
  | 0x3004, _ => Config.undocumentedDefault key % 2 ^ 32
  | _, _ => 0

end Sys2Proof.Machine
end

