-- ==== Sys2Proof/Machine/Ops.lean ====
section
/-! DEFINITION. The named operations over the module's state: its units, its dictionary and DRAM bytes, the beats of the
timing domains, the system registers (R131 to R135, R171, R176 to R182), results in flight (R114), the raising of an
exception and entry to a handler (R172, R185 to R192). -/

namespace Sys2Proof.Machine

/-- The outcome of a command. -/
abbrev Out := Host.Outcome State Fault Refusal

/-! ### Units -/

/-- DESIGN CHOICE, log entry 6. -/
def coreDef (_ : Nat) : Core := {}
def clusterDef (_ : Nat) : Cluster := {}
def domainDef (_ : Nat) : Domain := {}
def plinthDef (_ : Nat) : Plinth := {}
def saddleDef (_ : Nat) : Saddle := {}
def cairnDef (_ : Nat) : Cairn := {}
def linkDef (_ : Nat) : Link := {}
def sessionDef (_ : Nat) : Session := {}
def mailboxDef (_ : Nat) : Mailbox := {}
def wordDef (_ : Nat) : Word := 0
def maskDef (_ : Nat) : BitVec 2048 := 0
def byteDef (_ : Nat) : Byte := 0

def State.core (s : State) (c : Nat) : Core := mget coreDef s.cores c
def State.setCore (s : State) (c : Nat) (k : Core) : State := { s with cores := mset coreDef s.cores c k }
def State.modCore (s : State) (c : Nat) (f : Core → Core) : State := s.setCore c (f (s.core c))
def State.cluster (s : State) (k : Nat) : Cluster := mget clusterDef s.clusters k
def State.setCluster (s : State) (k : Nat) (v : Cluster) : State := { s with clusters := mset clusterDef s.clusters k v }
def State.modCluster (s : State) (k : Nat) (f : Cluster → Cluster) : State := s.setCluster k (f (s.cluster k))
def State.domain (s : State) (d : Nat) : Domain := mget domainDef s.domains d
def State.setDomain (s : State) (d : Nat) (v : Domain) : State := { s with domains := mset domainDef s.domains d v }
def State.modDomain (s : State) (d : Nat) (f : Domain → Domain) : State := s.setDomain d (f (s.domain d))
def State.plinth (s : State) (p : Nat) : Plinth := mget plinthDef s.plinths p
def State.setPlinth (s : State) (p : Nat) (v : Plinth) : State := { s with plinths := mset plinthDef s.plinths p v }
def State.modPlinth (s : State) (p : Nat) (f : Plinth → Plinth) : State := s.setPlinth p (f (s.plinth p))
def State.saddle (s : State) (n : Nat) : Saddle := mget saddleDef s.saddles n
def State.setSaddle (s : State) (n : Nat) (v : Saddle) : State := { s with saddles := mset saddleDef s.saddles n v }
def State.modSaddle (s : State) (n : Nat) (f : Saddle → Saddle) : State := s.setSaddle n (f (s.saddle n))
def State.cairn (s : State) (q : Nat) : Cairn := mget cairnDef s.cairns q
def State.setCairn (s : State) (q : Nat) (v : Cairn) : State := { s with cairns := mset cairnDef s.cairns q v }
def State.link (s : State) (l : Nat) : Link := mget linkDef s.links l
def State.setLink (s : State) (l : Nat) (v : Link) : State := { s with links := mset linkDef s.links l v }
def State.modLink (s : State) (l : Nat) (f : Link → Link) : State := s.setLink l (f (s.link l))
def State.session (s : State) (i : Nat) : Session := mget sessionDef s.sessions i
def State.setSession (s : State) (i : Nat) (v : Session) : State := { s with sessions := mset sessionDef s.sessions i v }
def State.mailbox (s : State) (i : Nat) : Mailbox := mget mailboxDef s.mailboxes i
def State.setMailbox (s : State) (i : Nat) (v : Mailbox) : State := { s with mailboxes := mset mailboxDef s.mailboxes i v }

/-! ### The dictionary's stored values, and counters -/

def State.obj (s : State) (idx sub : Nat) : Nat := mget objDefault s.dict (okey idx sub)
def State.setObj (s : State) (idx sub v : Nat) : State := { s with dict := mset objDefault s.dict (okey idx sub) v }

/-- A U32 counter saturates (R435). -/
def satInc (v : Nat) : Nat := if v < 0xFFFFFFFF then v + 1 else 0xFFFFFFFF
def State.count (s : State) (idx sub : Nat) : State := s.setObj idx sub (satInc (s.obj idx sub))

/-- COREID.DEV: DEVNUM while RSTATE is not 0, and else 0 (R132, R337). -/
def State.dev (s : State) : Nat := if s.obj 0x4000 4 ≠ 0 then s.obj 0x4000 1 % 4096 else 0

/-- A fresh number, and a fresh free value. -/
def State.takeId (s : State) : Nat × State := (s.nextId, { s with nextId := s.nextId + 1 })
/-- DESIGN CHOICE, log entry 13. -/
def State.takeFree (s : State) : Word × State := (Config.freeValue s.fresh, { s with fresh := s.fresh + 1 })

/-! ### Addresses and DRAM bytes -/

def devOf (pa : Word) : Nat := wf pa 63 52
def localOf (pa : Word) : Nat := wf pa 51 0
def State.isLocal (s : State) (pa : Word) : Bool := devOf pa = s.dev

/-- The parts of the local address space (R196). -/
inductive Region where
  | dram
  | coreBlock (core off : Nat)
  | summit
  | cairn (n off : Nat)
  | unassigned
deriving DecidableEq, Repr

def coreBlockBase : Nat := 0xE000000000000
def summitBase : Nat := 0xE800000000000
def cairnBase : Nat := 0xF000000000000

/-- R196, R199, R244. -/
def regionOf (a : Nat) : Region :=
  if a < dramSize then .dram
  else if coreBlockBase ≤ a && a < coreBlockBase + 0x4000100 then
    .coreBlock ((a - coreBlockBase) / 64) ((a - coreBlockBase) % 64)
  else if summitBase ≤ a && a < summitBase + 0x1000000 then .summit
  else if cairnBase ≤ a && a < cairnBase + 0x1000000 then .cairn ((a - cairnBase) / 256) ((a - cairnBase) % 256)
  else .unassigned

/-- The home stack of a local DRAM address (R197). -/
def stackOf (a : Nat) : Nat := fld a 20 16
/-- The address within the stack (R197). -/
def stackAddr (a : Nat) : Nat := fld a 40 21 * 65536 + a % 65536
/-- The saddle of a stack and of a ridge die (R12). -/
def saddleOfStack (p : Nat) : Nat := p / 4
def saddleOfRidge (r : Nat) : Nat := r / 2
/-- The holding saddle of a cairn (R244). -/
def saddleOfCairn (q : Nat) : Nat := q / 8192

/-- DESIGN CHOICE, log entry 5. -/
def memDefault (_ : Nat) : Byte := 0
/-- The canonical form of memory: addresses strictly rising, no entry equal to what an unlisted address reads as. -/
def Memory.wf (m : Memory) : Bool := mwf memDefault m
/-- DESIGN CHOICE, log entry 5. -/
def State.byte (s : State) (a : Nat) : Byte := mget memDefault s.dram a
def State.setByte (s : State) (a : Nat) (b : Byte) : State := { s with dram := mset memDefault s.dram a b }

/-- `n` bytes from local DRAM address `a` on, as a little-endian number. -/
def State.readMem (s : State) (a : Nat) : Nat → Nat
  | 0 => 0
  | n + 1 => (s.byte a).toNat + 256 * s.readMem (a + 1) n

def State.readBytes (s : State) (a : Nat) : Nat → List Byte
  | 0 => []
  | n + 1 => s.byte a :: s.readBytes (a + 1) n

def State.writeBytes (s : State) (a : Nat) : List Byte → State
  | [] => s
  | b :: bs => (s.setByte a b).writeBytes (a + 1) bs

/-- Bytes written under a mask: bit i of `mask` covers the byte at a + i. -/
def State.writeMasked (s : State) (a mask data : Nat) : Nat → State
  | 0 => s
  | n + 1 =>
    let s' := if mask % 2 == 1 then s.setByte a (BitVec.ofNat 8 data) else s
    s'.writeMasked (a + 1) (mask / 2) (data / 256) n

/-- The bytes of `old` replaced by those of `new` where the mask has a 1. -/
def mergeN : Nat → Nat → Nat → Nat → Nat
  | 0, _, _, _ => 0
  | n + 1, mask, new, old =>
    (if mask % 2 == 1 then new % 256 else old % 256) + 256 * mergeN n (mask / 2) (new / 256) (old / 256)

/-- A mask of `n` bytes from byte `off` on. -/
def byteMask (off n : Nat) : Nat := (2 ^ n - 1) * 2 ^ off

/-! ### Where a core stands -/

/-- DEDUCED, log entry 31. -/
def coreBoot (c : Nat) : Bool := bootBase ≤ c
/-- DEDUCED, log entry 31. -/
def clusterOf (c : Nat) : Nat := c / 16
def spurOf (c : Nat) : Nat := c / 1024
def ridgeOf (c : Nat) : Nat := c / 65536
def bootDomain : Nat := 0x45F
/-- The timing domain whose beats a core counts (R111). -/
def coreDomain (c : Nat) : Nat := if coreBoot c then bootDomain else spurOf c
def clusterSpur (k : Nat) : Nat := k / 64
/-- The 16 cores of a cluster. -/
def coresOf (k : Nat) : List Nat := (List.range 16).map (fun i => 16 * k + i)

def Core.level (k : Core) : Nat := wf k.stat 1 0
/-- BOOT and CORE of COREID (R132). -/
def coreIdLow (c : Nat) : Nat := if coreBoot c then 2 ^ 20 + (c - bootBase) else c
/-- COREID (R132). -/
def State.coreId (s : State) (c : Nat) : Word := w64 (s.dev * 2 ^ 52 + coreIdLow c)
/-- An identity word (R252). DEDUCED, log entry 78. -/
def identWord (dev src op : Nat) (q : Bool) (core : Nat) : Word :=
  w64 (dev * 2 ^ 52 + src * 2 ^ 48 + op * 2 ^ 46 + q.toNat * 2 ^ 45 + 2 ^ 44 + core % 2 ^ 21)
/-- DEDUCED, log entry 78. -/
def State.coreIdent (s : State) (c op : Nat) (q : Bool) : Word := identWord s.dev 0 op q (coreIdLow c)

/-! ### Beats -/

def State.beat (s : State) (d : Nat) : Nat := (s.domain d).beat
/-- Time in a domain moves forward to beat `b`. -/
def State.toBeat (s : State) (d b : Nat) : State :=
  s.modDomain d (fun v => { v with beat := Nat.max v.beat b })
/-- The active beat of a core at beat `b` (R113): beats less frozen beats. -/
def Core.active (k : Core) (b : Nat) : Nat := b - k.fcnt
/-- FBEAT of a spur beat (R68). -/
def fbeat (b : Nat) : Nat := b % 512
/-- The first beat at or after `b` with the parity of `p` (R117). DEDUCED, log entry 23. -/
def sameParity (p b : Nat) : Nat := if b % 2 = p % 2 then b else b + 1
/-- The first odd beat at or after `b`. DEDUCED, log entry 23. -/
def oddFrom (b : Nat) : Nat := if b % 2 = 1 then b else b + 1

/-- Whether a core may be given an instruction: it runs, no exception waits, it is not frozen and runs no transfer or move. -/
def State.running (s : State) (c : Nat) : Bool :=
  if coreBoot c then !s.power.off && 3 ≤ s.power.startStep
  else (s.cluster (clusterOf c)).phase == .run && (s.domain (spurOf c)).cad != 2
def Core.free (k : Core) : Bool := k.frozen.isNone && k.exc.isNone && k.xfer.isNone && k.move.isNone && k.stopped.isNone
/-- Whether the cores of a cluster have been told to stop at their next boundary: by an entry, or by a debug halt (R388,
R453). -/
def State.stopAsked (s : State) (k : Nat) : Bool :=
  (match s.power.entry with
   | some e => 2 ≤ e.stage && e.stage ≠ 6 && e.spurs.contains (clusterSpur k)
   | none => false)
  || (match s.halted with
   | some h => h.val = k
   | none => false)
/-- Whether active beat `a` lies in no mode-change shadow and in no NOINT window. -/
def Core.openAt (k : Core) (a : Nat) : Bool :=
  !(k.shadow ≠ 0 && a ≤ k.shadow) &&
  (match k.noint with
   | some e => e < a
   | none => true)
/-- Whether beat `b` is a boundary at which the core may be stopped or interrupted (R183). -/
def Core.boundary (k : Core) (b : Nat) : Bool :=
  k.free && k.slot.isNone && !k.noIntr && k.next ≤ b && k.openAt (k.active b)
def State.canIssue (s : State) (c : Nat) : Bool := s.running c && (s.core c).free

/-! ### Scalar registers and results in flight -/

/-- s0 reads as zero (R111). -/
def Core.sreg (k : Core) (r : Reg) : Word := if r = 0 then 0 else mget wordDef k.s r.toNat
def Core.setS (k : Core) (r : Reg) (v : Word) : Core :=
  if r = 0 then k else { k with s := mset wordDef k.s r.toNat v }

/-- Order of results: by due beat, and FCTL flags after a register write of the same beat (R6). -/
def Pend.rank (p : Pend) : Nat := 2 * p.due + (if p.dst = .fflags then 1 else 0)
/-- A result joins those in flight behind every one that is due no later: of two in one beat the later-issued stands. -/
def addPend (p : Pend) : List Pend → List Pend
  | [] => [p]
  | q :: qs => if q.rank ≤ p.rank then q :: addPend p qs else p :: q :: qs

/-- The result `v` of an instruction issued at active beat `a`, at distance `d` (R114, R115). -/
def Core.result (k : Core) (a d : Nat) (r : Reg) (v : Word) : Core :=
  if r = 0 then k else { k with pend := addPend { due := a + d, dst := .sreg r, tag := none, val := v } k.pend }

/-! ### Interrupts -/

/-- The state of a spur, byte d of 0x2011:00 (R385). -/
def State.spurState (s : State) (d : Nat) : Nat := byteOf (s.obj 0x2011 0) d
def State.setSpurState (s : State) (d v : Nat) : State := s.setObj 0x2011 0 (Machine.setByte (s.obj 0x2011 0) d v)
/-- Whether a spur is clamped, in Nap or powering up, so that its rim holds what arrives (R392). -/
def State.rimHolds (s : State) (d : Nat) : Bool := (4 ≤ s.spurState d && s.spurState d ≤ 6) || s.power.gated.contains d

def ipCore : BitVec 8 := 1
def ipDoorbell : BitVec 8 := 2
def ipAsync : BitVec 8 := 4
def ipNotice : BitVec 8 := 8
def ipSummit : BitVec 8 := 16

/-! ### System registers -/

/-- The mask of writable RW bits of the register layouts of R177, R179, R181, R182, R135, R204, R205. -/
def maskAddr : Nat := 0xFFFFFFFFFFFC
def maskCause : Nat := 0xE300FFFF0000FFFF
def maskIvec : Nat := 0xFFFFFFFFFE00
def maskAtb : Nat := 0xFFFFFFFFFC001
def keep (m : Nat) (v : Word) : Word := v &&& w64 m

/-- CSTAT (R68), at spur beat `b`. -/
def cstatWord (k : Core) (cl : Cluster) (b : Nat) : Word :=
  w64 (k.cflags.toNat * 2 ^ 22 + cl.commit.isSome.toNat * 2 ^ 21 + k.cq.length * 2 ^ 18 + fbeat b)

/-- LCNT, LBEG and LEND as SYSR reads them at active beat `a`: in the shadow of a LOOP, as they were (LOOP page). -/
def Core.seenLoop (k : Core) (a : Nat) : Word × Word × Word :=
  match k.loopSeen.find? (fun e => a ≤ e.1) with
  | some e => e.2
  | none => (k.lcnt, k.lbeg, k.lend)

/-- The value of a system register at the issue beat (R131). DEDUCED, log entry 19. -/
def State.sysRead (s : State) (c : Nat) (b : Nat) (sr : Nat) : Word :=
  let k := s.core c
  let cl := s.cluster (clusterOf c)
  match sr with
  | 0x000 => s.coreId c
  | 0x001 => if coreBoot c then 0 else 0x08030800
  | 0x002 => k.vcfg
  | 0x003 => k.fctl
  | 0x004 => k.tprog
  | 0x005 => cstatWord k cl b
  | 0x006 => w64 (b - Nat.max k.bbase (Nat.max cl.bbase (s.domain (coreDomain c)).rbase))
  | 0x007 => w64 k.fcnt
  | 0x008 => (k.seenLoop (k.active b)).1
  | 0x009 => (k.seenLoop (k.active b)).2.1
  | 0x00A => (k.seenLoop (k.active b)).2.2
  | 0x010 => cl.pendingMaps.csmap
  | 0x011 => wsetb cl.pendingMaps.csctl 1 cl.maperr
  | 0x012 => cl.pendingMaps.cqmap.getD 0 0
  | 0x013 => cl.pendingMaps.cqmap.getD 1 0
  | 0x014 => cl.pendingMaps.cqmap.getD 2 0
  | 0x015 => cl.pendingMaps.cqmap.getD 3 0
  | 0x016 => cl.pendingMaps.cqctl.getD 0 0
  | 0x017 => cl.pendingMaps.cqctl.getD 1 0
  | 0x018 => cl.pendingMaps.cqctl.getD 2 0
  | 0x019 => cl.pendingMaps.cqctl.getD 3 0
  | 0x100 => k.stat
  | 0x101 => k.saveS.pc
  | 0x102 => k.saveS.st
  | 0x103 => k.saveS.cause
  | 0x104 => k.saveS.faultv
  | 0x105 => k.saveS.aux
  | 0x106 => k.saveS.ivec
  | 0x107 => k.saveS.scratch
  | 0x180 => k.atb
  | 0x181 => k.asid
  | 0x201 => k.saveM.pc
  | 0x202 => k.saveM.st
  | 0x203 => k.saveM.cause
  | 0x204 => k.saveM.faultv
  | 0x205 => k.saveM.aux
  | 0x206 => k.saveM.ivec
  | 0x207 => k.saveM.scratch
  | _ => 0

/-- The levels that may read and write a system register (R131): 0 every level, 1 S and M, 3 M. -/
def sysReadLevel (sr : Nat) : Nat := if 0x201 ≤ sr then 3 else if 0x010 ≤ sr then 1 else 0
/-- `none` for a register that no level writes. -/
def sysWriteLevel (sr : Nat) : Option Nat :=
  if sr = 0 || sr = 1 || sr = 6 || sr = 7 then none
  else if sr = 4 then some 1
  else some (sysReadLevel sr)

/-- A field that refuses one value: [h:l] of `old` is kept where `bad` holds of the new field. -/
def fieldUnless (bad : Nat → Bool) (h l : Nat) (old v : Word) : Word :=
  if bad (wf v h l) then wset v h l (wf old h l) else v

/-- VLMAX of a VCFG (R148). -/
def vlmaxOf (vcfg : Word) : Nat := 2048 * 2 ^ wf vcfg 7 6 / (8 * 2 ^ wf vcfg 5 4)

/-- A software write of VCFG (R148). -/
def vcfgWrite (old v : Word) : Word :=
  if !vcfgSupported (wf v 5 4) (wf v 3 2) then old
  else
    let w := keep 0xFFFF00FC v
    if vlmaxOf w < wf w 31 16 then wset w 31 16 (vlmaxOf w) else w

/-- A software write of FCTL (R35): RM refuses 0b100 to 0b111, the flags are W1C. -/
def fctlWrite (old v clr : Word) : Word :=
  (fieldUnless (fun m => 4 ≤ m) 10 8 old (keep 0xF00 v)) ||| (keep 0x1F old &&& ~~~clr)

/-- A software write of LCNT (R135). -/
def lcntWrite (old v : Word) : Word := fieldUnless (fun m => m = 2) 33 32 old (keep 0x3FFFFFFFF v)

/-- A software write of STAT (R171). -/
def statWrite (old v clr : Word) (lvl : Nat) : Word :=
  (keep 0xFF00004000 v) ||| (if lvl = 3 then keep 0x8000 v else keep 0x8000 old)
    ||| (keep 0xFF0000000000 old &&& ~~~clr) ||| keep 3 old

def savstWrite (old v : Word) : Word := fieldUnless (fun m => m = 2) 1 0 old (keep 0xFFFF0000C003 v)
/-- A software write of CAUSE (R179). TGT, a level, never holds 0b10 (R170): a write with that value leaves TGT as it was, and the other
fields take theirs. DESIGN CHOICE, log entry 96. -/
def causeWrite (old v : Word) : Word := fieldUnless (fun m => m = 2) 57 56 old (keep maskCause v)

/-- The value `v` takes effect in system register `sr` at spur beat `at_`; `clr` holds the W1C bits written with 1, `lvl`
the level of the write's issue (R131, R171). Canvas results up to that beat stand before a write of CSTAT (R6). -/
def State.sysWrite (s : State) (c : Nat) (sr : Nat) (v clr : Word) (lvl at_ : Nat) : State :=
  let ki := clusterOf c
  let cl := s.cluster ki
  let maps (f : Maps → Maps) : State := s.setCluster ki { cl with pendingMaps := f cl.pendingMaps }
  match sr with
  | 0x002 => s.modCore c (fun k => { k with vcfg := vcfgWrite k.vcfg v })
  | 0x003 => s.modCore c (fun k => { k with fctl := fctlWrite k.fctl v clr })
  | 0x004 => s.modCore c (fun k => { k with tprog := keep 0xFC1F v })
  | 0x005 => s.modCore c (fun k =>
    let k1 := k.canvasTo at_
    { k1 with cflags := k1.cflags &&& ~~~(BitVec.ofNat 2 (wf clr 23 22)) })
  | 0x008 => s.modCore c (fun k => { k with lcnt := lcntWrite k.lcnt v })
  | 0x009 => s.modCore c (fun k => { k with lbeg := keep maskAddr v })
  | 0x00A => s.modCore c (fun k => { k with lend := keep maskAddr v })
  | 0x010 => maps (fun m => { m with csmap := v })
  | 0x011 =>
    let m := { cl.pendingMaps with csctl := keep 0xFFFFFFFF0004 v }
    s.setCluster ki { cl with
      pendingMaps := m
      maperr := cl.maperr && !wb clr 1
      commit := if wb v 0 then some ((at_ / 512 + 1) * 512, m) else cl.commit }
  | 0x012 => maps (fun m => { m with cqmap := m.cqmap.set 0 v })
  | 0x013 => maps (fun m => { m with cqmap := m.cqmap.set 1 v })
  | 0x014 => maps (fun m => { m with cqmap := m.cqmap.set 2 v })
  | 0x015 => maps (fun m => { m with cqmap := m.cqmap.set 3 v })
  | 0x016 => maps (fun m => { m with cqctl := m.cqctl.set 0 (keep 0xFFFFFFFF0000 v) })
  | 0x017 => maps (fun m => { m with cqctl := m.cqctl.set 1 (keep 0xFFFFFFFF0000 v) })
  | 0x018 => maps (fun m => { m with cqctl := m.cqctl.set 2 (keep 0xFFFFFFFF0000 v) })
  | 0x019 => maps (fun m => { m with cqctl := m.cqctl.set 3 (keep 0xFFFFFFFF0000 v) })
  | 0x100 => s.modCore c (fun k => { k with stat := statWrite k.stat v clr lvl })
  | 0x101 => s.modCore c (fun k => { k with saveS := { k.saveS with pc := keep maskAddr v } })
  | 0x102 => s.modCore c (fun k => { k with saveS := { k.saveS with st := savstWrite k.saveS.st v } })
  | 0x103 => s.modCore c (fun k => { k with saveS := { k.saveS with cause := causeWrite k.saveS.cause v } })
  | 0x104 => s.modCore c (fun k => { k with saveS := { k.saveS with faultv := v } })
  | 0x105 => s.modCore c (fun k => { k with saveS := { k.saveS with aux := v } })
  | 0x106 => s.modCore c (fun k => { k with saveS := { k.saveS with ivec := keep maskIvec v } })
  | 0x107 => s.modCore c (fun k => { k with saveS := { k.saveS with scratch := v } })
  | 0x180 => s.modCore c (fun k => { k with atb := keep maskAtb v, tlb := [] })
  | 0x181 => s.modCore c (fun k => { k with asid := keep 0xFFFF v })
  | 0x201 => s.modCore c (fun k => { k with saveM := { k.saveM with pc := keep maskAddr v } })
  | 0x202 => s.modCore c (fun k => { k with saveM := { k.saveM with st := savstWrite k.saveM.st v } })
  | 0x203 => s.modCore c (fun k => { k with saveM := { k.saveM with cause := causeWrite k.saveM.cause v } })
  | 0x204 => s.modCore c (fun k => { k with saveM := { k.saveM with faultv := v } })
  | 0x205 => s.modCore c (fun k => { k with saveM := { k.saveM with aux := v } })
  | 0x206 => s.modCore c (fun k => { k with saveM := { k.saveM with ivec := keep maskIvec v } })
  | 0x207 => s.modCore c (fun k => { k with saveM := { k.saveM with scratch := v } })
  | _ => s

/-- The mode-changing registers (R134), FCTL apart. -/
def modeChanging (sr : Nat) : Bool :=
  sr = 2 || sr = 8 || sr = 9 || sr = 10 || sr = 0x100 || sr = 0x180 || sr = 0x181

/-! ### Results take effect -/

/-- A write of a loop register that takes effect at active beat `a` in the shadow of a LOOP: what SYSR reads until the shadow
ends has it, and the values that LOOP has written stand (LOOP page). -/
def loopWrite (sr a : Nat) (v : Word) (e : Nat × Word × Word × Word) : Nat × Word × Word × Word :=
  if e.1 < a then e
  else if sr = 8 then (e.1, lcntWrite e.2.1 v, e.2.2)
  else if sr = 9 then (e.1, e.2.1, keep maskAddr v, e.2.2.2)
  else (e.1, e.2.1, e.2.2.1, keep maskAddr v)
def isLoopReg (sr : Nat) : Bool := sr = 8 || sr = 9 || sr = 10

/-- One result takes effect. FCTL flags are sticky (R37). -/
def State.land1 (s : State) (c : Nat) (p : Pend) : State :=
  match p.dst with
  | .sreg r => s.modCore c (fun k => k.setS r p.val)
  | .sys sr clr lvl =>
    if isLoopReg sr.toNat && (s.core c).loopSeen.any (fun e => p.due ≤ e.1) then
      s.modCore c (fun k => { k with loopSeen := k.loopSeen.map (loopWrite sr.toNat p.due p.val) })
    else s.sysWrite c sr.toNat p.val clr lvl.toNat (p.due + (s.core c).fcnt)
  | .fflags => s.modCore c (fun k => { k with fctl := k.fctl ||| keep 0x1F p.val })

/-- Whether a result that is due at active beat `a` or before, in a core with `f` frozen beats, is present (R116). -/
def Pend.present (p : Pend) (f a : Nat) : Bool := p.tag.isNone && p.ready ≤ a + f

/-- The results of core `c` that `which` picks take effect, in order. -/
def State.landIf (s : State) (c : Nat) (which : Pend → Bool) : State :=
  let k := s.core c
  (k.pend.filter which).foldl (fun t p => t.land1 c p) (s.setCore c { k with pend := k.pend.filter (fun p => !which p) })

/-- Every present result of core `c` due at or before active beat `a` takes effect, in order. DEDUCED, log entry 22. -/
def State.landAll (s : State) (c a : Nat) : State :=
  s.landIf c (fun p => p.due ≤ a && p.present (s.core c).fcnt a)

/-- The first result due at or before active beat `a` whose value is absent (R116). DEDUCED, log entry 22. -/
def Core.absent (k : Core) (a : Nat) : Option Nat :=
  (k.pend.find? (fun p => p.due ≤ a && !p.present k.fcnt a)).map (·.due)

/-- The active beat that a core has reached; in a freeze, the one before the freeze's own (R118), in a tile transfer or move,
which are freezes, the issue beat of the instruction (R116). -/
def State.activeNow (s : State) (c : Nat) : Nat :=
  let k := s.core c
  let b := s.beat (coreDomain c)
  if k.xfer.isSome || k.move.isSome then k.active (Nat.min b (k.next - 1))
  else
    match k.frozen with
    | some (_, f) => k.active f - 1
    | none => k.active b

/-- Results that are due by now take effect: done before anything else touches a core. -/
def State.settled (s : State) (c : Nat) : State := s.landAll c (s.activeNow c)

/-! ### Generators -/

def lastGenerator : Nat := 0x457
/-- The reset value of CAP by kind (R274). -/
def capDefault (d : Nat) : Nat := if d < 0x400 then 1250 else if 0x418 ≤ d && d ≤ 0x437 then 1600 else 1400
def Domain.capOf (g : Domain) (d : Nat) : Nat := g.cap.elim (capDefault d) BitVec.toNat
def isPhy (d : Nat) : Bool := 0x418 ≤ d && d ≤ 0x437


/-- CAD changes: a generator that starts is not armed (R385). DEDUCED, log entry 65. -/
def Domain.setCad (g : Domain) (v : BitVec 2) : Domain :=
  { g with cad := v, cadBefore := if v = 2 && g.cad ≠ 2 then g.cad else g.cadBefore, armed := g.armed && g.cad ≠ 2 && v ≠ 2 }

/-- A stopped generator restarts in the cadence it held before, at 8 further beats; a spur in Doze is in Run (R276, R384).
DEDUCED, log entry 65. -/
def State.restartDomain (s : State) (d : Nat) : State :=
  if (s.domain d).cad = 2 then
    let s1 := s.modDomain d (fun g => { g with cad := g.cadBefore, beat := g.beat + 8, armed := false })
    if d < 1024 && s1.spurState d = 1 then s1.setSpurState d 0 else s1
  else s

/-- A request or an answer that arrives at a stopped generator restarts it (R276); a napping spur is the rim's (R392). DEDUCED, log entry
65. -/
def State.wakes (s : State) (d : Nat) : State := if d < 1024 && s.rimHolds d then s else s.restartDomain d
/-- What the crossing to a domain costs more where its generator is stopped (R276). -/
def State.wakeCost (s : State) (d : Nat) : Nat := if (s.domain d).cad = 2 then 8 else 0

/-- The rate of a domain in fixed cadence, in Mbeat/s; a port's in symbol times (R272). -/
def fixedRate (d : Nat) : Nat :=
  if isPhy d then 1600
  else if d ≤ lastGenerator then 500
  else if d ≤ 0x45E then 53125
  else if d = 0x45F then 800
  else if d = 0x460 then 400
  else if d = 0x461 then 200
  else 20
/-- The rate of a domain: in fixed cadence the fixed one, or what a window has measured below it; in tracking cadence as measured; nothing
where it is not known, or no beat is issued (R272, R274). -/
def State.rateOf (s : State) (d : Nat) : Option Nat :=
  let g := s.domain d
  if lastGenerator < d then some (fixedRate d)
  else if g.cad = 2 then none
  else if g.cad = 0 then some (if g.rate ≠ 0 then Nat.min g.rate.toNat (fixedRate d) else fixedRate d)
  else if g.rate ≠ 0 then some g.rate.toNat
  else none
/-- The rates under which the guard keeps a spur: of its ridge rim, and of every saddle core and plinth (R275). DEDUCED, log entry 65. -/
def State.guardRates (s : State) (d : Nat) : List Nat :=
  ((0x400 + d / 64) :: ((List.range 8).map (0x410 + ·) ++ (List.range 32).map (0x438 + ·))).filterMap s.rateOf
/-- The effective cap of a spur (R275). DEDUCED, log entry 65. -/
def State.effectiveCap (s : State) (d : Nat) : Nat := (s.guardRates d).foldl Nat.min ((s.domain d).capOf d)
/-- Whether a domain serves spur `d`: its ridge rim, a saddle core or a plinth (R275). -/
def servesSpur (g d : Nat) : Bool := g = 0x400 + d / 64 || (0x410 ≤ g && g < 0x418) || (0x438 ≤ g && g ≤ lastGenerator)
/-- The rate of domain `g` has changed since state `old`: where it has fallen, the spurs that it serves note their beat (R280). -/
def State.noteFall (s old : State) (g : Nat) : State :=
  if 0x400 ≤ g && (old.rateOf g).elim false (fun r => (s.rateOf g).elim false (· < r)) then
    { s with domains := mupd domainDef (fun d v =>
        if d < 1024 && servesSpur g d then { v with fellAt := some v.beat } else v) s.domains }
  else s
/-- Whether an answer to a request of beat `t` that is due at `due` can be late: a domain on its path has become slower meanwhile
(R279, R280). DEDUCED, log entry 40. -/
def State.slips (s : State) (d t due : Nat) : Bool := (s.domain d).fellAt.elim false (fun f => decide (t ≤ f) && decide (f ≤ due))

/-! ### Delivery -/

/-- The beat at which an answer to a request of beat `t` that reached the rim at beat `arrival` is delivered to core `c`, and whether it
counts as late: an uncontended one on a guarded path comes at its due beat, unless a domain has slipped (R278 to R280). -/
def State.delivery (s : State) (c t due arrival : Nat) (guarded contended : Bool) : Nat × Bool :=
  if guarded && !contended then (if due < arrival && s.slips (coreDomain c) t due then (arrival, true) else (due, false))
  else (Nat.max due arrival, false)
def State.lateCount (s : State) (c : Nat) (late : Bool) : State := if late then s.count 0x8000 (ridgeOf c + 1) else s

/-! ### Interrupt bits -/

/-- Whether the rim of a napping spur keeps what arrives for a core, up to the restore of its cluster (R392, R407). -/
def State.rimKeeps (s : State) (c : Nat) : Bool :=
  !coreBoot c && s.rimHolds (spurOf c) && !(s.spurState (spurOf c) = 6 && (s.cluster (clusterOf c)).phase == .run)
/-- A core hears of something, after its writes that were due before (R6, R276). -/
def State.hears (s : State) (c : Nat) : State := if s.rimKeeps c then s else (s.wakes (coreDomain c)).settled c
/-- Bits of STAT.IP are set; the rim of a napping spur keeps them in its mask (R172, R392). -/
def State.setIp (s : State) (c : Nat) (bits : BitVec 8) : State :=
  if s.rimKeeps c then s.modCore c (fun k => { k with held := k.held ||| bits })
  else (s.hears c).modCore c (fun k => { k with stat := k.stat ||| w64 (bits.toNat * 2 ^ 40) })

/-! ### Exceptions -/

def causeFetchPage : Nat := 0x01
def causeFetchAccess : Nat := 0x02
def causeIllegal : Nat := 0x03
def causeUnclaimed : Nat := 0x04
def causePrivilege : Nat := 0x05
def causeMisaligned : Nat := 0x06
def causeReadPage : Nat := 0x07
def causeWritePage : Nat := 0x08
def causeDataAccess : Nat := 0x09
def causeTileOperand : Nat := 0x0A
def causeTileConfig : Nat := 0x0B
def causeNoSlot : Nat := 0x0C
def causeOverrun : Nat := 0x0D
def causeErrorAnswer : Nat := 0x0E
def causeSyscall : Nat := 0x0F

/-- Whether the instruction at the pc stands at the end of an active loop of its level (R135). -/
def Core.atLend (k : Core) : Bool :=
  wf k.lcnt 31 0 != 0 && w64 k.pc.toNat == k.lend && wf k.lcnt 33 32 == k.level

/-- An exception recognised by the instruction at the pc, at beat `b`; in a shadow it is deferred (R192). DEDUCED, log entry 33. -/
def Core.raise (k : Core) (b code : Nat) (faultv : Word) (ecode : Nat) : Core :=
  { k with exc := some {
      code := BitVec.ofNat 16 code, faultv := faultv, restart := k.pc, ecode := BitVec.ofNat 16 ecode
      x := k.active b, deferred := k.active b ≤ k.shadow && k.shadow != 0, shd := false } }

/-- The target level of a cause (R172): S, but M for SYSCALL from S or M, and M on a boot core. -/
def targetLevel (boot : Bool) (code level : Nat) : Nat :=
  if boot then 3 else if code = causeSyscall && level ≠ 0 then 3 else 1

/-- The live bits of STAT. -/
def Core.live (k : Core) (l : Nat) : Bool := wb k.stat (if l = 3 then 15 else 14)

/-- The target level of interrupt source `n` (R172). -/
def intTarget (boot : Bool) (n : Nat) : Nat := if boot || n = 4 then 3 else 1
/-- The level at which source `n` can be taken now (R175, R183). DEDUCED, log entry 35. -/
def Core.takes (k : Core) (boot : Bool) (n : Nat) : Option Nat :=
  let l := Nat.max (intTarget boot n) k.level
  if wb k.stat (40 + n) && wb k.stat (32 + n) && (k.level < l || !k.live l) then some l else none
/-- The interrupt to be taken: level M before level S, then the lowest source (R183). -/
def Core.interrupt (k : Core) (boot : Bool) : Option (Nat × Nat) :=
  let all := (List.range 8).filterMap (fun n => (k.takes boot n).map (fun l => (n, l)))
  match all.find? (fun x => x.2 = 3) with
  | some x => some x
  | none => all.head?

/-- Entry at level `l` (R185, R186): the save set is written, the level and its live bit set, and the first handler
instruction issues at the later of x + 8 and the second beat after the last vector instruction's final step. LP is 1 where the restart
address is LBEG and the last instruction stood at LEND, also in a loop of one instruction: the model's choice (R181, R193). DEDUCED,
log entry 35. DESIGN CHOICE, log entry 90. -/
def Core.enter (k : Core) (l : Nat) (cause : Nat) (faultv : Word) (restart : BitVec 48) (x offset : Nat) : Core :=
  let ds := k.slot.isSome
  let btgt := match k.slot with
    | some t => t.toNat
    | none => 0
  let aux := w64 (wf k.tprog 15 0 * 2 ^ 48 + btgt / 4 * 4 + k.atLend.toNat * 2 + ds.toNat)
  let old := if l = 3 then k.saveM else k.saveS
  let set := { old with
    pc := keep maskAddr (w64 restart.toNat), st := k.stat, cause := w64 cause, faultv := faultv, aux := aux }
  let first := Nat.max (x + 8 + k.fcnt) (k.vfinal + 2)
  { k with
    saveM := if l = 3 then set else k.saveM
    saveS := if l = 3 then k.saveS else set
    tprog := 0
    stat := wsetb (wset k.stat 1 0 l) (if l = 3 then 15 else 14) true
    rsv := none
    noint := none
    noIntr := false
    exc := none
    slot := none
    pc := BitVec.ofNat 48 (wf old.ivec 47 9 * 512 + offset)
    next := Nat.max k.next first }

end Sys2Proof.Machine
end

