-- ==== Sys2Proof/Machine/Translate.lean ====
section
/-! DEFINITION. Translation of addresses and the checks at issue (R195 to R198, R203 to R210). -/

namespace Sys2Proof.Machine

/-- The attributes that a page gives an access: shared, reuse class, the page's first address and the first one after it. -/
structure PageAttr where
  sh : Bool
  cls : BitVec 2
  pageBase : Nat
  pageEnd : Nat
deriving DecidableEq, Repr

/-- The outcome of a translation at issue: an address, a cause, or a walk. -/
inductive XRes where
  | ok (pa : Word) (pg : PageAttr)
  | fault (code : Nat)
  | walk
deriving DecidableEq, Repr

def Acc.isFetch : Acc → Bool
  | .fetch => true
  | _ => false

/-- The page-fault cause of an access (R209). -/
def Acc.pageCause : Acc → Nat
  | .fetch => causeFetchPage
  | .load => causeReadPage
  | .pref => causeReadPage
  | _ => causeWritePage

/-- The access-fault cause of an access (R209). -/
def Acc.accessCause : Acc → Nat
  | .fetch => causeFetchAccess
  | _ => causeDataAccess

/-- Whether a core's accesses are translated (R203). -/
def Core.translates (k : Core) : Bool := k.level ≠ 3 && wb k.atb 0

/-- Whether a leaf's permissions allow the access at this level (R208, R209). -/
def leafAllows (leaf : Word) (level : Nat) (acc : Acc) : Bool :=
  (level ≠ 0 || wb leaf 6) &&
  (match acc with
   | .fetch => wb leaf 5
   | .store => wb leaf 4
   | .nmcA => wb leaf 4
   | _ => wb leaf 3)

/-- Whether a translation-cache entry serves address `va` (R210). -/
def Tlb.hits (t : Tlb) (asid : BitVec 16) (va : Word) : Bool :=
  (if t.big then wf va 47 26 = t.vpn else wf va 47 16 = t.vpn) && (wb t.leaf 7 || t.asid == asid)

def Core.tlbFind (k : Core) (va : Word) : Option Tlb :=
  k.tlb.find? (fun t => t.hits (BitVec.ofNat 16 k.asid.toNat) va)

/-- The address that a leaf gives (R208). -/
def Tlb.address (t : Tlb) (va : Word) : Word :=
  if t.big then w64 (wf t.leaf 63 26 * 2 ^ 26 + wf va 25 0) else w64 (wf t.leaf 63 16 * 2 ^ 16 + wf va 15 0)

def Tlb.pageBase (t : Tlb) : Nat := if t.big then wf t.leaf 63 26 * 2 ^ 26 else wf t.leaf 63 16 * 2 ^ 16
def Tlb.pageEnd (t : Tlb) : Nat := t.pageBase + if t.big then 2 ^ 26 else 2 ^ 16

/-- DESIGN CHOICE, log entry 11. -/
def untranslatedAttr : PageAttr :=
  { sh := Config.untranslatedShared, cls := Config.untranslatedClass, pageBase := 0, pageEnd := 2 ^ 64 }

/-- Translation of `va` for core `c` (R203, R209, R210); permissions are checked here, R198 by the caller. -/
def State.translate (s : State) (c : Nat) (va : Word) (acc : Acc) : XRes :=
  let k := s.core c
  if !k.translates then
    if acc.isFetch then .ok (w64 (s.dev * 2 ^ 52 + wf va 47 0)) untranslatedAttr else .ok va untranslatedAttr
  else if wf va 63 48 ≠ 0 then .fault acc.pageCause
  else match k.tlbFind va with
    | none => .walk
    | some t =>
      let pa := t.address va
      if !leafAllows t.leaf k.level acc || (acc.isFetch && !s.isLocal pa) then .fault acc.accessCause
      else .ok pa { sh := wb t.leaf 10, cls := BitVec.ofNat 2 (wf t.leaf 9 8), pageBase := t.pageBase, pageEnd := t.pageEnd }

/-- What an access does, for R198: a fetch, a doubleword load or store, another scalar access, LR or SC, a tile row, a
near-memory operand, SIGC or WAITC, a PREF. -/
inductive AccKind where
  | fetch | dword | scalar | lrsc | row | nmc | cairn | pref
deriving DecidableEq, Repr

/-- R198, R245, R246: whether the issuing core accepts the access at a local address. -/
def regionAllows (r : Region) (kind : AccKind) : Bool :=
  match r, kind with
  | .dram, .cairn => false
  | .dram, _ => true
  | .coreBlock _ _, .dword => true
  | .summit, .dword => true
  | .cairn _ _, .dword => true
  | .cairn _ off, .cairn => off = 0
  | _, _ => false

/-- Translation and every check of the issuing core (R127, R198, R209). SIGC and WAITC must address the cairn window of
either module (R245); a remote access is otherwise checked at its target. -/
def State.access (s : State) (c : Nat) (va : Word) (acc : Acc) (kind : AccKind) : XRes :=
  match s.translate c va acc with
  | .ok pa pg =>
    let r := regionOf (localOf pa)
    let okHere := if s.isLocal pa then regionAllows r kind else
      (match kind, r with
       | .cairn, .cairn _ _ => true
       | .cairn, _ => false
       | .fetch, _ => false
       | _, _ => true)
    if okHere then .ok pa pg else .fault acc.accessCause
  | r => r

/-- An entry of a page table with the must-be-zero fields of R207 and R208, as a pointer or a leaf. -/
inductive Pte where
  | bad
  | pointer (next : Nat)
  | leaf
deriving DecidableEq, Repr

/-- An entry read at level `lv` (R206 to R208). One of level 3 with LEAF = 0 is a page fault: the model's choice. DESIGN CHOICE, log entry
85. -/
def pteOf (lv : Nat) (e : Word) : Pte :=
  if !wb e 0 then .bad
  else if wb e 1 then
    if lv = 1 || wf e 15 11 ≠ 0 || wb e 2 || (lv = 2 && wf e 25 16 ≠ 0) then .bad else .leaf
  else if lv = 3 || wf e 63 52 ≠ 0 || wf e 12 2 ≠ 0 || (lv = 1 && wb e 13) then .bad
  else .pointer (wf e 51 13 * 2 ^ 13)

end Sys2Proof.Machine
end

