-- ==== Sys2Proof/Machine/Issue.lean ====
section
/-! DEFINITION. Issue: what every instruction of a core goes through, whatever it does (R113 to R118, R121, R127, R129,
R130, R134 to R137, R174, R192). A meaning gives the body; `issue` gives the rest. -/

namespace Sys2Proof.Machine

/-- Where control goes after an instruction that completes. -/
inductive Flow where
  | seq
  | taken (target : BitVec 48)
  /-- past the body of a LOOP whose count is 0 -/
  | skip (pc : BitVec 48)
deriving DecidableEq, Repr

/-- What an instruction does at its issue beat. -/
inductive Res where
  /-- it completes -/
  | done (s : State) (f : Flow)
  /-- it raises an exception and does nothing else -/
  | raise (code : Nat) (faultv : Word)
  /-- it raises an exception that is taken at beat `at_`, in state `s` -/
  | raiseAt (s : State) (at_ : Nat) (code : Nat) (faultv : Word)
  /-- it does not issue: the core freezes -/
  | freeze (why : Freeze)
  /-- it has issued and completes later, or has set the pc itself -/
  | begun (s : State)

/-- A branch, jump, LOOP, SYSCALL or SRET (R130, R137). -/
def isControl : Instr → Bool
  | .beq _ _ _ _ => true
  | .bne _ _ _ _ => true
  | .blt _ _ _ _ => true
  | .bge _ _ _ _ => true
  | .bltu _ _ _ _ => true
  | .bgeu _ _ _ _ => true
  | .jal _ _ => true
  | .jalr _ _ _ _ => true
  | .loop _ _ _ => true
  | .syscall _ => true
  | .sret _ => true
  | .sretSkip _ => true
  | _ => false

/-- A tile transfer (R106). -/
def isTransfer : Instr → Bool
  | .tld _ _ _ _ _ _ => true
  | .tst _ _ _ _ _ _ => true
  | _ => false

/-- The conditions of R121 on an instruction's fields that its page states, vector operations apart (their fields are
checked with their operands). DEDUCED, log entry 17. -/
def legalInstr : Instr → Bool
  | .sysr c _ sr => sysExists (isBoot c) sr.toNat
  | .sysw c _ _ sr => sysExists (isBoot c) sr.toNat
  | .syss c _ _ sr => sysExists (isBoot c) sr.toNat
  | .sysc c _ _ sr => sysExists (isBoot c) sr.toNat
  | .nmc _ op rg _ => op.toNat < 12 && rg ≠ 0 && rg.toNat % 4 = 0
  | .tmma c tc _ _ _ var _ _ => !isBoot c && tc.toNat % 2 = 0 && var ≠ 3
  | .tmmap c tc _ _ _ mm1 _ => !isBoot c && tc.toNat % 4 = 0 && mm1.toNat ≤ 15
  | .tmmaq c _ _ _ _ mm1 nm1 => !isBoot c && mm1.toNat ≤ 15 && nm1.toNat ≤ 15
  | .tfence c => !isBoot c
  | .tcfg c _ => !isBoot c
  | .tcfgrd c _ => !isBoot c
  | .tld c _ _ _ rsel _ => !isBoot c && rsel ≠ 3
  | .tst c _ _ _ rsel _ => !isBoot c && rsel ≠ 3
  | .tmvv c _ _ _ => !isBoot c
  | .tmvt c _ _ _ => !isBoot c
  | .vsetvl c _ _ _ sew ft => !isBoot c && vcfgSupported sew.toNat ft.toNat
  | _ => true

/-- An instruction's word, zero-extended (R172). -/
def wordOf (i : Instr) : Word := w64 (encodeWord i)

/-- The pc after an instruction that completes, with the delay slot and the loop (R129, R135 to R137). DEDUCED, log entry 17. -/
def Core.retire (k : Core) (f : Flow) : Core :=
  let count := wf k.lcnt 31 0
  let k1 := if k.atLend then { k with lcnt := wset k.lcnt 31 0 (count - 1) } else k
  match k.slot with
  | some t => { k1 with pc := t, slot := none }
  | none =>
    match f with
    | .taken t => { k1 with pc := k.pc + 4, slot := some t }
    | .skip p => { k1 with pc := p }
    | .seq =>
      { k1 with pc := if k.atLend && count != 1 then BitVec.ofNat 48 k.lbeg.toNat else k.pc + 4 }

/-- Hardware's clearing of TPROG.VALID at the issue of anything but TLD or TST (R106). -/
def Core.clearValid (k : Core) (i : Instr) : Core :=
  if isTransfer i then k else { k with tprog := wsetb k.tprog 15 false }

/-- The core freezes from beat `b` on (R116). -/
def Core.freeze (k : Core) (why : Freeze) (b : Nat) : Core := { k with frozen := some (why, b), clear := 0 }

/-- A freeze that began at beat `f` ends at beat `e` (R116). What the core waits for in active beats moves with it; the
collectors hold meanwhile, and the final step of a vector instruction that runs moves with them (R118). -/
def Core.thaw (k : Core) (f e : Nat) : Core :=
  { k with
    frozen := none
    clear := 0
    fcnt := k.fcnt + (e - f)
    next := if f < k.next then k.next + (e - f) else e
    vfinal := if oddFrom f ≤ k.vfinal then oddFrom e + (k.vfinal - oddFrom f) else k.vfinal
    vlast := if oddFrom f ≤ k.vlast then oddFrom e + (k.vlast - oddFrom f) else k.vlast }

/-! ### Tile moves in progress (R88, R168) -/

/-- The largest number of a step's accesses in one bank; two reads of one line count once (R159). -/
def bankLoad (reads : List Nat) (write extra : Option Nat) : Nat :=
  let keys := reads.eraseDups.map keyBank ++ (write.toList.map keyBank) ++ (extra.toList.map keyBank)
  Nat.max 1 ((List.range 8).foldl (fun m b => Nat.max m (keys.count b)) 0)

/-- A move has written its last line in beat `e`: it completes, and the next instruction issues in the beat after it (R89,
R136). -/
def Core.endMove (k : Core) (e line : Nat) : Core :=
  { ({ k with move := none }.retire .seq) with
    vfinal := e, vlast := e, vfinalLine := some line, fcnt := k.fcnt + (e + 1 - k.next), next := Nat.max k.next (e + 1)
    noIntr := false }

/-- One step of a move: it reads the next line and writes the one that the step before has read, the read before the write
(R88); the last step only writes. -/
def Core.moveStep (k : Core) (m : Move) : Core :=
  let k1 := k.canvasTo m.at_
  let write (q : Core) : Core :=
    match m.prev, m.dst with
    | some l, d :: _ => q.setLine d l
    | _, _ => q
  match m.src with
  | [] => (write k1).endMove m.at_ (m.dst.headD 0)
  | r :: rest =>
    let last := m.at_ + 2 * (bankLoad [r] (if m.prev.isSome then m.dst.head? else none) none - 1)
    let next : Move :=
      { src := rest, dst := if m.prev.isSome then m.dst.drop 1 else m.dst, prev := some (k1.line r), at_ := last + 2, last := last }
    { write (k1.canvasTo last) with move := some next }

/-- A move takes its steps while `go` holds of the beat of the next one; `n` bounds their number. -/
def Core.moveWhile (k : Core) (go : Nat → Bool) : Nat → Core
  | 0 => k
  | n + 1 =>
    match k.move with
    | none => k
    | some m => if go m.at_ then (k.moveStep m).moveWhile go n else k

/-- A bound on the steps of a move: one for each line of the largest group, and the last write. -/
def moveActs : Nat := 40

/-- Palette accesses of the core before beat `b`: a move's and the canvas's (R73, R88). -/
def Core.paletteTo (k : Core) (b : Nat) : Core := (k.moveWhile (fun x => x < b) moveActs).canvasTo b

/-- A move stops before its next step, at beat `b`; it starts again whole (R168, TMVV page). -/
def Core.stopMove (k : Core) (b : Nat) : Core :=
  { k with move := none, fcnt := k.fcnt + (b - k.next), next := Nat.max k.next b }

/-- A move that is under way at beat `b` stops there. -/
def Core.cutMove (k : Core) (b : Nat) : Core := if k.move.isSome then k.stopMove b else k

/-- The steps that a move has begun by beat `b`, and at least the first one. -/
def Core.moveTo (k : Core) (b : Nat) : Core :=
  let first : Core := match k.move with
    | some m => if m.prev.isNone then k.moveStep m else k
    | none => k
  first.moveWhile (fun x => x ≤ b) moveActs

/-- A move runs to its end, unless it is still under way and an interrupt that can be taken holds the next instruction
(R168, R183). -/
def State.moveOver (s : State) (c : Nat) : State :=
  match (s.core c).move with
  | none => s
  | some _ =>
    if !s.running c then s
    else s.modCore c (fun k =>
      let k1 := k.moveTo (s.beat (coreDomain c))
      if k1.move.isSome && k1.openAt (k1.active k1.next) && (k1.interrupt (coreBoot c)).isSome then k1
      else k1.moveWhile (fun _ => true) moveActs)

/-- The instruction at the pc is fetched (R15, R203, R209, R282): the cause of a fault, a freeze, or nothing.
DESIGN CHOICE, log entry 4. DEDUCED, log entry 36. -/
def State.fetch (s : State) (c : Nat) : Option (Nat ⊕ Freeze) :=
  let k := s.core c
  let va := w64 k.pc.toNat
  match s.access c va .fetch .fetch with
  | .fault code => some (.inl code)
  | .walk => some (.inr (.walk va .fetch))
  | .ok pa _ => if k.icache.contains (localOf pa / 128) then none else some (.inr .icache)

/-- A write of ATB or ASID. -/
def Pend.translates (p : Pend) : Bool :=
  match p.dst with
  | .sys sr _ _ => sr = 0x180 || sr = 0x181
  | _ => false
/-- The state as core `c` freezes at beat `b`, which would have been its active beat `a`: the results of that beat wait for the end of
the freeze (R118), but for those under which the frozen instruction translates. DEDUCED, log entry 23. -/
def State.heldAt (s : State) (c a b : Nat) : State :=
  ((s.landAll c (a - 1)).landIf c (fun p => p.due ≤ a && p.translates)).modCore c (fun k => k.canvasTo b)

/-- After the body: retirement and the next issue beat. -/
def State.finish (s : State) (c : Nat) (b : Nat) (i : Instr) (r : Res) (before : State) : State :=
  match r with
  | .done t f =>
    t.modCore c (fun k => { ((k.clearValid i).retire f) with
      next := Nat.max k.next (b + 1), noIntr := isControl i })
  | .raise code fv => s.modCore c (fun k => (k.clearValid i).raise b code fv 0)
  | .raiseAt t x code fv => t.modCore c (fun k => (k.clearValid i).raise x code fv 0)
  | .freeze why => before.modCore c (fun k => k.freeze why b)
  | .begun t => t

/-- Issue of instruction `i` of core `c`, with what the canvas has read and written for it before the issue beat (R73). Where the
core cannot be given an instruction, or an interrupt is to be taken at that beat (R183), nothing happens; where the instruction
cannot issue the core freezes, and the instruction comes again when the freeze has ended. -/
def State.issueNow (s : State) (c : CoreId) (i : Instr) (body : State → Nat → Res) : State :=
  if !s.canIssue c then s
  else
    let k := s.core c
    let b := Nat.max (s.beat (coreDomain c)) k.next
    let a := k.active b
    let s1 := s.toBeat (coreDomain c) b
    match k.absent a with
    | some due => (s1.landAll c (due - 1)).modCore c (fun k => k.freeze .answer (due + k.fcnt))
    | none =>
      let s2 := (s1.landAll c a).modCore c (fun k => k.canvasTo b)
      let held := s1.heldAt c a b
      if !coreBoot c && s.stopAsked (clusterOf c) && k.boundary b then s2.modCore c (fun k => { k with stopped := some b })
      else if k.boundary b && ((s2.core c).interrupt (coreBoot c)).isSome then s
      else
      match s2.fetch c with
      | some (.inl code) => s2.modCore c (fun k => k.raise b code (w64 k.pc.toNat) 0)
      | some (.inr why) => held.modCore c (fun k => k.freeze why b)
      | none =>
        let k2 := s2.core c
        if !legalInstr i || (isControl i && (k2.slot.isSome || k2.atLend)) then
          s2.finish c b i (.raise causeIllegal (wordOf i)) held
        else s2.finish c b i (body s2 b) held

/-- Issue, after the move that the core may still be making. -/
def State.issue (s : State) (c : CoreId) (i : Instr) (body : State → Nat → Res) : State :=
  (s.moveOver c).issueNow c i body

/-- A meaning of a core's instruction. -/
def issueOut (s : State) (c : CoreId) (i : Instr) (body : State → Nat → Res) : Out := .next (s.issue c i body)

/-- A body that only gives the core new registers and results. -/
def coreBody (c : CoreId) (f : Core → Nat → Core) (s : State) (b : Nat) : Res :=
  .done (s.modCore c (fun k => f k (k.active b))) .seq

end Sys2Proof.Machine
end

