-- ==== Sys2Proof/Machine/Net.lean ====
section
/-! DEFINITION. Requests on their way: access tables (R361 to R365), fenced targets (R309, R320), routing and the frames
of remote requests (R195, R348, R349, R357, R358), and answers (R235, R322). -/

namespace Sys2Proof.Machine

/-! ### Error codes of answers (R322) -/

def codeFenced : Nat := 0x1001
def codeInterrupted : Nat := 0x1002
def codeParked : Nat := 0x1003
def codeDenied : Nat := 0x1004
def codeNoAddress : Nat := 0x1005
def codeData : Nat := 0x1006
def codeUnreachable : Nat := 0x1007
def codeEngine : Nat := 0x1008

/-! ### Access tables -/

/-- A master, as an access table knows it (R363). -/
inductive Who where
  | core (c : Nat)
  | host
  | mgmt (portB : Bool)
  | summit
  | remote (dev : Nat)
deriving DecidableEq, Repr

/-- The rights of an access-table entry. -/
inductive Right where
  | read | write | nmc
deriving DecidableEq, Repr

/-- KIND and INDEX of a reset domain (R304), and the domain that they name. -/
def domKind : Dom → Nat
  | .cluster _ => 0
  | .spur _ => 1
  | .ridge _ => 2
  | .saddle _ => 3
  | .module => 4
def domIndex : Dom → Nat
  | .cluster k => k.val
  | .spur d => d.val
  | .ridge r => r.val
  | .saddle n => n.val
  | .module => 0

/-- Whether a domain, given by KIND and INDEX, holds a cluster; a saddle (R304). -/
def domHasCluster (kind index k : Nat) : Bool :=
  match kind with
  | 0 => index = k
  | 1 => index = k / 64
  | 2 => index = k / 4096
  | 4 => true
  | _ => false
def domHasSaddle (kind index n : Nat) : Bool := (kind = 3 && index = n) || kind = 4
def domCluster (d : Dom) (k : Nat) : Bool := domHasCluster (domKind d) (domIndex d) k
def domSaddle (d : Dom) (n : Nat) : Bool := domHasSaddle (domKind d) (domIndex d) n

/-- Whether an entry's first word selects the master (R362, R363). -/
def whoMatches (w0 : Nat) : Who → Bool
  | .core c => fld w0 62 60 = 0 && domHasCluster (fld w0 59 57) (fld w0 27 12) (clusterOf c)
  | .host => fld w0 62 60 = 1
  | .mgmt b => fld w0 62 60 = (if b then 3 else 2)
  | .summit => fld w0 62 60 = 4
  | .remote d => fld w0 62 60 = 5 && fld w0 39 28 ≤ d && d ≤ fld w0 51 40

/-- Whether an entry's second word contains an address of region kind `rkind` (R362): a DRAM address, or a cairn
number. -/
def regionMatches (w1 rkind a : Nat) : Bool :=
  fld w1 63 61 = rkind &&
  (match rkind with
   | 0 => fld w1 25 0 ≤ fld a 51 26 && fld a 51 26 ≤ fld w1 51 26
   | 1 => fld w1 7 0 ≤ a / 256 && a / 256 ≤ fld w1 33 26
   | _ => true)

/-- The right that an entry gives, if it matches; an entry that nothing has written holds its default, which grants
every right on every region (R365). DESIGN CHOICE, log entry 10. -/
def State.entryRight (s : State) (table i : Nat) (who : Who) (rkind a : Nat) (r : Right) : Option Bool :=
  let e := s.obj table (i + 1)
  let w0 := e % 2 ^ 64
  let w1 := e / 2 ^ 64
  let unwritten := i < 2 && (mfind s.dict (okey table (i + 1))).isNone
  if bitAt w0 63 && whoMatches w0 who && (unwritten || regionMatches w1 rkind a) then
    some (match r with
      | .read => bitAt w0 0
      | .write => bitAt w0 1
      | .nmc => bitAt w0 2 && bitAt w0 1)
  else none

/-- R364: the first matching entry decides; with none the access is denied. -/
def State.allowed (s : State) (table : Nat) (who : Who) (rkind a : Nat) (r : Right) : Bool :=
  match (List.range 64).findSome? (fun i => s.entryRight table i who rkind a r) with
  | some b => b
  | none => false

/-- The saddle table's region kind and address for a local address; `none` outside its kinds. -/
def saddleRegion (a : Nat) : Option (Nat × Nat) :=
  match regionOf a with
  | .dram => some (0, a)
  | .cairn n _ => some (1, n)
  | .coreBlock _ _ => some (2, 0)
  | _ => none

/-! ### Fenced targets -/

/-- Whether a saddle, a cluster is in a recovery (R309). -/
def State.saddleFenced (s : State) (n : Nat) : Bool := s.recovs.any (fun r => domSaddle r.dom n)
def State.clusterFenced (s : State) (k : Nat) : Bool := s.recovs.any (fun r => domCluster r.dom k)

/-- Whether the saddles' and the plinths' units have no power: in Hold and Safe Hold, in the varnish pass, in a wake before the stacks and
the saddles are back, and in a start-up before they are up (R383, R396, R403, R405). -/
def State.fabricOff (s : State) : Bool :=
  match s.obj 0x2010 0 with
  | 1 => !s.power.off && s.power.startStep < 6
  | 5 => s.power.wakePhase < 4
  | m => m = 4 || m = 6 || m = 7
/-- Whether sorters, engines, cairn units and plinths perform nothing: they are off, or have finished for an entry to Hold, whose blocks are
shut down one after another (R387, R391). DEDUCED, log entry 61. -/
def State.saddlesOff (s : State) : Bool :=
  s.fabricOff || s.power.entry.elim false (fun e => e.hold && e.stage = 6)

/-- The Fenced answer of a target, if its domain is fenced or parked (R309, R318). -/
def State.fenceCode (s : State) (a : Nat) : Nat :=
  match regionOf a with
  | .dram => if s.saddleFenced (saddleOfStack (stackOf a)) then codeFenced else 0
  | .cairn n _ => if s.saddleFenced (saddleOfCairn n) then codeFenced else 0
  | .coreBlock c _ =>
    if coreBoot c then 0
    else if s.clusterFenced (clusterOf c) then codeFenced
    else if (s.cluster (clusterOf c)).phase == .parked then codeParked else 0
  | _ => 0

/-- What the saddle table answers to an access: 0 where it allows it (R361, R364). -/
def State.tableError (s : State) (a : Nat) (who : Who) (r : Right) : Nat :=
  match saddleRegion a with
  | some (k, x) => if s.allowed 0x4030 who k x r then 0 else codeDenied
  | none =>
    match regionOf a with
    | .summit => 0
    | _ => codeNoAddress
/-- The error that a local target answers before it performs an access (R235, R361): 0 for none. -/
def State.targetError (s : State) (a : Nat) (who : Who) (r : Right) : Nat :=
  if s.fenceCode a ≠ 0 then s.fenceCode a else s.tableError a who r

/-- Whether a read of `n` bytes meets a poisoned line or an uncorrectable error (R230). -/
def State.lineBad (s : State) (line : Nat) : Bool := s.poison.contains line || s.dramBad.contains line
def State.rangeBad (s : State) (a n : Nat) : Bool :=
  (List.range (n / 128 + 2)).any (fun i =>
    let l := a / 128 + i
    decide (l * 128 < a + n) && s.lineBad l)

/-- The master behind a request (R363). An engine's and a remote requester's device stands in the identity word. -/
def Req.who (r : Req) (dev : Nat) : Who :=
  match r.src with
  | .core c => if coreBoot c then .summit else .core c
  | .cluster k => .core (16 * k)
  | .storePath k _ => .core (16 * k)
  | .sketch k _ => .core (16 * k)
  | .remote _ d _ => .remote d.toNat
  | .host _ => .host
  | .link => .host
  | .engine _ =>
    if wf r.ident 63 52 = dev then
      if wb r.ident 20 then .summit else .core (wf r.ident 19 0)
    else .remote (wf r.ident 63 52)
  | .summit =>
    match wf r.ident 51 48 with
    | 3 => .mgmt false
    | 4 => .mgmt true
    | _ => .summit

/-! ### Frames -/

/-- Lowest and highest word of a flit. -/
def flit (lo hi : Word) : BitVec 128 := hi ++ lo
def flitLo (f : BitVec 128) : Word := f.truncate 64
def flitHi (f : BitVec 128) : Word := (f >>> 64).truncate 64
/-- Eight data flits of a line, first bytes first. -/
def lineFlits (d : BitVec 1024) : List (BitVec 128) := (List.range 8).map (fun i => (d >>> (128 * i)).truncate 128)
def flitsLine (fs : List (BitVec 128)) : BitVec 1024 :=
  BitVec.ofNat 1024 (packAll 128 (fs.map BitVec.toNat))

/-- The bytes of a frame in order, and its FCRC (R350). DEDUCED, log entry 49. -/
def crcOfFlits (flits : List (BitVec 128)) : BitVec 16 := BitVec.ofNat 16 (fcrc (flits.flatMap (fun x => natBytes 16 x.toNat)))
/-- The header flit of a frame with FCRC `crc` (R348). -/
def frameHeader (ty : BitVec 5) (f : Frame) (crc : BitVec 16) : BitVec 128 :=
  crc ++ ty ++ f.dest ++ f.src ++ f.tag ++ f.line ++ f.hops ++ BitVec.ofBool f.vcb ++ f.aux
/-- The FCRC of a frame: over its header, with FCRC 0, and its data flits (R350, R367). DEDUCED, log entry 49. -/
def frameFcrc (ty : BitVec 5) (f : Frame) : BitVec 16 := crcOfFlits (frameHeader ty f 0 :: f.flits)
/-- The header flit of a Shutik frame (R367). -/
def hframeHeader (ty : BitVec 5) (f : HFrame) (crc : BitVec 16) : BitVec 128 :=
  crc ++ ty ++ f.buf ++ f.seq ++ BitVec.ofNat 5 f.flits.length ++ f.addr ++ f.tag ++ f.aux
/-- The FCRC of a frame: over its header, with FCRC 0, and its data flits (R350, R367). DEDUCED, log entry 49. -/
def hframeFcrc (ty : BitVec 5) (f : HFrame) : BitVec 16 := crcOfFlits (hframeHeader ty f 0 :: f.flits)

/-- The link-control flit of KIND `kind`, with NUM and the six credits, and FCRC `crc`; its FCRC (R350, R351). -/
def lctlBits (kind num : Nat) (cred : List Nat) (crc : BitVec 16) : BitVec 128 :=
  crc ++ (0x1F : BitVec 5) ++ BitVec.ofNat 3 kind ++ BitVec.ofNat 12 num ++ BitVec.ofNat 72 (packAll 12 (cred.map (· % 4096)))
    ++ (0 : BitVec 20)
def lctlFcrc (kind num : Nat) (cred : List Nat) : BitVec 16 := crcOfFlits [lctlBits kind num cred 0]
def lctlFlit (kind num : Nat) (cred : List Nat) : BitVec 128 := lctlBits kind num cred (lctlFcrc kind num cred)

/-- The routing table of saddle `n`: in a route epoch, the new one once it has installed it (R357, R360). -/
def State.tableOf (s : State) (n : Nat) : Nat := (s.saddle n).routes.getD (s.obj 0x4010 0)
/-- The route of device `d` at saddle `n` (R357). -/
def State.route (s : State) (n d : Nat) : Nat := fld (s.tableOf n) (4 * d + 2) (4 * d)
/-- DL of the route of device `d`. -/
def State.routeDl (s : State) (n d : Nat) : Bool := bitAt (s.tableOf n) (4 * d + 3)
/-- The state of a port: 0 down, 1 training, 2 up (R356). -/
def State.portUp (s : State) (p : Nat) : Bool := s.obj (0x4200 + p) 1 = 2

/-- The port for a device, if it is reachable: a member's route through a port that is not down (R195, R337, R357). -/
def State.portFor (s : State) (n d : Nat) : Option Nat :=
  if s.obj 0x4000 4 = 0 || 6 ≤ s.route n d || s.obj (0x4200 + s.route n d) 1 = 0 then none else some (s.route n d)

/-- The port for a device, where neither the saddle of the sender nor the port's is fenced (R309). -/
def State.wayOut (s : State) (n d : Nat) : Option Nat :=
  (s.portFor n d).filter (fun p => !s.saddleFenced n && !s.saddleFenced p)

/-! ### Link-symbol crossings (R277, R283) -/

/-- The crossing of a link that is not the module's own: a multiple of 8 in the range of R277. -/
def farLink (d i : Nat) : Nat := 512 + 8 * (Config.farCrossing d i % 961)
/-- The crossings of `hops` links from saddle `n` to device `d`, in symbol times. -/
def State.crossing (s : State) (n d hops : Nat) : Nat :=
  s.obj (0x4200 + s.route n d) 2 + ((List.range (hops - 1)).map (farLink d)).foldl (· + ·) 0
/-! ### The link layer, sending (R351 to R353, R369) -/

/-- The object that holds the state of a link, and whether the link is up. -/
def linkState (l : Nat) : Nat := if l < 6 then 0x4200 + l else 0x4300
def State.linkUp (s : State) (l : Nat) : Bool := s.obj (linkState l) 1 = 2

/-- The credit class of a frame: request, answer and manager frames on channel A or B; on the Shutik link NP, P, BUF
and CPL. The other frames of the Shutik link take no credit. -/
def tChannel (ty : Nat) (vcb : Bool) : Nat := (if ty < 0x10 then 0 else if ty < 0x18 then 2 else 4) + vcb.toNat
/-- DEDUCED, log entry 49. -/
def hChannel (ty : Nat) : Option Nat :=
  match ty with
  | 0x00 => some 0
  | 0x01 => some 1
  | 0x07 => some 1
  | 0x02 => some 2
  | 0x05 => some 3
  | 0x08 => some 3
  | _ => none
def LFrame.channel : LFrame → Option Nat
  | .t f => some (tChannel f.ty.toNat f.f.vcb)
  | .m f => some (4 + f.f.vcb.toNat)
  | .h f => hChannel f.ty.toNat
/-- The flits of a frame, and the credits that it takes: flits, but a count of frames for NP, P and BUF. -/
def LFrame.flits : LFrame → Nat
  | .t f => 1 + f.f.flits.length
  | .m f => 1 + f.f.flits.length
  | .h f => 1 + f.f.flits.length
def LFrame.need : LFrame → Nat
  | .t f => 1 + f.f.flits.length
  | .m f => 1 + f.f.flits.length
  | .h f => if hChannel f.ty.toNat = some 3 then 1 + f.f.flits.length else 1

/-- Full credits at training. DEDUCED, log entry 49. -/
def fullCredit (l : Nat) : List Nat := if l < 6 then [1024, 1024, 2048, 2048, 256, 256] else [64, 256, 64, 512, 0, 0]
def replayCap (l : Nat) : Nat := if l < 6 then 8192 else 2048

def addAt (xs : List Nat) (i n : Nat) : List Nat := xs.set i (xs.getD i 0 + n)
def subAt (xs : List Nat) (i n : Nat) : List Nat := xs.set i (xs.getD i 0 - n)
def Link.replayFlits (l : Link) : Nat := (l.replay.map (fun e => e.2.flits)).foldl (· + ·) 0

/-- Whether a frame has the credits and the replay room that it needs. DEDUCED, log entry 49. -/
def Link.canSend (l : Link) (cap : Nat) (f : LFrame) : Bool :=
  l.replayFlits + f.flits ≤ cap
  && (match f.channel with
      | some ch => f.need ≤ l.credit.getD ch 0
      | none => true)
/-- The NP credit of a host read comes free when its last answer frame is sent, whose SEQ is its BUF (R370). -/
def LFrame.endsRead : LFrame → Bool
  | .h f => f.ty = 8 && f.f.seq.toNat = f.f.buf.toNat
  | _ => false
def Link.sendOne (l : Link) (f : LFrame) : Link :=
  { l with
    held := if f.endsRead then addAt l.held 0 1 else l.held
    txNum := (l.txNum + 1) % 4096
    replay := l.replay ++ [(l.txNum, f)]
    sent := l.sent ++ [(l.txNum, f)]
    credit := match f.channel with
      | some ch => subAt l.credit ch f.need
      | none => l.credit }

/-- Waiting frames are sent in order; a frame that cannot be sent holds up its own channel only. -/
def Link.pumpGo (cap : Nat) : List LFrame → List (Option Nat) → Link → Link
  | [], _, l => l
  | f :: fs, blocked, l =>
    if blocked.contains f.channel || !l.canSend cap f then
      Link.pumpGo cap fs (f.channel :: blocked) { l with txq := l.txq ++ [f] }
    else Link.pumpGo cap fs blocked (l.sendOne f)
def State.pump (s : State) (l : Nat) : State :=
  if s.linkUp l then s.modLink l (fun x => Link.pumpGo (replayCap l) x.txq [] { x with txq := [] }) else s

/-- A frame joins the transmit queue of a link. -/
def State.enqueue (s : State) (l : Nat) (f : LFrame) : State := (s.modLink l (fun x => { x with txq := x.txq ++ [f] })).pump l

/-- A frame with its FCRC. -/
def sealedFrame (ty : BitVec 5) (f : Frame) : LFrame := .t ⟨ty, { f with fcrc := frameFcrc ty f }⟩
/-- A frame leaves saddle `n` through the port for its destination; it crosses one more link, and where DL is set it moves to
channel B (R348, R350, R358). -/
def State.transmit (s : State) (n p : Nat) (ty : Nat) (f : Frame) : State :=
  s.enqueue p (sealedFrame (BitVec.ofNat 5 ty) { f with hops := f.hops + 1, vcb := f.vcb || s.routeDl n f.dest.toNat })

/-- The saddle behind which the summit die sends, and the boot cores with it: the manual joins it to saddles 6 and 7 (R12).
DESIGN CHOICE, log entry 88. -/
def summitSaddle : Nat := 6

/-- A manager frame with its FCRC; it leaves saddle `n` through a port as another frame does (R348, R350, R358). -/
def sealedMgr (kind : MgrKind) (f : Frame) (body : List Nat) : LFrame := .m ⟨kind, { f with fcrc := frameFcrc kind.type f }, body⟩
def State.transmitMgr (s : State) (n p : Nat) (kind : MgrKind) (f : Frame) (body : List Nat) : State :=
  s.enqueue p (sealedMgr kind { f with hops := f.hops + 1, vcb := f.vcb || s.routeDl n f.dest.toNat } body)
/-- The frame that the summit makes of what a kind carries: at most 8 data flits (R349). DESIGN CHOICE, log entry 83. -/
def State.mgrFrame (s : State) (kind : MgrKind) (dest : Nat) (xs : List Nat) : Frame :=
  let k := kind.type.toNat
  { dest := BitVec.ofNat 12 dest, src := BitVec.ofNat 12 s.dev, tag := Config.mgrTag k xs, line := Config.mgrLine k xs, hops := 0
    vcb := false, aux := Config.mgrAux k xs, flits := (Config.mgrData k xs).take 8 }

/-- A manager frame leaves the summit for a device, if that can be reached; it is noted as sent. -/
def State.mgrSend (s : State) (kind : MgrKind) (dest : Nat) (xs : List Nat) : State :=
  let s1 : State := { s with mgrSent := s.mgrSent ++ [(kind, xs)] }
  match s1.portFor summitSaddle dest with
  | none => s1
  | some p => s1.transmitMgr summitSaddle p kind (s1.mgrFrame kind dest xs) xs
/-- A manager frame leaves through a port, for a module that the table does not name. -/
def State.mgrOut (s : State) (kind : MgrKind) (p dest : Nat) (xs : List Nat) : State :=
  { s with mgrSent := s.mgrSent ++ [(kind, xs)] }.enqueue p (sealedMgr kind { s.mgrFrame kind dest xs with hops := 1 } xs)

/-- The frame type, AUX and flits of a request (R349). -/
def reqFrame (r : Req) : Nat × Nat × List (BitVec 128) :=
  let word := wf r.addr 6 3
  match r.kind with
  | .read w => (0x00, if w then 0x8000 + word else 0, [])
  | .loadWord => (0x00, 0x8000 + word, [])
  | .readReserve _ => (0x01, word, [flit r.ident 0])
  | .prefetch mso cls => (0x02, mso.toNat * 2 ^ 15 + cls.toNat * 2 ^ 13, [])
  | .write m d _ =>
    if m = BitVec.allOnes 128 then (0x03, 0, lineFlits d) else (0x03, 0x4000, m :: lineFlits d)
  | .word v => (0x03, 0x8000 + word, [flit v 0])
  | .storeCond _ v => (0x04, word, [flit r.ident v])
  | .signal n => (0x05, 0, [flit r.ident (w64 n)])
  | .decrement n => (0x05, 0, [flit r.ident (w64 n)])
  | .waitGe n => (0x06, 0, [flit r.ident (w64 n)])
  | .waitBar sv =>
    (0x06, 0, [flit r.ident (match sv with
      | some b => w64 (2 ^ 25 + b.toNat * 2 ^ 24)
      | none => 0)])
  | .cancel => (0x07, 0, [flit r.ident 0])
  | .nmc q => (0x08, q.op.toNat, [flit r.ident q.a, flit q.b q.p, flit q.c (q.cairn.getD 0)])
  | .invalidate _ _ => (0x09, 0, [])
  | .sketchRelease _ => (0x0A, 0, [])

/-- The saddle from which a request leaves the module (R348). DESIGN CHOICE, log entry 88. -/
def srcSaddle (r : Req) : Nat :=
  match r.src with
  | .core c => if coreBoot c then summitSaddle else saddleOfRidge (ridgeOf c)
  | .cluster k => k / 8192
  | .storePath k _ => k / 8192
  | .sketch k _ => k / 8192
  | .engine p => saddleOfStack p
  | .remote p _ _ => p
  | .summit => summitSaddle
  | _ => 7

/-- Whether a request takes one of the trackers of its saddle: a prefetch and a release name their cluster in TAG, an invalidation the
holder (R348, R349). -/
def slotted (r : Req) : Bool :=
  match r.kind with
  | .prefetch _ _ => false
  | .sketchRelease _ => false
  | .invalidate _ _ => false
  | _ => true
/-- The trackers of a saddle (R348). -/
def trackers : Nat := 8192
def State.openAt (s : State) (n : Nat) : List (BitVec 16 × Req) := s.remote.filter (fun e => slotted e.2 && srcSaddle e.2 = n)
/-- The requests for whose answers a saddle keeps buffer space: one for each tracker, also where TAG names a cluster (R354). -/
def State.awaited (s : State) (n : Nat) : Nat := (s.remote.filter (fun e => srcSaddle e.2 = n)).length
/-- TAG of a request: the source saddle and a free tracker (R348, R349). DEDUCED, log entry 54. -/
def State.tagFor (s : State) (r : Req) : BitVec 16 :=
  match r.kind, r.src with
  | .prefetch _ _, .sketch k _ => BitVec.ofNat 16 k
  | .sketchRelease _, .sketch k _ => BitVec.ofNat 16 k
  | .invalidate _ _, _ => r.ident.truncate 16
  | _, _ =>
    let tag (i : Nat) : BitVec 16 := BitVec.ofNat 16 (srcSaddle r * trackers + (r.id + i) % trackers)
    let used := s.openAt (srcSaddle r)
    match (List.range trackers).find? (fun i => !used.any (fun e => e.1 = tag i)) with
    | some i => tag i
    | none => tag 0

/-- The open request of this module that a frame of type `ty` carries (R348). -/
def State.ownRequest (s : State) (ty : Nat) (f : Frame) : Option (BitVec 16 × Req) :=
  s.remote.find? (fun e => e.1 = f.tag && (reqFrame e.2).1 = ty && devOf e.2.addr = f.dest.toNat
    && localOf e.2.addr / 128 = f.line.toNat)
/-- Another module's request that cannot go on from saddle `n` is answered with a code through the reverse route of its SRC: an
invalidation is acknowledged, and a release needs no answer (R309, R357). -/
def State.bounceFrame (s : State) (n ty : Nat) (f : Frame) (code : Nat) : State :=
  let mk (aty aux : Nat) (ln : BitVec 45) : State :=
    match s.portFor n f.src.toNat with
    | none => s
    | some p => s.transmit n p aty
        { dest := f.src, src := BitVec.ofNat 12 s.dev, tag := f.tag, line := ln, hops := 0, vcb := false
          aux := BitVec.ofNat 16 aux, flits := [] }
  if 0x10 ≤ ty || ty = 0x0A then s
  else if ty = 0x09 then mk 0x13 0 f.line
  else if ty = 0x07 && code = codeFenced then mk 0x11 0 f.line
  else if ty = 0x06 then mk 0x12 code 0
  else mk 0x11 code f.line

/-- An answer to request `r`. -/
def answerOf (r : Req) (code : Nat) (data : BitVec 1024) (sense : Option Bool) (path : Nat) (guarded : Bool) : Ans :=
  { id := r.id, dst := r.src, code := BitVec.ofNat 16 code, data := data, sense := sense, path := path, t := r.t,
    guarded := guarded, kind := r.kind, addr := r.addr, ident := r.ident, cls := r.cls, symbols := r.symbols }

/-- A request with a fresh number. -/
def State.request (s : State) (src : Src) (kind : RKind) (addr ident : Word) (cls : BitVec 2) (t : Nat) : Req × State :=
  ({ id := s.nextId, src := src, kind := kind, addr := addr, cls := cls, ident := ident, beat := 0, acks := none, t := t },
   { s with nextId := s.nextId + 1 })

/-- Whether a kind of request expects an answer from another device. -/
def RKind.answered : RKind → Bool
  | .sketchRelease _ => false
  | .prefetch mso _ => !mso
  | _ => true

/-- A request for a cairn notes the beat of the holding saddle's cairn unit in which it arrives (R266). -/
def State.arriveAt (s : State) (r : Req) : Req :=
  match regionOf (localOf r.addr) with
  | .cairn q _ => { r with beat := (s.saddle (saddleOfCairn q)).beat }
  | _ => r

/-- Whether a request answered 0x1001 is sent again as it was (R320, R321): a WAITC has its own rule (R269), a prefetch
none. -/
def RKind.retried : RKind → Bool
  | .waitGe _ => false
  | .waitBar _ => false
  | .prefetch _ _ => false
  | .cancel => false
  | .invalidate _ _ => false
  | .sketchRelease _ => false
  | _ => true

/-- The request that an answer answers, to be sent again. -/
def Ans.request (a : Ans) : Req :=
  { id := a.id, src := a.dst, kind := a.kind, addr := a.addr, cls := a.cls, ident := a.ident, beat := 0, acks := none, t := a.t }

/-- An answer is on its way to a requester of the module, or the request that it answers will be sent again (R321); the answer to a
request that has been abandoned is discarded (R311). Data for a cluster keeps its place among what its plinth sends there (R228). -/
def State.answerHere (s : State) (a : Ans) : State :=
  if s.abandoned.contains a.id then { s with abandoned := s.abandoned.erase a.id }
  else if a.code = 0x1001 && a.kind.retried then { s with resend := s.resend ++ [a.request] }
  else match a.dst with
    | .sketch _ _ => { s with answers := s.answers ++ [{ a with no := s.nextId }] }
    | _ => { s with answers := s.answers ++ [a] }

/-- Whether a request for a cairn names another byte than its first: no frame can carry it, and it is answered No address (R245). -/
def strayCairn (r : Req) : Bool :=
  (match r.kind with
   | .signal _ => true
   | .decrement _ => true
   | .waitGe _ => true
   | .waitBar _ => true
   | _ => false) && localOf r.addr % 128 ≠ 0

/-- A request for another device leaves as a frame, or is answered Unreachable (R195, R235, R337, R357), or Fenced where the way out lies
in a fenced saddle (R309). It is kept until it is answered. DEDUCED, log entry 40. -/
def State.sendFar (s : State) (r : Req) : State :=
  let back (code : Nat) : State := if r.kind.answered then s.answerHere (answerOf r code 0 none 0 false) else s
  if strayCairn r then back codeNoAddress
  else match s.portFor (srcSaddle r) (devOf r.addr) with
  | none => back codeUnreachable
  | some p =>
    if s.saddleFenced (srcSaddle r) || s.saddleFenced p then back codeFenced
    else
    let (ty, aux, flits) := reqFrame r
    let f : Frame := { dest := BitVec.ofNat 12 (devOf r.addr), src := BitVec.ofNat 12 s.dev, tag := s.tagFor r
                       line := BitVec.ofNat 45 (localOf r.addr / 128), hops := 0, vcb := false
                       aux := BitVec.ofNat 16 aux, flits := flits }
    let s1 := if r.kind.answered then { s with remote := s.remote ++ [(s.tagFor r, r)] } else s
    s1.transmit (srcSaddle r) p ty f

/-- Whether a request for another device has to wait: its saddle is in a route epoch (R360), or has no space for its answer (R354).
DEDUCED, log entry 54. -/
def State.holdsBack (s : State) (r : Req) : Bool :=
  (s.saddle (srcSaddle r)).epochWait
  || (r.kind.answered && (trackers ≤ s.awaited (srcSaddle r) || s.epochHeld.any (fun h => h.kind.answered && srcSaddle h = srcSaddle r)))
/-- A request leaves: to its target on the own module, or for another device, unless it has to wait. -/
def State.send (s : State) (r : Req) : State :=
  if s.isLocal r.addr then { s with reqs := s.reqs ++ [s.arriveAt r] }
  else if s.holdsBack r then { s with epochHeld := s.epochHeld ++ [r] }
  else s.sendFar r

/-- A request with source, kind and address leaves. -/
def State.sendNew (s : State) (src : Src) (kind : RKind) (addr ident : Word) (cls : BitVec 2) (t : Nat) : State :=
  let (r, s1) := s.request src kind addr ident cls t
  s1.send r

/-- A host write that is refused or answered with an error is discarded and recorded (R369). DEDUCED, log entry 50. -/
def State.hostRefused (s : State) (code : Nat) : State := (s.setObj 0x4300 8 code).count 0x4300 9

/-- The saddle behind a local address. -/
def targetSaddle (a : Nat) : Nat :=
  match regionOf a with
  | .dram => saddleOfStack (stackOf a)
  | .cairn q _ => saddleOfCairn q
  | .coreBlock c _ => if coreBoot c then summitSaddle else saddleOfRidge (ridgeOf c)
  | _ => summitSaddle
/-- The saddle from which an answer leaves the module: its target's, or the holder's. -/
def Ans.saddle (a : Ans) : Nat :=
  match a.kind with
  | .invalidate _ _ => a.ident.toNat / 8192 % 8
  | _ => targetSaddle (localOf a.addr)

/-! ### Frames to the host (R368, R370) -/

def hframe (buf : Nat) (seq : Nat) (addr : Nat) (tag aux : Nat) (flits : List (BitVec 128)) : HFrame :=
  { buf := BitVec.ofNat 6 buf, seq := BitVec.ofNat 12 seq, addr := BitVec.ofNat 52 addr, tag := BitVec.ofNat 16 tag
    aux := BitVec.ofNat 16 aux, flits := flits }
/-- A frame to the host joins the link's transmit queue. -/
def State.hsend (s : State) (ty : Nat) (f : HFrame) : State :=
  s.enqueue 6 (.h ⟨BitVec.ofNat 5 ty, { f with fcrc := hframeFcrc (BitVec.ofNat 5 ty) f }⟩)
/-- Bytes as flits, the last one filled up with zeros. -/
def bytesFlits : Nat → List Byte → List (BitVec 128)
  | 0, _ => []
  | n + 1, bs => if bs.isEmpty then [] else BitVec.ofNat 128 (bytesNat (bs.take 16)) :: bytesFlits n (bs.drop 16)
/-- The DDATA frames of a read. -/
def State.ddata (s : State) (tag a : Nat) (bs : List Byte) : State :=
  let flits := bytesFlits bs.length bs
  let n := (flits.length + 15) / 16
  (List.range n).foldl (fun t i =>
    t.hsend 0x08 (hframe (n - 1) i (a + 256 * i) tag 0 ((flits.drop (16 * i)).take 16))) s
def State.ddataError (s : State) (tag a code : Nat) : State := s.hsend 0x08 (hframe 0 0 a tag code [])

/-- The answer frame for a remote requester (R349), or the answer on its way inside the module; the answer to a request that has been
abandoned is discarded (R311). -/
def State.answer (s : State) (a : Ans) : State :=
  if s.abandoned.contains a.id then { s with abandoned := s.abandoned.erase a.id }
  else match a.dst with
  | .remote _ dev tag =>
    let line := localOf a.addr / 128
    let data := a.code = 0
    let lo (n : Nat) : BitVec 45 := BitVec.ofNat 45 n
    let mk (ty aux : Nat) (ln : BitVec 45) (flits : List (BitVec 128)) : State :=
      match s.portFor a.saddle dev.toNat with
      | none => s
      | some p => s.transmit a.saddle p ty
          { dest := dev, src := BitVec.ofNat 12 s.dev, tag := tag, line := ln, hops := 0, vcb := false, aux := BitVec.ofNat 16 aux
            flits := flits }
    let word : Nat := wf a.addr 6 3
    let w8 : BitVec 128 := (a.data >>> (64 * word)).truncate 128 &&& BitVec.ofNat 128 (2 ^ 64 - 1)
    match a.kind with
    | .read w => if data then (if w then mk 0x10 0x8000 (lo line) [w8] else mk 0x10 0 (lo line) (lineFlits a.data))
        else mk 0x11 a.code.toNat (lo line) []
    | .loadWord => if data then mk 0x10 0x8000 (lo line) [w8] else mk 0x11 a.code.toNat (lo line) []
    | .readReserve _ => if data then mk 0x10 0x8000 (lo line) [w8] else mk 0x11 a.code.toNat (lo line) []
    | .prefetch _ _ =>
      if data && a.sense.isNone then mk 0x10 0 (lo line) (lineFlits a.data) else mk 0x11 a.code.toNat (lo line) []
    | .storeCond _ _ => mk 0x11 a.code.toNat (lo (a.data.toNat % 2)) []
    | .waitGe _ => mk 0x12 a.code.toNat (lo (match a.sense with
        | some b => 2 + b.toNat
        | none => 0)) []
    | .waitBar _ => mk 0x12 a.code.toNat (lo (match a.sense with
        | some b => 2 + b.toNat
        | none => 0)) []
    | .sketchRelease _ => s
    | .invalidate _ _ => mk 0x13 0 (lo line) []
    | _ => mk 0x11 a.code.toNat (lo line) []
  | .host tag =>
    if a.kind = .loadWord then
      (if a.code = 0 then s.ddata tag.toNat (localOf a.addr) (natBytes 8 (fld a.data.toNat (64 * wf a.addr 6 3 + 63) (64 * wf a.addr 6 3)))
       else s.ddataError tag.toNat (localOf a.addr) a.code.toNat)
    else if a.code = 0x1001 && a.kind.retried then { s with resend := s.resend ++ [a.request] }
    else if tag.toNat < 0x8000 then (if a.code = 0 then s else s.hostRefused a.code.toNat)
    else { s with answers := s.answers ++ [a] }
  | _ => s.answerHere a

/-- An accepted store or SIGC that is not answered is known to be visible at its home from beat `b` of its sender on: that of each core
that is named, or of the cluster for a write-back (R278, R281, R284). DEDUCED, log entry 28. -/
def State.noteVisible (s : State) (x : Src) (far : Bool) (b : Nat) : State :=
  let core (t : State) (c : Nat) : State := t.modCore c (fun k =>
    if far then { k with visibleFar := Nat.max k.visibleFar b } else { k with visible := Nat.max k.visible b })
  match x with
  | .core c => core s c
  | .storePath k [] => s.modCluster k (fun cl =>
      if far then { cl with visibleFar := Nat.max cl.visibleFar b } else { cl with visible := Nat.max cl.visible b })
  | .storePath _ who => who.foldl (fun t w => core t w.core) s
  | _ => s
/-- What a boot core's path has in place of the spur and rim parts (R282). DEDUCED, log entry 40. -/
def pathOf (c path : Nat) : Nat := if coreBoot c then path - 22 else path
/-- The path count of a requester. -/
def srcPath (x : Src) (path : Nat) : Nat :=
  match x with
  | .core c => pathOf c path
  | _ => path

/-- Every request that has left and has not been performed by a target of the module. -/
def State.openReqs (s : State) : List Req :=
  s.reqs ++ s.resend ++ s.epochHeld ++ s.plinths.flatMap (fun e => e.2.refused.map (·.req))
/-- The requests that another device has not answered. -/
def State.farReqs (s : State) : List Req := s.remote.map (·.2)

def isStore (r : Req) : Bool :=
  match r.kind with
  | .write _ _ _ => true
  | .word _ => true
  | _ => false

/-- The first element with a property, and the list without it. -/
def takeFirst {α : Type} (p : α → Bool) : List α → Option (α × List α)
  | [] => none
  | x :: xs =>
    if p x then some (x, xs)
    else match takeFirst p xs with
      | some (y, ys) => some (y, x :: ys)
      | none => none

end Sys2Proof.Machine
end

