-- ==== Sys2Proof/Machine/Home.lean ====
section
/-! DEFINITION. The home plinth: memory-side cache (R231, R232), request sorter (R233, R234), DRAM errors (R230),
reservations (R139, R140), write filter (R228, R229). The bytes of a home stand in `State.dram`; the memory-side cache
keeps the place and class of a line only, since no master can tell where its home holds it but by a path count. -/

namespace Sys2Proof.Machine

/-! ### Path counts (R281 to R283) -/

def pathHit : Nat := 6
def pathSketch : Nat := 12
def pathMsc : Nat := 180
def pathWrite : Nat := 150
def pathCairn : Nat := 132
def pathDevice : Nat := 14 + 56 + 84 + 12
def pathSummit : Nat := 14 + 28 + 84 + 40
/-- What a remote path adds to the class of the own module (R283). -/
def pathRemote : Nat := 1720

/-- The class of a DRAM access: behind a refresh, or of an open row or another one (R281). -/
def pathDram (refresh hit : Bool) : Nat := if refresh then 470 else if hit then 260 else 320

/-- Whether the paths of a requester are guarded (R279, R282). -/
def srcGuarded : Src → Bool
  | .core c => !coreBoot c
  | .cluster _ => true
  | .storePath _ _ => true
  | .sketch _ _ => true
  | _ => false

/-! ### The memory-side cache -/

/-- Set and tag of a local DRAM address (R231). -/
def mscSet (a : Nat) : Nat := stackAddr a / 128 % 16384
def mscTag (a : Nat) : Nat := stackAddr a / 128 / 16384
/-- The local line number of a set and tag of stack `p` (R197). -/
def mscLine (p set tag : Nat) : Nat :=
  let sa := (tag * 16384 + set) * 128
  (sa / 65536 * 2 ^ 21 + p * 65536 + sa % 65536) / 128

def mscDef (_ : Nat) : List MLine := []
def isPin (l : MLine) : Bool := l.cls == 3
/-- The class that a request of class `cls` gives: at most 12 pin lines of a set, else reuse-long (R232). -/
def pinLimit (others : List MLine) (cls : BitVec 2) : BitVec 2 :=
  if cls = 3 && 12 ≤ (others.filter isPin).length then 2 else cls

/-- A hit: the line, most recently used, its class raised (R231), by rank stream, reuse-short, reuse-long, pin: the model's choice; and
whether the pin limit was met. DESIGN CHOICE, log entry 84. -/
def mscHitIn (ls : List MLine) (tag : Nat) (cls : BitVec 2) (dirty : Bool) : Option (List MLine × Bool) :=
  match takeFirst (fun l => l.tag == tag) ls with
  | none => none
  | some (l, rest) =>
    let want := if l.cls.toNat < cls.toNat then pinLimit rest cls else l.cls
    let up := if l.cls.toNat < want.toNat then want else l.cls
    some ({ l with cls := up, dirty := l.dirty || dirty } :: rest, decide (l.cls.toNat < cls.toNat) && want != cls)

/-- The victim of a fill: the least recently used stream line, else reuse-short, else reuse-long (R231). -/
def mscVictim (ls : List MLine) : Option MLine :=
  let lru (c : BitVec 2) : Option MLine := (ls.filter (fun l => l.cls == c)).getLast?
  match lru 0 with
  | some l => some l
  | none => match lru 1 with
    | some l => some l
    | none => lru 2

/-- A fill: the new set, the victim, and whether the pin limit was met (R231, R232). DEDUCED, log entry 38. -/
def mscFillIn (ls : List MLine) (tag : Nat) (cls : BitVec 2) (dirty : Bool) : List MLine × Option MLine × Bool :=
  match (List.range 16).find? (fun w => !(ls.any (fun l => l.way == w))) with
  | some w =>
    let c := pinLimit ls cls
    ({ way := w, tag := tag, cls := c, dirty := dirty } :: ls, none, c != cls)
  | none =>
    match mscVictim ls with
    | some v =>
      let rest := ls.filter (fun l => l.way != v.way)
      let c := pinLimit rest cls
      ({ way := v.way, tag := tag, cls := c, dirty := dirty } :: rest, some v, c != cls)
    | none => (ls, none, false)

def State.pinOverflow (s : State) (p : Nat) (ovf : Bool) : State := if ovf then s.count 0x8004 (p + 1) else s

/-- A lookup that hits. -/
def State.mscHit (s : State) (a : Nat) (cls : BitVec 2) (dirty : Bool) : Option State :=
  let p := stackOf a
  let q := s.plinth p
  match mscHitIn (mget mscDef q.msc (mscSet a)) (mscTag a) cls dirty with
  | some (ls, ovf) => some ((s.setPlinth p { q with msc := mset mscDef q.msc (mscSet a) ls }).pinOverflow p ovf)
  | none => none

/-! ### The sorter -/

def sorterSlots : Nat := 8192
def bankCap : Nat := 1024
def Plinth.bankCount (q : Plinth) (b : Nat) : Nat := (q.slots.filter (fun x => x.bank == b)).length
/-- Whether a new slot for a line of bank `b` is refused (R234). -/
def Plinth.full (q : Plinth) (b : Nat) : Bool := sorterSlots ≤ q.slots.length || bankCap ≤ q.bankCount b
/-- Whether a sorter holds more slots than it or one of its banks may (R234). -/
def Plinth.overfull (q : Plinth) : Bool :=
  bankCap < q.slots.length && (sorterSlots < q.slots.length || q.slots.any (fun x => bankCap < q.bankCount x.bank))

/-- The open row of a bank. -/
def Plinth.openRow (q : Plinth) (b : Nat) : Option (Nat × Nat) := (q.openRows.find? (fun e => e.1 = b)).map (·.2)
/-- The class of an access to a line now (R281). -/
def Plinth.dramPath (q : Plinth) (b line : Nat) : Nat :=
  pathDram (q.refreshing.contains b) ((q.openRow b).elim false (fun e => e.1 = Config.rowOf line))
/-- Bank `b` has served an access to a line; `run` counts what has passed an older request (R233). -/
def Plinth.served (q : Plinth) (b line run : Nat) : Plinth :=
  { q with refreshing := q.refreshing.erase b
           openRows := q.openRows.filter (fun e => e.1 ≠ b) ++ [(b, Config.rowOf line, run)] }

def hasSlot (line : Nat) (write : Bool) (x : Slot) : Bool := x.line == line && x.write == write

/-- A write of a line takes a slot, or merges into the one that the line has (R233). -/
def Plinth.writeSlot (q : Plinth) (line : Nat) : Plinth :=
  if q.slots.any (hasSlot line true) then q
  else { q with slots := q.slots ++ [{ line := line, write := true, bank := Config.bankOf line, waits := [] }] }

/-- The class of a request's fill: a prefetch hint overrides its page's class (R226). DEDUCED, log entry 38. -/
def Req.fillCls (r : Req) : BitVec 2 :=
  match r.kind with
  | .prefetch _ h => if h = 0 then r.cls else h - 1
  | _ => r.cls

/-- Reads `rs` of class `cls` take a slot, or join the one that the line has (R233). -/
def Plinth.readsPlace (q : Plinth) (line : Nat) (cls : BitVec 2) (rs : List Req) : Plinth :=
  if q.slots.any (hasSlot line false) then
    { q with slots := q.slots.map (fun x =>
        if hasSlot line false x then
          { x with waits := x.waits ++ rs, cls := if x.cls.toNat < cls.toNat then cls else x.cls }
        else x) }
  else { q with slots := q.slots ++ [{ line := line, write := false, bank := Config.bankOf line, waits := rs, cls := cls }] }
/-- A read request takes a slot, or joins one; a read that is made at once does. -/
def Plinth.readSlot (q : Plinth) (line : Nat) (r : Req) : Plinth := q.readsPlace line r.fillCls [r]
def Plinth.readPlace (q : Plinth) (line : Nat) (cls : BitVec 2) : Plinth := q.readsPlace line cls []

/-- A line is placed in the memory-side cache; a dirty victim is written back through a slot. -/
def State.mscPlace (s : State) (a : Nat) (cls : BitVec 2) (dirty : Bool) : State :=
  let p := stackOf a
  let q := s.plinth p
  let (ls, victim, ovf) := mscFillIn (mget mscDef q.msc (mscSet a)) (mscTag a) cls dirty
  let q1 := { q with msc := mset mscDef q.msc (mscSet a) ls }
  let q2 := match victim with
    | some v => if v.dirty then q1.writeSlot (mscLine p (mscSet a) v.tag) else q1
    | none => q1
  (s.setPlinth p q2).pinOverflow p ovf

/-- A line is looked up, and placed where it misses. DEDUCED, log entry 38. -/
def State.mscUse (s : State) (a : Nat) (cls : BitVec 2) (dirty : Bool) : State :=
  match s.mscHit a cls dirty with
  | some t => t
  | none => s.mscPlace a cls dirty

/-! ### Reads -/

def lineOf (a : Nat) : Nat := a / 128
def State.lineData (s : State) (line : Nat) : BitVec 1024 := BitVec.ofNat 1024 (s.readMem (line * 128) 128)

/-- The line is read: an uncorrectable error poisons it and is counted, a corrected one is counted, once, since the model's choice is that
the read leaves it corrected (R230). DESIGN CHOICE, log entry 84. -/
def State.lineRead (s : State) (line : Nat) : Nat × State :=
  let p := stackOf (line * 128)
  if s.lineBad line then
    (codeData, { s.count 0x8003 (p + 1) with
      poison := if s.poison.contains line then s.poison else s.poison ++ [line], dramBad := s.dramBad.erase line })
  else if s.dramSoft.contains line then
    let s1 := s.count 0x8002 (p + 1)
    (0, { s1 with dramSoft := s1.dramSoft.erase line })
  else (0, s)

/-- The DEV and core fields of an identity word, which name a reservation's holder (R139). -/
def rsvKey (ident : Word) : Word := keep 0xFFF00000001FFFFF ident

/-- The reservations of a plinth without that of an identity: its LR or SC has arrived (R140). -/
def Plinth.unreserve (q : Plinth) (ident : Word) : Plinth := { q with rsv := q.rsv.filter (fun e => e.1 != rsvKey ident) }
def isReserve (r : Req) : Bool :=
  match r.kind with
  | .readReserve _ => true
  | .storeCond _ _ => true
  | _ => false
/-- An LR or SC that is answered with an error ends what its core has reserved there (R140). -/
def State.reserveLost (s : State) (r : Req) : State :=
  if isReserve r then s.modPlinth (stackOf (localOf r.addr)) (fun q => q.unreserve r.ident) else s

/-- A reservation is recorded (R139, R140). -/
def State.reserve (s : State) (p : Nat) (ident : Word) (line : Nat) : State :=
  s.modPlinth p (fun q =>
    let rs := (q.unreserve ident).rsv ++ [(rsvKey ident, line)]
    { q with rsv := if 16384 < rs.length then rs.drop 1 else rs })

/-- The path of a request's answer by its kind: LR and SC add 8 plinth beats (R282). DEDUCED, log entry 40. -/
def kindPath (r : Req) (path : Nat) : Nat :=
  match r.kind with
  | .readReserve _ => path + 8
  | .storeCond _ _ => path + 8
  | _ => path

/-- A read request is answered with its line (R230, R235). -/
def State.readServed (s : State) (r : Req) (path : Nat) : State :=
  let a := localOf r.addr
  let line := lineOf a
  let (code, s1) := s.lineRead line
  let s2 := match r.kind with
    | .readReserve _ => if code = 0 then s1.reserve (stackOf a) r.ident line else s1.reserveLost r
    | _ => s1
  match r.kind with
  | .prefetch true _ => s2
  | _ => s2.answer (answerOf r code (if code = 0 then s2.lineData line else 0) none (kindPath r (path + r.beat)) (srcGuarded r.src))

/-- Whether a slot's access can complete: a fill whose dirty victim needs a slot in a full bank waits. -/
def State.canComplete (s : State) (p : Nat) (x : Slot) : Bool :=
  if x.write then true
  else
    let a := x.line * 128
    let q := s.plinth p
    match mscFillIn (mget mscDef q.msc (mscSet a)) (mscTag a) 0 false with
    | (_, some v, _) => !v.dirty || !q.full (Config.bankOf (mscLine p (mscSet a) v.tag))
    | _ => true

/-- Whether a slot comes before every other one of its line. -/
def Plinth.firstOfLine (q : Plinth) (x : Slot) : Bool := (q.slots.find? (fun y => y.line = x.line)).elim true (fun y => y == x)

/-- The slot that is served next of those that `which` selects: the bank of the oldest access that can complete serves its open row first,
at most 16 times in succession while that one waits; with the count of such services (R233). -/
def State.nextSlotIn (s : State) (p : Nat) (which : Slot → Bool) : Option (Slot × Nat) :=
  let q := s.plinth p
  if s.saddlesOff then none
  else match q.slots.find? (fun x => which x && s.canComplete p x && q.firstOfLine x) with
  | none => none
  | some x =>
    match q.openRow x.bank with
    | none => some (x, 0)
    | some (row, run) =>
      if Config.rowOf x.line = row || 16 ≤ run then some (x, 0)
      else
        match q.slots.find? (fun y => y.bank = x.bank && Config.rowOf y.line = row && s.canComplete p y && q.firstOfLine y) with
        | some y => some (y, run + 1)
        | none => some (x, 0)
def State.nextSlot (s : State) (p : Nat) : Option (Slot × Nat) := s.nextSlotIn p (fun _ => true)

/-- The access of slot `x` completes: the slot is freed, and a read fills the memory-side cache and is answered with its class (R231,
R233, R281), later where the PHY has to start again (R276). The class is told. -/
def State.slotDone (s : State) (p : Nat) (x : Slot) (run : Nat) : Nat × State :=
  let q := s.plinth p
  let path := q.dramPath x.bank x.line + s.wakeCost (0x418 + p)
  let s1 := (s.wakes (0x418 + p)).setPlinth p { q.served x.bank x.line run with slots := q.slots.erase x }
  (path, if x.write then s1 else x.waits.foldl (fun t r => t.readServed r path) (s1.mscUse (x.line * 128) x.cls false))

/-- Bank `b` serves its slots up to the read of a line: the class of that read. Nothing where one of them has to wait. -/
def State.bankUntil (s : State) (p b line : Nat) : Nat → Option (Nat × State)
  | 0 => none
  | n + 1 =>
    match s.nextSlotIn p (fun x => x.bank == b) with
    | none => none
    | some (x, run) =>
      let (path, t) := s.slotDone p x run
      if hasSlot line false x then some (path, t) else t.bankUntil p b line n

/-- Whether a request goes to the DRAM of plinth `p` as a line access. -/
def atPlinth (p : Nat) (r : Req) : Bool :=
  (match r.kind with
   | .nmc _ => false
   | .invalidate _ _ => false
   | .sketchRelease _ => false
   | .signal _ => false
   | .decrement _ => false
   | .waitGe _ => false
   | .waitBar _ => false
   | .cancel => false
   | _ => true) &&
  (match regionOf (localOf r.addr) with
   | .dram => stackOf (localOf r.addr) = p
   | _ => false)

/-- Whether a request to a line that has arrived at its plinth has not been performed (R233). -/
def State.lineBusy (s : State) (line : Nat) : Bool :=
  let p := stackOf (line * 128)
  (s.plinth p).refused.any (fun t => lineOf (localOf t.req.addr) = line)
  || s.reqs.any (fun r => r.acks.isSome && atPlinth p r && lineOf (localOf r.addr) = line)

/-- A line is read at once, for a walker, an instruction fetch, an engine, the summit or the host link: error code, path class and
the state after. Where it misses it takes a slot, or joins the one that its line has, and its bank serves what comes before it; nothing
where that has to wait, an earlier request to the line does, or no slot is free (R210, R231, R233, R234). -/
def State.lineGet (s : State) (line : Nat) (cls : BitVec 2) : Option (Nat × Nat × State) :=
  let a := line * 128
  let p := stackOf a
  let q := s.plinth p
  let b := Config.bankOf line
  if s.saddlesOff || s.lineBusy line then none
  else
    match s.mscHit a cls false with
    | some t =>
      let (code, t1) := t.lineRead line
      some (code, pathMsc, t1)
    | none =>
      if q.full b && !(q.slots.any (hasSlot line false)) then none
      else
        match (s.setPlinth p (q.readPlace line cls)).bankUntil p b line (q.slots.length + 1) with
        | none => none
        | some (path, t) =>
          let (code, t1) := t.lineRead line
          some (code, path, t1)

/-- A read made at once by a master (R235). -/
def State.readNow (s : State) (a : Nat) (who : Who) (cls : BitVec 2) : Option (Nat × Nat × State) :=
  let err := s.targetError a who .read
  if err ≠ 0 then some (err, pathMsc, s) else s.lineGet (lineOf a) cls

/-- The lines of a read by a master one after another: the first error code, and the state; nothing where one has to wait. -/
def State.readLines (s : State) (who : Who) : List Nat → Option (Nat × State)
  | [] => some (0, s)
  | l :: ls =>
    if dramSize ≤ l * 128 then some (codeNoAddress, s)
    else match s.readNow (l * 128) who Config.untranslatedClass with
      | none => none
      | some (c1, _, s1) =>
        match State.readLines s1 who ls with
        | none => none
        | some (c2, s2) => some (if c1 ≠ 0 then c1 else c2, s2)

/-- Lines that the summit reads in order: nothing where it has to wait, false where one is answered with an error (R321, R361). -/
def State.sumRead (s : State) (ls : List Nat) : Option (Bool × State) :=
  match s.readLines .summit ls with
  | none => none
  | some (code, t) => if code = codeFenced then none else some (code = 0, t)

/-! ### Which request a plinth takes -/

def reqBank (r : Req) : Nat := Config.bankOf (lineOf (localOf r.addr))
/-- Whether request `r` waits behind the refused request `t`: the same line, or the same source and bank (R233, R234).
DEDUCED, log entry 38. -/
def heldBy (r : Req) (t : Ticket) : Bool :=
  lineOf (localOf r.addr) == lineOf (localOf t.req.addr) || (srcSaddle r == srcSaddle t.req && reqBank r == reqBank t.req)

/-- The first request for plinth `p` of the wanted kind that passes no earlier one to its line (R233); `seen` holds the
lines of the earlier requests. -/
def pickReq (p : Nat) (want : Req → Bool) (refused : List Ticket) : List Nat → List Req → Option (Req × List Req)
  | _, [] => none
  | seen, r :: rs =>
    let line := lineOf (localOf r.addr)
    if atPlinth p r && want r && !seen.contains line && !(refused.any (heldBy r)) then some (r, rs)
    else
      match pickReq p want refused (if atPlinth p r then line :: seen else seen) rs with
      | some (x, xs) => some (x, r :: xs)
      | none => none

/-- A request is refused: it holds a ticket and a retry count (R234). DESIGN CHOICE, log entry 77. -/
def retryCount (ahead : Nat) : Nat := Nat.min 65535 (64 * (ahead + 1))
def State.refuse (s : State) (p : Nat) (r : Req) : State :=
  s.modPlinth p (fun q =>
    let ahead := (q.refused.filter (fun t => reqBank t.req == reqBank r)).length
    { q with refused := q.refused ++ [{ no := q.ticket, req := r, retry := retryCount ahead }], ticket := q.ticket + 1 })

/-- A read request at its home: an error, a hit, or a slot; refused where the bank is full. -/
def State.homeRead (s : State) (p : Nat) (r : Req) : State :=
  let a := localOf r.addr
  let err := s.targetError a (r.who s.dev) .read
  if err ≠ 0 then
    if r.kind.answered then (s.reserveLost r).answer (answerOf r err 0 none (kindPath r (pathMsc + r.beat)) (srcGuarded r.src)) else s
  else
    match s.mscHit a r.fillCls false with
    | some t => t.readServed r pathMsc
    | none =>
      let q := s.plinth p
      if q.full (reqBank r) && !(q.slots.any (hasSlot (lineOf a) false)) then s.refuse p r
      else s.setPlinth p (q.readSlot (lineOf a) r)

def isRead (r : Req) : Bool :=
  match r.kind with
  | .read _ => true
  | .loadWord => true
  | .readReserve _ => true
  | _ => false
def isPrefetch (r : Req) : Bool :=
  match r.kind with
  | .prefetch _ _ => true
  | _ => false
def isWrite (r : Req) : Bool :=
  (match r.kind with
   | .write _ _ _ => true
   | .storeCond _ _ => true
   | .word _ => true
   | _ => false) && (r.acks = none || r.acks = some 0)

/-- The requests that a plinth or a cairn unit can take now: none while they are off (R383). -/
def State.arrived (s : State) : List Req := if s.saddlesOff then [] else s.reqs

def plinthDomain (p : Nat) : Nat := 0x438 + p
/-- A request that waits is taken by a plinth, whose generator it starts again where that is stopped; `rest` are the others (R276). -/
def State.takenAt (s : State) (p : Nat) (r : Req) (rest : List Req) : Req × State :=
  ({ r with beat := r.beat + s.wakeCost (plinthDomain p) }, { s with reqs := rest }.wakes (plinthDomain p))

/-- PLINTH_READ: the plinth takes the first read request that passes no other (R231, R233). -/
def execPlinthRead (p : PlinthId) (s : State) : Out :=
  match pickReq p isRead (s.plinth p).refused [] s.arrived with
  | none => .next s
  | some (r, rest) =>
    let (r1, s1) := s.takenAt p r rest
    .next (s1.homeRead p r1)

/-- The holder cluster of a prefetch read, as a filter entry records it (R228, R349). -/
def holderOf (s : State) (r : Req) : BitVec 12 × BitVec 16 :=
  match r.src with
  | .sketch k _ => (BitVec.ofNat 12 s.dev, BitVec.ofNat 16 k)
  | .remote _ d tag => (d, tag)
  | _ => (BitVec.ofNat 12 s.dev, 0)

/-- The entries of a write filter (R229). -/
def filterCap : Nat := 131072

/-- Whether a request is the release of a line by a holder (R229). -/
def State.releases (s : State) (line : Nat) (h : BitVec 12 × BitVec 16) (r : Req) : Bool :=
  match r.kind with
  | .sketchRelease _ => lineOf (localOf r.addr) = line && holderOf s r = h
  | _ => false

/-- PREFETCH_READ: a filter entry is made before the data leaves, one for each prefetch read, or the read is answered as dropped (R228,
R229). A holder's earlier release of the line comes before its next prefetch of it. DEDUCED, log entry 39. -/
def execPrefetchRead (p : PlinthId) (s : State) : Out :=
  let early (r : Req) : Bool := s.reqs.any (fun x => x.id < r.id && s.releases (lineOf (localOf r.addr)) (holderOf s r) x)
  match pickReq p (fun r => isPrefetch r && !early r) (s.plinth p).refused [] s.arrived with
  | none => .next s
  | some (r0, rest) =>
    let (r, s1) := s.takenAt p r0 rest
    let q := s1.plinth p
    let line := lineOf (localOf r.addr)
    let err := s1.targetError (localOf r.addr) (r.who s.dev) .read
    match r.kind with
    | .prefetch true _ => .next (s1.homeRead p r)
    | _ =>
      if err ≠ 0 then .next (s1.homeRead p r)
      else if filterCap ≤ q.filter.length then
        .next (s1.answer (answerOf r 0 0 (some true) (pathMsc + r.beat) (srcGuarded r.src)))
      else
        let (d, k) := holderOf s r
        let e := (line, d, k)
        .next ((s1.setPlinth p { q with filter := q.filter ++ [e] }).homeRead p r)

/-! ### Writes -/

/-- The holders that the filter records for a line (R228). -/
def Plinth.holders (q : Plinth) (line : Nat) : List (BitVec 12 × BitVec 16) :=
  ((q.filter.filter (fun e => e.1 == line)).map (·.2)).eraseDups

/-- An invalidation leaves for one holder: a request to a cluster of the module, or for another device (R228, R349). DEDUCED, log
entry 39. -/
def State.sendInv (s : State) (p line : Nat) (h : BitVec 12 × BitVec 16) : State :=
  let (r, s1) := s.request (.engine p) (.invalidate p line) (w64 (h.1.toNat * 2 ^ 52 + line * 128)) (w64 h.2.toNat) 0 0
  if h.1.toNat = s.dev then { s1 with reqs := s1.reqs ++ [r] } else s1.send r

/-- Whether a holder can be reached, so that its acknowledgement will come; a fenced or lost path acknowledges at once
(R309). DEDUCED, log entry 39. -/
def State.holderThere (s : State) (p : Nat) (h : BitVec 12 × BitVec 16) : Bool :=
  if h.1.toNat = s.dev then !s.clusterFenced h.2.toNat else (s.wayOut (saddleOfStack p) h.1.toNat).isSome

/-- What the invalidations add to a write's path, in beats and, for the farthest holder, in symbol times (R282). DEDUCED, log entry 40. -/
def State.holderPath (s : State) (p : Nat) (hs : List (BitVec 12 × BitVec 16)) : Nat × Nat :=
  let far := hs.filter (fun h => h.1.toNat != s.dev)
  let links (d : Nat) : Nat := s.crossing (saddleOfStack p) d (1 + Config.hopsTo d % 31)
  if hs.isEmpty then (0, 0) else if far.isEmpty then (124, 0) else (1846, (far.map (fun h => links h.1.toNat)).foldl Nat.max 0)

/-- The reads of a line that wait in its slot are served with the bytes that stand before a write (R233). -/
def State.readsFirst (s : State) (line : Nat) : State :=
  let p := stackOf (line * 128)
  let q := s.plinth p
  match q.slots.find? (hasSlot line false) with
  | none => s
  | some x =>
    let s1 := s.setPlinth p { q with slots := q.slots.map (fun y => if hasSlot line false y then { y with waits := [] } else y) }
    x.waits.foldl (fun t r => t.readServed r (q.dramPath x.bank line)) s1

/-- A write becomes visible at its home: bytes, reservations, poison, residence (R139, R228, R230, R231). -/
def State.writeVisible (s0 : State) (a : Nat) (mask : BitVec 128) (data : BitVec 1024) (cls : BitVec 2) : State :=
  let line := lineOf a
  let s := s0.readsFirst line
  let s1 := s.writeMasked (line * 128) mask.toNat data.toNat 128
  let s2 := s1.modPlinth (stackOf a) (fun q => { q with rsv := q.rsv.filter (fun e => e.2 != line) })
  let s3 := if mask = BitVec.allOnes 128 then
      { s2 with poison := s2.poison.erase line, dramBad := s2.dramBad.erase line, dramSoft := s2.dramSoft.erase line }
    else s2
  match s3.mscHit a cls true with
  | some t => t
  | none => (s3.modPlinth (stackOf a) (fun q => q.writeSlot line)).mscPlace a cls true

/-- The bytes that a request writes: mask and data within its line. -/
def Req.bytes (r : Req) : BitVec 128 × BitVec 1024 :=
  let off := localOf r.addr % 128
  match r.kind with
  | .write m d _ => (m, d)
  | .word v => (BitVec.ofNat 128 (byteMask off 8), BitVec.ofNat 1024 (v.toNat * 2 ^ (8 * off)))
  | .storeCond dbl v =>
    (BitVec.ofNat 128 (byteMask off (if dbl then 8 else 4)), BitVec.ofNat 1024 (v.toNat * 2 ^ (8 * off)))
  | _ => (0, 0)

/-- Whether an answer to an accepted write goes to anybody: stores of a cluster are answered only with an error. -/
def Src.acked : Src → Bool
  | .storePath _ _ => false
  | .core _ => false
  | _ => true

/-- The class that a read of a line reports now (R281, R282). -/
def State.readClass (s : State) (line : Nat) : Nat :=
  let q := s.plinth (stackOf (line * 128))
  if (s.mscHit (line * 128) 0 false).isSome then pathMsc else q.dramPath (Config.bankOf line) line

/-- A write request at its home, in its two phases: invalidations first, then visibility (R228); refused where its slots would
exceed a cap (R234). DEDUCED, log entry 38. -/
def State.homeWrite (s : State) (p : Nat) (r : Req) : State :=
  let a := localOf r.addr
  let line := lineOf a
  let g := srcGuarded r.src
  let err := s.targetError a (r.who s.dev) .write
  let q := s.plinth p
  let hs := (q.holders line).filter (s.holderThere p)
  let isSc := match r.kind with
    | .storeCond _ _ => true
    | _ => false
  let path := pathWrite + r.beat
  let (add, links) := s.holderPath p hs
  let scPath := kindPath r (s.readClass line + r.beat)
  let (m, d) := r.bytes
  let s1 := s.writeVisible a m d r.cls
  if err ≠ 0 then (s.reserveLost r).answer (answerOf r err 0 none (kindPath r path) g)
  else if isSc && !(q.rsv.contains (rsvKey r.ident, line)) then
    (s.reserveLost r).answer (answerOf r 0 1 none scPath g)
  else if (s1.plinth p).overfull then s.refuse p r
  else if !hs.isEmpty then
    let s2 := hs.foldl (fun t h => t.sendInv p line h) s
    { s2 with reqs := { r with acks := some hs.length, beat := r.beat + add, symbols := r.symbols + links } :: s2.reqs }
  else if isSc then s1.answer (answerOf r 0 0 none scPath g)
  else if r.src.acked then s1.answer (answerOf r 0 0 none path g)
  else s1.noteVisible r.src false (r.t + srcPath r.src path)

/-- PLINTH_WRITE: the plinth takes the first write that passes no other; it becomes visible once every holder has
acknowledged (R228). -/
def execPlinthWrite (p : PlinthId) (s : State) : Out :=
  match pickReq p isWrite (s.plinth p).refused [] s.arrived with
  | none => .next s
  | some (r, rest) =>
    let (r1, s1) := s.takenAt p r rest
    .next (s1.homeWrite p r1)

/-- An acknowledgement for a line reaches the write that waits for it: a request, or the plinth's command (R228).
DEDUCED, log entry 39. -/
def ackReq (line : Nat) (p : Nat) : List Req → Option (List Req)
  | [] => none
  | r :: rs =>
    match r.acks with
    | some (n + 1) =>
      if atPlinth p r && lineOf (localOf r.addr) == line then some ({ r with acks := some n } :: rs)
      else (ackReq line p rs).map (r :: ·)
    | _ => (ackReq line p rs).map (r :: ·)

/-- SKETCH_RELEASE: a release reaches its plinth and the filter entry is removed (R229). -/
def execSketchRelease (p : PlinthId) (s : State) : Out :=
  match takeFirst (fun r => match r.kind with
      | .sketchRelease _ => s.isLocal r.addr && stackOf (localOf r.addr) = p.val
      | _ => false) s.arrived with
  | none => .next s
  | some (r, rest) =>
    let (d, k) := holderOf s r
    let line := lineOf (localOf r.addr)
    .next ((s.takenAt p r rest).2.modPlinth p (fun q =>
      { q with filter := q.filter.erase (line, d, k) }))

/-! ### DRAM accesses, refresh and retries -/

/-- DRAM_ACCESS_DONE: the access of the slot that is served next completes. DEDUCED, log entry 38. -/
def execDramAccessDone (p : PlinthId) (s : State) : Out :=
  match s.nextSlot p with
  | none => .next s
  | some (x, run) => .next (s.slotDone p x run).2

/-- REFRESH: a refresh holds a bank; the next access that completes there is one behind a refresh (R233, R281). -/
def execRefresh (p : PlinthId) (bank : Nat) (s : State) : Out :=
  .next (s.modPlinth p (fun q =>
    { q with refreshing := if q.refreshing.contains bank then q.refreshing else q.refreshing ++ [bank] }))

/-- Whether a ticket is the oldest of its bank. -/
def oldestOfBank (ts : List Ticket) (t : Ticket) : Bool :=
  ts.all (fun u => reqBank u.req != reqBank t.req || t.no ≤ u.no)

/-- New retry counts of the tickets that stay refused (R234). -/
def renew (ts : List Ticket) : List Ticket :=
  ts.map (fun t => { t with retry := retryCount (ts.filter (fun u => reqBank u.req == reqBank t.req && u.no < t.no)).length })

/-- A refused request is presented again; nothing where it is refused once more. -/
def State.present (s : State) (p : Nat) (t : Ticket) : Option State :=
  let q := s.plinth p
  let s1 := s.setPlinth p { q with refused := renew (q.refused.erase t) }
  let s2 := if isWrite t.req then s1.homeWrite p t.req else s1.homeRead p t.req
  if (s2.plinth p).ticket = q.ticket then some s2 else none

/-- The command queue of a plinth admits its oldest refused command if it has room; the others take a new retry count (R242). -/
def Plinth.nmcRetry (q : Plinth) : Plinth :=
  let again (ts : List Ticket) : List Ticket := ts.zipIdx.map (fun (t, i) => { t with retry := retryCount i })
  match q.nmcWait with
  | [] => q
  | t :: ts =>
    if q.nmcQ.length < 256 then { q with nmcQ := q.nmcQ ++ [t.req], nmcWait := again ts } else { q with nmcWait := again (t :: ts) }

/-- SORTER_RETRY: the oldest ticket of a bank with a free slot is admitted; the others are refused again (R234). A near-memory
command that was refused is presented with them (R242). -/
def execSorterRetry (p : PlinthId) (s : State) : Out :=
  let q := s.plinth p
  let go := q.refused.findSome? (fun t => if oldestOfBank q.refused t && !q.full (reqBank t.req) then s.present p t else none)
  .next (if s.saddlesOff then s
    else (match go with
      | some t => t
      | none => s.setPlinth p { q with refused := renew q.refused }).modPlinth p (·.nmcRetry))

end Sys2Proof.Machine
end

