-- ==== Sys2Proof/Machine/Cairns.lean ====
section
/-! DEFINITION. Cairns (R244 to R270): counters, barriers, flags and misuse, waiter lists and the cairn unit of each
saddle with its one outlet. -/

namespace Sys2Proof.Machine

/-! ### Identity and flags -/

def cairnMax : Nat := 2 ^ 24 - 1
/-- The operand of a SIGNAL (R254): a register value or a stored value. -/
def cairnN (v : Word) : Nat := if wf v 63 24 ≠ 0 then 0xFFFFFF else wf v 23 0

def flagOVF : BitVec 4 := 1
def flagUNF : BitVec 4 := 2
def flagMISUSE : BitVec 4 := 4
def flagCFGREF : BitVec 4 := 8

/-- A request sets a FLAGS bit; the first one is remembered in FLAGID (R250, R252). -/
def Cairn.flag (q : Cairn) (f : BitVec 4) (ident : Word) : Cairn :=
  { q with flagid := if q.flags = 0 then ident else q.flagid, flags := q.flags ||| f }

/-- A cairn changes and its event counter with it (R260). -/
def State.cairnFlag (s : State) (q : Nat) (f : BitVec 4) (ident : Word) : State :=
  (s.setCairn q ((s.cairn q).flag f ident)).count 0x8005 (saddleOfCairn q + 1)

/-! ### The outlet -/

/-- An answer queues at the saddle's outlet (R258). -/
def State.outlet (s : State) (n : Nat) (a : Ans) : State := s.modSaddle n (fun d => { d with outlet := d.outlet ++ [a] })

/-- The path of a cairn request at saddle `n`; of a command's completion signal its own parts (R281, R282). -/
def cairnPath (n : Nat) : Src → Nat
  | .engine p => 8 + 24 + (if saddleOfStack p = n then 0 else 24) + 6
  | _ => pathCairn
/-- The answer to a cairn request. -/
def State.cairnAnswer (s : State) (n : Nat) (r : Req) (code : Nat) (sense : Option Bool) : State :=
  s.outlet n (answerOf r code 0 sense (cairnPath n r.src) (srcGuarded r.src))

/-- Listed waiters that `done` selects are answered in list order and removed (R255, R257). -/
def State.releaseWaiters (s : State) (q : Nat) (done : Waiter → Bool) : State :=
  let k := s.cairn q
  let s1 := s.setCairn q { k with waiters := k.waiters.filter (fun w => !done w) }
  (k.waiters.filter done).foldl (fun t w => t.cairnAnswer (saddleOfCairn q) w.req 0 none) s1

/-! ### Operations -/

def Cairn.isBarrier (k : Cairn) : Bool := k.mode = 2
def Cairn.isCounter (k : Cairn) : Bool := k.mode = 1
def Cairn.p (k : Cairn) : Nat := k.pm1.toNat + 1

/-- SIGNAL (R254, R255, R256, R262). -/
def State.cairnSignal (s : State) (q n : Nat) (r : Req) : State :=
  let k := s.cairn q
  let sd := saddleOfCairn q
  if k.isBarrier then (s.cairnFlag q flagMISUSE r.ident).cairnAnswer sd r 0 none
  else
    let v := Nat.min (k.value + n) cairnMax
    let s1 := s.setCairn q { k with value := v, last := r.ident }
    let s2 := if cairnMax < k.value + n then s1.cairnFlag q flagOVF r.ident else s1
    (s2.cairnAnswer sd r 0 none).releaseWaiters q (fun w => !w.barrier && w.n ≤ v)

/-- DECREMENT (R254, R262). -/
def State.cairnDecrement (s : State) (q n : Nat) (r : Req) : State :=
  let k := s.cairn q
  let sd := saddleOfCairn q
  if k.isBarrier then (s.cairnFlag q flagMISUSE r.ident).cairnAnswer sd r 0 none
  else
    let s1 := s.setCairn q { k with value := k.value - n, last := r.ident }
    (if k.value < n then s1.cairnFlag q flagUNF r.ident else s1).cairnAnswer sd r 0 none

/-- The listed waiters of requesters on other modules, across a saddle's cairns (R263). -/
def remoteSrc (x : Src) : Bool :=
  match x with
  | .remote _ _ _ => true
  | _ => false
def State.remoteWaiters (s : State) (n : Nat) : Nat :=
  ((s.cairns.filter (fun e => saddleOfCairn e.1 = n)).map (fun e =>
    (e.2.waiters.filter (fun w => remoteSrc w.req.src)).length)).foldl (· + ·) 0
def remoteShare : Nat := 1048568
/-- Whether a remote wait finds the share full, or tickets that stand before it (R234, R263). -/
def State.shareFull (s : State) (n : Nat) : Bool := remoteShare ≤ s.remoteWaiters n || !(s.saddle n).refused.isEmpty

/-- A waiter is listed, or a remote one is refused with a ticket (R263). -/
def State.list (s : State) (q : Nat) (w : Waiter) : State :=
  let sd := saddleOfCairn q
  if remoteSrc w.req.src && s.shareFull sd then
    s.modSaddle sd (fun d =>
      { d with refused := d.refused ++ [{ no := d.ticket, req := w.req, retry := retryCount d.refused.length }]
               ticket := d.ticket + 1 })
  else
    let k := s.cairn q
    s.setCairn q { k with waiters := k.waiters ++ [w] }

/-- WAITC.GE (R254, R262). -/
def State.cairnWait (s : State) (q n : Nat) (r : Req) : State :=
  let k := s.cairn q
  let sd := saddleOfCairn q
  if !k.isCounter then (s.cairnFlag q flagMISUSE r.ident).cairnAnswer sd r 0 none
  else if n ≤ k.value then s.cairnAnswer sd r 0 none
  else s.list q { req := r, n := n, barrier := false, sense := false }

/-- The end of an episode: SENSE inverts, VALUE is 0, and the waiters of the old sense are answered (R257). -/
def State.endEpisode (s : State) (q : Nat) (r : Option Req) : State :=
  let k := s.cairn q
  let s1 := s.setCairn q { k with sense := !k.sense, value := 0 }
  let s2 := match r with
    | some r => s1.cairnAnswer (saddleOfCairn q) r 0 none
    | none => s1
  s2.releaseWaiters q (fun w => w.barrier && w.sense != !k.sense)

/-- WAITC.BAR: an arrival, or a pure wait with the sense it carries (R257, R262, R269). An arrival that finds the remote
share full is refused before it counts. -/
def State.cairnBarrier (s : State) (q : Nat) (sense : Option Bool) (r : Req) : State :=
  let k := s.cairn q
  let sd := saddleOfCairn q
  if !k.isBarrier then (s.cairnFlag q flagMISUSE r.ident).cairnAnswer sd r 0 none
  else match sense with
    | some v =>
      if k.sense != v then s.cairnAnswer sd r 0 none else s.list q { req := r, n := 0, barrier := true, sense := v }
    | none =>
      if k.p ≤ k.value + 1 then s.endEpisode q (some r)
      else
        let w : Waiter := { req := r, n := 0, barrier := true, sense := k.sense }
        if remoteSrc r.src && s.shareFull sd then s.list q w
        else (s.setCairn q { k with value := k.value + 1 }).list q w

/-- A ST.D to CONFIG (R249, R251). -/
def State.cairnConfig (s : State) (q : Nat) (v : Word) (r : Req) : State :=
  let k := s.cairn q
  let mode := wf v 63 62
  let s1 :=
    if mode = 3 then s
    else if !k.waiters.isEmpty then s.cairnFlag q flagCFGREF r.ident
    else s.setCairn q { k with
      mode := BitVec.ofNat 2 mode
      value := if mode = 1 then wf v 23 0 else 0
      sense := false
      pm1 := if mode = 2 then BitVec.ofNat 20 (wf v 51 32) else 0 }
  s1.cairnAnswer (saddleOfCairn q) r 0 none

/-- A ST.D to FLAGS (R250). -/
def State.cairnFlags (s : State) (q : Nat) (v : Word) (r : Req) : State :=
  let k := s.cairn q
  (s.setCairn q { k with flags := k.flags &&& ~~~(v.truncate 4) }).cairnAnswer (saddleOfCairn q) r 0 none

/-- A ST.D to PSET: where it ends the episode, the waiters are answered before it (R259). -/
def State.cairnPset (s : State) (q : Nat) (v : Word) (r : Req) : State :=
  let k := s.cairn q
  let k1 := { k with pm1 := v.truncate 20 }
  let s1 := s.setCairn q k1
  (if k.isBarrier && k1.p ≤ k1.value then s1.endEpisode q none else s1).cairnAnswer (saddleOfCairn q) r 0 none

/-- A cancel removes the listed waiter of its identity, or its ticket, and is acknowledged; a counted arrival stays counted (R234, R263,
R269). DEDUCED, log entry 42. -/
def State.cairnCancel (s : State) (q : Nat) (r : Req) : State :=
  let k := s.cairn q
  let n := saddleOfCairn q
  ((s.setCairn q { k with waiters := k.waiters.filter (fun w => w.req.ident != r.ident) }).modSaddle n (fun d =>
    { d with refused := d.refused.filter (fun t => t.req.ident != r.ident) })).cairnAnswer n r 0 none

/-! ### Reads and views -/

/-- R270: whether reads of a saddle's cairns return values only. -/
def State.valueOnly (s : State) (n : Nat) : Bool := s.power.startStep < 8 || s.bist.run || s.saddleFenced n

/-- The word at an offset of cairn `q` (R246, R248 to R253, R270). -/
def State.cairnWord (s : State) (q off : Nat) : Word :=
  let k := s.cairn q
  if s.valueOnly (saddleOfCairn q) then (if off = 0 then w64 k.value else 0)
  else
    match off with
    | 0x00 => w64 (k.mode.toNat * 2 ^ 62 + 2 ^ 61 + k.sense.toNat * 2 ^ 60 + k.pm1.toNat * 2 ^ 32 + k.value)
    | 0x08 => w64 (k.mode.toNat * 2 ^ 62 + k.pm1.toNat * 2 ^ 32)
    | 0x10 => k.flags.zeroExtend 64
    | 0x28 => k.last
    | 0x30 => w64 k.waiters.length
    | 0x38 => k.flagid
    | 0x40 => (k.waiters[0]?).elim 0 (·.req.ident)
    | 0x48 => (k.waiters[1]?).elim 0 (·.req.ident)
    | 0x50 => (k.waiters[2]?).elim 0 (·.req.ident)
    | 0x58 => (k.waiters[3]?).elim 0 (·.req.ident)
    | _ => 0

/-! ### The cairn unit -/

/-- The input of R266 at which a request reaches saddle `n`: what enters the module at another saddle comes over the package network (R12).
DEDUCED, log entry 41. -/
def inputRank (n : Nat) (r : Req) : Nat :=
  let ridge (x : Nat) : Nat := if saddleOfRidge x = n then x % 2 else 2 + saddleOfRidge x
  let host := if n = 7 then 55 else 2 + 7
  let summit := if n = 6 || n = 7 then 60 else 2 + summitSaddle
  match r.src with
  | .core c => if coreBoot c then summit else ridge (ridgeOf c)
  | .cluster k => ridge (k / 4096)
  | .storePath k _ => ridge (k / 4096)
  | .sketch k _ => ridge (k / 4096)
  | .engine p => if saddleOfStack p = n then 10 + p else 2 + saddleOfStack p
  | .remote p _ _ => if p = n then 50 else 2 + p
  | .host _ => host
  | .link => host
  | .summit => summit

/-- Whether a request is for the cairn unit of saddle `n`, and the cairn and offset that it names. -/
def cairnOf (r : Req) : Option (Nat × Nat) :=
  match regionOf (localOf r.addr) with
  | .cairn q off => some (q, off)
  | _ => none
def forUnit (n : Nat) (r : Req) : Bool :=
  match cairnOf r with
  | some (q, _) => saddleOfCairn q = n
  | none => false

/-- The request that the unit performs next: by the beat in which it arrived, then by its input, then in order (R266).
DEDUCED, log entry 41. -/
def nextAt (n : Nat) : List Req → Option Req
  | [] => none
  | r :: rs =>
    if forUnit n r then
      match nextAt n rs with
      | some x => if x.beat < r.beat || (x.beat = r.beat && inputRank n x < inputRank n r) then some x else some r
      | none => some r
    else nextAt n rs

/-- What the unit does for a request at a cairn (R246, R254 to R259). A SIGC or WAITC that does not address the cairn's first byte is
answered No address (R245); stores to the other offsets are ignored. -/
def State.cairnDo (s : State) (q off : Nat) (r : Req) : State :=
  let n := saddleOfCairn q
  let atState (t : State) : State := if off = 0 then t else s.cairnAnswer n r codeNoAddress none
  match r.kind with
  | .signal v => atState (s.cairnSignal q v r)
  | .decrement v => atState (s.cairnDecrement q v r)
  | .waitGe v => atState (s.cairnWait q v r)
  | .waitBar sense => atState (s.cairnBarrier q sense r)
  | .word v =>
    if off = 0x08 then s.cairnConfig q v r
    else if off = 0x10 then s.cairnFlags q v r
    else if off = 0x18 then s.cairnSignal q (cairnN v) r
    else if off = 0x20 then s.cairnPset q v r
    else s.cairnAnswer n r 0 none
  | _ => s.cairnAnswer n r codeNoAddress none

/-- The access right that a cairn request needs (R364). -/
def cairnRight (r : Req) : Right :=
  match r.kind with
  | .waitGe _ => .read
  | .waitBar _ => .read
  | .loadWord => .read
  | _ => .write

/-- The unit performs one request, in one beat (R266). A request that the saddle refuses is answered with the error (R235, R247); a
cancel is never refused, and a load has its view even while the saddle is fenced (R269, R270). DEDUCED, log entry 41. -/
def State.unitOne (s : State) (n : Nat) (r : Req) : State :=
  match cairnOf r with
  | none => s
  | some (q, off) =>
    let s1 := ({ s with reqs := s.reqs.filter (fun x => x.id != r.id) }.wakes (0x410 + n)).modSaddle n (fun d =>
      { d with beat := d.beat + 1 })
    let a := localOf r.addr
    match r.kind with
    | .cancel => s1.cairnCancel q r
    | .loadWord =>
      let err := s1.tableError a (r.who s.dev) .read
      s1.outlet n (answerOf r err (if err = 0 then BitVec.ofNat 1024 ((s1.cairnWord q off).toNat * 2 ^ (8 * (a % 128))) else 0) none
        (cairnPath n r.src) (srcGuarded r.src))
    | _ =>
      let err := s1.targetError a (r.who s.dev) (cairnRight r)
      if err ≠ 0 then s1.cairnAnswer n r err none else s1.cairnDo q off r

def isLoad (r : Req) : Bool :=
  match r.kind with
  | .loadWord => true
  | _ => false
/-- The loads that come next at the unit are performed: they have no command of their own. DEDUCED, log entry 41. -/
def State.unitLoads (s : State) (n : Nat) : Nat → State
  | 0 => s
  | k + 1 =>
    match nextAt n s.reqs with
    | some r => if isLoad r then (s.unitOne n r).unitLoads n k else s
    | none => s

/-- The unit performs its next request, if it is of the wanted kind (R266). DEDUCED, log entry 41. -/
def State.unitPerform (s : State) (n : Nat) (want : RKind → Nat → Bool) : State :=
  let s1 := s.unitLoads n s.arrived.length
  match nextAt n s1.arrived with
  | none => s1
  | some r =>
    match cairnOf r with
    | none => s1
    | some (_, off) => if want r.kind off then s1.unitOne n r else s1

/-- CAIRN_SIGNAL, by SIGC or by a store to ADD. The stores that a cairn ignores have no command of their own and are accepted
here too (R246). DEDUCED, log entry 41. -/
def execCairnSignal (n : SaddleId) (s : State) : Out :=
  .next (s.unitPerform n (fun k off => match k with
    | .signal _ => true
    | .word _ => !([0x08, 0x10, 0x20].contains off)
    | _ => false))

/-- CAIRN_DECREMENT. -/
def execCairnDecrement (n : SaddleId) (s : State) : Out :=
  .next (s.unitPerform n (fun k _ => match k with
    | .decrement _ => true
    | _ => false))

/-- CAIRN_WAIT. -/
def execCairnWait (n : SaddleId) (s : State) : Out :=
  .next (s.unitPerform n (fun k _ => match k with
    | .waitGe _ => true
    | _ => false))

/-- CAIRN_BARRIER_ARRIVAL. -/
def execCairnBarrierArrival (n : SaddleId) (s : State) : Out :=
  .next (s.unitPerform n (fun k _ => match k with
    | .waitBar _ => true
    | _ => false))

/-- Whether a request is a ST.D at an offset of a cairn. -/
def storeAt (o : Nat) (k : RKind) (off : Nat) : Bool :=
  match k with
  | .word _ => off = o
  | _ => false

/-- CAIRN_CONFIG_WRITE. -/
def execCairnConfigWrite (n : SaddleId) (s : State) : Out := .next (s.unitPerform n (storeAt 0x08))
/-- CAIRN_FLAGS_WRITE. -/
def execCairnFlagsWrite (n : SaddleId) (s : State) : Out := .next (s.unitPerform n (storeAt 0x10))
/-- PSET. -/
def execPset (n : SaddleId) (s : State) : Out := .next (s.unitPerform n (storeAt 0x20))
/-- CAIRN_CANCEL (R269). -/
def execCairnCancel (n : SaddleId) (s : State) : Out :=
  .next (s.unitPerform n (fun k _ => match k with
    | .cancel => true
    | _ => false))

/-! ### The outlet's answers -/

/-- Whether an answer of the outlet tells its requester something: a core or a store path hears of an accepted SIGC or
store nothing. -/
def heard (a : Ans) : Bool :=
  a.code ≠ 0 || (match a.dst, a.kind with
    | .core _, .waitGe _ => true
    | .core _, .waitBar _ => true
    | .core _, .loadWord => true
    | .remote _ _ _, _ => true
    | .host _, _ => true
    | .link, .waitGe _ => true
    | _, _ => false)

/-- One answer leaves through the outlet, which takes a beat for each (R258, R284). -/
def State.outletSend (s : State) (n : Nat) : State :=
  let d := s.saddle n
  match d.outlet with
  | [] => s
  | a :: rest =>
    let b := Nat.max d.beat d.outAt
    let s1 := s.setSaddle n { d with outlet := rest, beat := b, outAt := b + 1 }
    if heard a then s1.answer a else s1.noteVisible a.dst false (a.t + srcPath a.dst a.path)

/-- CAIRN_ANSWER_SEND (R258). -/
def execCairnAnswerSend (n : SaddleId) (s : State) : Out := .next ((s.unitLoads n s.arrived.length).outletSend n)

/-! ### Requests that are seen through -/

/-- The requests that come before request `id` at the unit are performed. -/
def State.unitUntil (s : State) (n id : Nat) : Nat → State
  | 0 => s
  | k + 1 =>
    match nextAt n s.reqs with
    | some r => if r.id = id then s else (s.unitOne n r).unitUntil n id k
    | none => s
/-- The answers that stand before the one to request `id` leave, and that one is taken. -/
def State.outletUntil (s : State) (n id : Nat) : Nat → Option Ans × State
  | 0 => (none, s)
  | k + 1 =>
    match (s.saddle n).outlet with
    | [] => (none, s)
    | a :: rest =>
      if a.id = id then (some a, s.modSaddle n (fun d => { d with outlet := rest })) else (s.outletSend n).outletUntil n id k
/-- A request of the summit or of the link engine takes its place at the unit, and is performed and answered in its turn: what comes
before it is performed first (R266, R267). DEDUCED, log entry 41. -/
def State.cairnNow (s : State) (r : Req) : Option Ans × State :=
  let n := targetSaddle (localOf r.addr)
  let s1 : State := { s with reqs := s.reqs ++ [s.arriveAt r] }
  let s2 := s1.unitUntil n r.id s1.reqs.length
  let s3 := match s2.reqs.find? (fun x => x.id = r.id) with
    | some x => s2.unitOne n x
    | none => s2
  s3.outletUntil n r.id (s3.saddle n).outlet.length

/-- New retry counts of the refused requests, in ticket order (R234). -/
def recount (ts : List Ticket) : List Ticket := ts.zipIdx.map (fun (x, i) => { x with retry := retryCount i })

/-- WAITER_SHARE_RETRY: the oldest refused request is presented to the unit if the remote share has room; the others take a new retry
count (R234, R263). DEDUCED, log entry 41. -/
def execWaiterShareRetry (n : SaddleId) (s : State) : Out :=
  match (s.saddle n).refused with
  | [] => .next s
  | t :: _ =>
    if s.saddlesOff then .next s
    else
    let s1 : State := { s with reqs := s.reqs ++ [s.arriveAt t.req] }
    let s2 := s1.unitUntil n t.req.id s1.reqs.length
    let rest := ((s2.saddle n).refused.filter (fun x => x.no ≠ t.no))
    if remoteShare ≤ s2.remoteWaiters n || rest.length = (s2.saddle n).refused.length then
      .next ({ s2 with reqs := s2.reqs.filter (fun x => x.id ≠ t.req.id) }.modSaddle n (fun d => { d with refused := recount d.refused }))
    else
      let s3 := (s2.modSaddle n (fun d => { d with refused := [] })).unitOne n (s.arriveAt t.req)
      .next (s3.modSaddle n (fun d => { d with refused := recount (d.refused ++ rest) }))

/-- The saddle is fenced: its listed waiters are answered Fenced, with their arrival sense, and the lists emptied; refused requests are
answered Fenced too (R309). -/
def State.fenceCairns (s0 : State) (n : Nat) : State :=
  let s := (s0.saddle n).refused.foldl (fun u t => u.cairnAnswer n t.req codeFenced none)
    (s0.modSaddle n (fun d => { d with refused := [] }))
  (s.cairns.filter (fun e => saddleOfCairn e.1 = n)).foldl (fun t e =>
    let t1 := t.setCairn e.1 { e.2 with waiters := [] }
    e.2.waiters.foldl (fun u w => u.cairnAnswer n w.req codeFenced (if w.barrier then some w.sense else none)) t1) s

/-- A member of the range has reset: its listed waiters are removed; their arrivals stay counted. -/
def State.forgetWaiters (s : State) (dev : Nat) : State :=
  let other (r : Req) : Bool := wf r.ident 63 52 != dev
  let s1 := s.cairns.foldl (fun t e => t.setCairn e.1 { e.2 with waiters := e.2.waiters.filter (fun w => other w.req) }) s
  { s1 with saddles := mupd saddleDef (fun _ d => { d with refused := d.refused.filter (fun t => other t.req) }) s1.saddles }

end Sys2Proof.Machine
end

