-- ==== Sys2Proof/Machine/Ring.lean ====
section
/-! DEFINITION. The link engine's wait at the ring cairn (R373, R374), and what a loss of bursts does to the descriptors
that the engine runs (R375, R377). -/

namespace Sys2Proof.Machine

/-- The identity word of the Shutik link (R252, R253). DEDUCED, log entry 78. -/
def State.linkIdent (s : State) (op : Nat) : Word := identWord s.dev 2 op false 0
/-- A word of a cairn of the own module (R196). -/
def cairnAddr (q off : Nat) : Nat := cairnBase + 256 * q + off
def State.ownAddr (s : State) (a : Nat) : Word := w64 (s.dev * 2 ^ 52 + a)
def State.ringCairn (s : State) : Nat := s.obj 0x4300 7
/-- DEDUCED, log entry 52. -/
def State.ringOn (s : State) : Bool := s.obj 0x4300 5 ≠ 0

/-- Whether something stands for the engine's wait: a request, an answer, a listed waiter. -/
def waitKind (k : RKind) : Bool :=
  match k with
  | .waitGe _ => true
  | _ => false
def linkWaits (x : Src) (k : RKind) : Bool := x = .link && waitKind k

/-- The engine lists its wait for a value of 1. -/
def State.linkWait (s : State) : State :=
  s.sendNew .link (.waitGe 1) (s.ownAddr (cairnAddr s.ringCairn 0)) (s.linkIdent 2) 0 0

/-- The engine cancels its wait, wherever it is. -/
def State.cancelLinkWait (s : State) : State :=
  { s with
    cairns := mupd cairnDef (fun _ q => { q with waiters := q.waiters.filter (fun w => !linkWaits w.req.src w.req.kind) }) s.cairns
    reqs := s.reqs.filter (fun r => !linkWaits r.src r.kind)
    answers := s.answers.filter (fun a => !linkWaits a.dst a.kind)
    saddles := mupd saddleDef (fun _ d =>
      { d with outlet := d.outlet.filter (fun a => !linkWaits a.dst a.kind) }) s.saddles }

/-- The engine configures the ring cairn, and takes descriptors from ring index 0 (R374): its wait is cancelled, CONFIG is
written with MODE 0b01 and INIT 0 as a request of the host-link master, then the writes `sets` of the ring's base and cairn are performed,
and the wait is listed. Where CONFIG meets a fenced saddle all of it is tried again (R321). DEDUCED, log entry 52. -/
def State.ringConfig (s : State) (sets : List (Nat × Nat) := []) : State :=
  let all := s.host.ringSet.getD [] ++ sets
  let v (sub : Nat) : Nat := ((all.reverse.find? (fun x => x.1 = sub)).map (·.2)).getD (s.obj 0x4300 sub)
  let put (t : State) : State := all.foldl (fun u x => u.setObj 0x4300 x.1 x.2) { t with host := { t.host with ringSet := none } }
  let s1 := s.cancelLinkWait
  if v 5 = 0 then put s1
  else
    let (r, s2) := s1.request .link (.word (w64 (2 ^ 62))) (s1.ownAddr (cairnAddr (v 7) 8)) (s1.linkIdent 0) 0 0
    let (ans, s3) := s2.cairnNow r
    if (ans.map (·.code.toNat)).getD codeFenced = codeFenced then
      { s3 with reqs := s3.reqs.filter (fun x => x.id ≠ r.id), host := { s3.host with ringSet := some all } }
    else { put s3 with host := { (put s3).host with ringIndex := 0 } }.linkWait

/-! ### Bursts that are lost -/

/-- A descriptor with its first discarded burst has nothing left to transfer (R373). -/
def Desc.broken (d : Desc) (code : Nat) : Desc :=
  { d with code := if d.code = 0 then BitVec.ofNat 16 code else d.code, left := 0, running := 0 }

/-- Whether a frame to the host belongs to a burst (R368). -/
def LFrame.ofBurst : LFrame → Bool
  | .h f => f.ty = 2 || f.ty = 3 || f.ty = 4 || f.ty = 6
  | _ => false

/-- Every open burst is treated as discarded with reason 0x004 (R377). -/
def State.burstsLost (s : State) : State :=
  let t : State := { s with host := { s.host with
      bursts := []
      out := []
      descs := s.host.descs.map (fun d => if d.running = 0 then d else d.broken codeUnreachable) } }
  t.modLink 6 (fun l => { l with txq := l.txq.filter (fun x => !x.ofBurst) })

/-- The credits of a link start again on both sides: every one is advertised (R369, R377). -/
def State.creditsAgain (s : State) (l : Nat) : State :=
  s.modLink l (fun x => { x with
    credit := fullCredit l, held := [0, 0, 0, 0, 0, 0], advertise := false
    lctlSent := x.lctlSent ++ [lctlFlit 0 x.rxExpected (fullCredit l)] })
/-- The link sends CRST, and advertises every credit again: at once, or as it has trained (R377). -/
def State.creditReset (s : State) : State :=
  let s1 := s.burstsLost.hsend 0x1E (hframe 0 0 0 0 0 [])
  if s1.linkUp 6 then s1.creditsAgain 6 else s1.modLink 6 (fun x => { x with advertise := true })

end Sys2Proof.Machine
end

