-- ==== Sys2Proof/Machine/Nmc.lean ====
section
/-! DEFINITION. The near-memory engine of a plinth (R237 to R243): the operations, the rules that the target checks, and
the completion of a command. -/

namespace Sys2Proof.Machine

/-! ### Parameters (R237) -/

def NmcCmd.n (q : NmcCmd) : Nat := wf q.p 23 0
def NmcCmd.mode (q : NmcCmd) : Nat := wf q.p 27 26
def NmcCmd.ty (q : NmcCmd) : Nat := wf q.p 31 28
def NmcCmd.k (q : NmcCmd) : Nat := wf q.p 47 32
def NmcCmd.auxv (q : NmcCmd) : Nat := wf q.p 63 52

/-- The width of an element of a type; `none` for a type that near-memory element operations do not take (R238). -/
def nmcWidth (t : Nat) : Option Nat :=
  match t with
  | 0 => some 1
  | 1 => some 1
  | 2 => some 1
  | 3 => some 1
  | 7 => some 1
  | 8 => some 2
  | 9 => some 2
  | 10 => some 4
  | 11 => some 4
  | _ => none

def nmcByteOp (op : Nat) : Bool := op ≤ 2 || 8 ≤ op

/-- The types of an operation (R238). -/
def nmcTypeOk (op ty : Nat) : Bool :=
  nmcByteOp op ||
  (match op with
   | 3 => (nmcWidth ty).isSome
   | 4 => (nmcWidth ty).isSome
   | 7 => ty = 8 || ty = 9 || ty = 10 || ty = 11
   | _ => ty = 10 || ty = 11)

/-- The element width of a command; 1 for a byte operation and for a type that is not among the operation's (R239). -/
def nmcElem (op ty : Nat) : Nat := if nmcByteOp op || !nmcTypeOk op ty then 1 else (nmcWidth ty).getD 1

/-- The rules on P that only the target checks (R239). DEDUCED, log entry 43. -/
def NmcCmd.paramsOk (q : NmcCmd) : Bool :=
  let op := q.op.toNat
  wf q.p 51 48 = 0 && wf q.p 25 24 = 0
  && (op = 7 || (if op = 10 then q.auxv < 256 else q.auxv = 0))
  && (op = 1 || op = 2 || op = 6 || q.k = 0)
  && (if op = 5 || op = 6 || op = 7 then q.mode < 2 else q.mode = 0)
  && nmcTypeOk op q.ty
  && (!(op = 8 || op = 9) || q.n % 128 = 0)

/-- The length of A's extent (R239). DEDUCED, log entry 43. -/
def nmcExtentA (op ty n : Nat) : Nat :=
  match op with
  | 8 => 33 * n / 32
  | 2 => 16
  | _ => n * nmcElem op ty

/-! ### Bytes and elements -/

/-- Elements of `w` bytes from a local address on. -/
def State.elemsAt (s : State) (a w n : Nat) : List Nat := (List.range n).map (fun i => s.readMem (a + i * w) w)
def elemBytes (w : Nat) (xs : List Nat) : List Byte := xs.flatMap (natBytes w)

/-- The order of a key (R238): FP32 by the sign-adjusted code, INT32 signed. -/
def keyOrder (ty x : Nat) : Nat :=
  if ty = 11 then (x + 2 ^ 31) % 2 ^ 32
  else if bitAt x 31 then 2 ^ 32 - 1 - x else x + 2 ^ 31

/-- Whether key `x` must stand before key `y`. -/
def keyBefore (ty mode x y : Nat) : Bool :=
  if mode = 1 then keyOrder ty y < keyOrder ty x else keyOrder ty x < keyOrder ty y

/-- Insertion behind every pair that need not follow: a stable sort. -/
def insertKey (ty mode : Nat) (x : Nat × Nat) : List (Nat × Nat) → List (Nat × Nat)
  | [] => [x]
  | y :: ys => if keyBefore ty mode x.1 y.1 then x :: y :: ys else y :: insertKey ty mode x ys
def sortPairs (ty mode : Nat) (xs : List (Nat × Nat)) : List (Nat × Nat) :=
  xs.foldl (fun l x => insertKey ty mode x l) []

/-- A stable merge: on ties the first run comes first. -/
def mergePairs (ty mode : Nat) : Nat → List (Nat × Nat) → List (Nat × Nat) → List (Nat × Nat)
  | 0, _, _ => []
  | _ + 1, [], ys => ys
  | _ + 1, xs, [] => xs
  | n + 1, x :: xs, y :: ys =>
    if keyBefore ty mode y.1 x.1 then y :: mergePairs ty mode n (x :: xs) ys else x :: mergePairs ty mode n xs (y :: ys)

/-- One line packed: its bitmap and its nonzero words (R238). -/
def compressLine (ws : List Nat) : List Byte :=
  natBytes 4 (packAll 1 (ws.map (fun w => if w = 0 then 0 else 1))) ++ elemBytes 4 (ws.filter (· != 0))

/-- One line unpacked from address `a`: its words, and the bytes taken. -/
def State.decompressLine (s : State) (a : Nat) : List Nat × Nat :=
  let map := s.readMem a 4
  let f (acc : List Nat × Nat) (w : Nat) : List Nat × Nat :=
    if bitAt map w then (acc.1 ++ [s.readMem (a + acc.2) 4], acc.2 + 4) else (acc.1 ++ [0], acc.2)
  (List.range 32).foldl f ([], 4)

def State.decompress (s : State) : Nat → Nat → List Nat × Nat
  | _, 0 => ([], 0)
  | a, n + 1 =>
    let (ws, used) := s.decompressLine a
    let (rest, more) := s.decompress (a + used) n
    (ws ++ rest, used + more)

/-! ### Operations -/

/-- What a command does: its answer's code and its writes, in order. -/
structure NmcOut where
  code : Nat
  writes : List (Nat × List Byte)

/-- The address of element `i` (signed) of a table, if it lies in [lo, hi). -/
def tableAddr (base w lo hi : Nat) (i : Int) : Option Nat :=
  let a : Int := (base : Int) + i * (w : Nat)
  if (lo : Int) ≤ a && a + (w : Nat) ≤ (hi : Int) then some a.toNat else none

/-- Keys, and payloads where the command has them, of SORT and MERGE written back. -/
def pairWrites (a : Nat) (b : Option Nat) (w : Nat) (ps : List (Nat × Nat)) : List (Nat × List Byte) :=
  (a, elemBytes w (ps.map (·.1))) :: (b.map (fun x => (x, elemBytes 4 (ps.map (·.2))))).toList

/-- REDUCE (R240, R241). -/
def State.nmcReduce (s : State) (q : NmcCmd) (a b c w : Nat) : NmcOut :=
  let n := q.n
  let z := (n * w + 127) / 128 * 128
  let contributors := q.auxv + 1
  if s.rangeBad c (64 + contributors) then ⟨codeData, []⟩
  else
    let inc := (List.range contributors).filter (fun i => s.byte (c + 64 + i) == 1)
    let count := inc.length
    let status (flags : Nat) : Nat × List Byte := (c, natBytes 8 (2 ^ 63 + flags + count))
    if inc.any (fun i => s.rangeBad (b + i * z) (n * w)) then ⟨codeData, [status (2 ^ 61)]⟩
    else
      let fmt := if q.ty = 8 then bf16 else if q.ty = 9 then fp16 else fp32
      let one (j : Nat) : Nat :=
        let xs := inc.map (fun i => s.readMem (b + i * z + j * w) w)
        if q.ty = 11 then reduceI (q.mode = 1) count xs else reduceF fmt (q.mode = 1) count xs
      ⟨0, [(a, elemBytes w ((List.range n).map one)), status (if count = 0 then 2 ^ 62 else 0)]⟩

/-- The operation of a command whose parameters are in order, with N above 0 (R238 to R243). SORT and MERGE have no payloads where the
translated operand B is 0 (R238). DEDUCED, log entry 44. DESIGN CHOICE, log entry 97. -/
def State.nmcRun (s : State) (q : NmcCmd) : NmcOut :=
  let op := q.op.toNat
  let w := nmcElem op q.ty
  let n := q.n
  let a := localOf q.a
  let b := localOf q.b
  let c := localOf q.c
  let hasB := q.b ≠ 0
  let guardRead (a n : Nat) (o : NmcOut) : NmcOut := if s.rangeBad a n then ⟨codeData, []⟩ else o
  match op with
  | 0 => guardRead b n ⟨0, [(a, s.readBytes b n)]⟩
  | 1 => guardRead b n ⟨0, [(a, s.readBytes b n), (c, digestOf (s.readBytes b n) q.k)]⟩
  | 2 => guardRead b n ⟨0, [(a, digestOf (s.readBytes b n) q.k)]⟩
  | 3 =>
    let idx := (s.elemsAt c 4 n).map (fun i => tableAddr b w (localOf q.bBase) (localOf q.bEnd) (sint 32 i))
    if s.rangeBad c (4 * n) || idx.any (fun o => o.elim false (fun t => s.rangeBad t w)) then ⟨codeData, []⟩
    else
      ⟨if idx.all Option.isSome then 0 else codeEngine, [(a, elemBytes w (idx.map (fun o => o.elim 0 (fun t => s.readMem t w))))]⟩
  | 4 =>
    let lo := a / 65536 * 65536
    let idx := (s.elemsAt c 4 n).map (fun i => tableAddr a w lo (lo + 65536) (sint 32 i))
    if s.rangeBad c (4 * n) || s.rangeBad b (w * n) then ⟨codeData, []⟩
    else
      ⟨if idx.all Option.isSome then 0 else codeEngine,
       (idx.zip (s.elemsAt b w n)).filterMap (fun (o, v) => o.map (fun t => (t, natBytes w v)))⟩
  | 5 =>
    if s.rangeBad a (w * n) || (hasB && s.rangeBad b (4 * n)) then ⟨codeData, []⟩
    else
      let ps := (s.elemsAt a w n).zip (if hasB then s.elemsAt b 4 n else List.replicate n 0)
      ⟨0, pairWrites a (if hasB then some b else none) w (sortPairs q.ty q.mode ps)⟩
  | 6 =>
    if s.rangeBad a (w * n) || (hasB && s.rangeBad b (4 * n)) then ⟨codeData, []⟩
    else
      let ps := (s.elemsAt a w n).zip (if hasB then s.elemsAt b 4 n else List.replicate n 0)
      ⟨0, pairWrites a (if hasB then some b else none) w (mergePairs q.ty q.mode (n + 1) (ps.take q.k) (ps.drop q.k))⟩
  | 7 => s.nmcReduce q a b c w
  | 8 =>
    let packed := (List.range (n / 128)).flatMap (fun i => compressLine (s.elemsAt (b + 128 * i) 4 32))
    guardRead b n ⟨0, [(a, packed), (c, natBytes 8 packed.length)]⟩
  | 9 =>
    let (ws, used) := s.decompress b (n / 128)
    guardRead b used ⟨0, [(a, elemBytes 4 ws)]⟩
  | 10 =>
    if s.rangeBad a n || s.rangeBad b n then ⟨codeData, []⟩
    else
      ⟨0, [(a, ((s.readBytes a n).zip (s.readBytes b n)).map (fun (x, y) =>
        x ^^^ BitVec.ofNat 8 (gfMul q.auxv y.toNat)))]⟩
  | _ => ⟨0, []⟩

/-! ### Writing -/

/-- The lines that a write touches. -/
def touched (a n : Nat) : List Nat := if n = 0 then [] else (List.range ((a + n - 1) / 128 - a / 128 + 1)).map (a / 128 + ·)

/-- Bytes become visible line by line (R228). DEDUCED, log entry 44. -/
def State.writeRange (s : State) (a : Nat) (bs : List Byte) : State :=
  (touched a bs.length).foldl (fun t line =>
    let lo := Nat.max a (line * 128)
    let hi := Nat.min (a + bs.length) (line * 128 + 128)
    let part := (bs.drop (lo - a)).take (hi - lo)
    let off := lo - line * 128
    t.writeVisible (line * 128) (BitVec.ofNat 128 (byteMask off (hi - lo)))
      (BitVec.ofNat 1024 (bytesNat part * 2 ^ (8 * off))) Config.untranslatedClass) s

/-- PINREL: pin lines of a range become reuse-long (R232, R238). -/
def State.pinRelease (s : State) (a n : Nat) : State :=
  (touched a n).foldl (fun t line =>
    t.modPlinth (stackOf (line * 128)) (fun q =>
      let set := mscSet (line * 128)
      let ls := (mget mscDef q.msc set).map (fun l =>
        if l.tag = mscTag (line * 128) && isPin l then { l with cls := 2 } else l)
      { q with msc := mset mscDef q.msc set ls })) s

/-! ### Acknowledgements -/

def dropAck (r : Req) : Req :=
  match r.acks with
  | some (n + 1) => { r with acks := some n }
  | _ => r

/-- The lines of a command's writes. -/
def writeLines (ws : List (Nat × List Byte)) : List Nat := (ws.flatMap (fun (a, bs) => touched a bs.length)).eraseDups

/-- Whether the head of a plinth's queue waits for an acknowledgement of a line. -/
def Plinth.nmcWaits (q : Plinth) (line : Nat) : Bool :=
  match q.nmcQ, q.nmcGot with
  | r :: _, some (_, ws) => (match r.acks with
    | some (_ + 1) => (writeLines ws).contains line
    | _ => false)
  | _, _ => false

/-- A holder has acknowledged: it holds the line no longer, and the write or command that waits for it has one
acknowledgement less (R228). DEDUCED, log entries 30, 39. -/
def State.acked (s : State) (line : Nat) (h : BitVec 12 × BitVec 16) : State :=
  let p := stackOf (line * 128)
  let e := (line, h.1, h.2)
  let s1 := s.modPlinth p (fun q => { q with filter := q.filter.erase e, asked := q.asked.erase e })
  match ackReq line p s1.reqs with
  | some rs => { s1 with reqs := rs }
  | none =>
    match s1.plinths.find? (fun e => e.2.nmcWaits line) with
    | none => s1
    | some (i, q) => s1.setPlinth i { q with nmcQ := (q.nmcQ.take 1).map dropAck ++ q.nmcQ.drop 1 }

/-! ### Reading (R239, R242) -/

/-- The bytes that a command reads, by address and length: those that it reads first, and those that it then finds from them
(R238 to R240). -/
def State.nmcSources (s : State) (q : NmcCmd) : List (Nat × Nat) × List (Nat × Nat) :=
  let op := q.op.toNat
  let w := nmcElem op q.ty
  let n := q.n
  let a := localOf q.a
  let b := localOf q.b
  let c := localOf q.c
  match op with
  | 3 =>
    ([(c, 4 * n)], (s.elemsAt c 4 n).filterMap (fun i =>
      (tableAddr b w (localOf q.bBase) (localOf q.bEnd) (sint 32 i)).map (fun t => (t, w))))
  | 4 => ([(c, 4 * n), (b, w * n)], [])
  | 5 => ((a, w * n) :: (if q.b ≠ 0 then [(b, 4 * n)] else []), [])
  | 6 => ((a, w * n) :: (if q.b ≠ 0 then [(b, 4 * n)] else []), [])
  | 7 =>
    let z := (n * w + 127) / 128 * 128
    ([(c, 65 + q.auxv)],
      ((List.range (q.auxv + 1)).filter (fun i => s.byte (c + 64 + i) == 1)).map (fun i => (b + i * z, n * w)))
  | 9 => ([(b, (s.decompress b (n / 128)).2)], [])
  | 10 => ([(a, n), (b, n)], [])
  | _ => ([(b, n)], [])

/-- The engine reads lines; true where a read answers Data, nothing where one has to wait (R230, R231). -/
def State.engineLines (s : State) : List Nat → Option (Bool × State)
  | [] => some (false, s)
  | l :: ls =>
    match s.lineGet l Config.untranslatedClass with
    | none => none
    | some (code, _, t) => (State.engineLines t ls).map (fun (bad, u) => (code ≠ 0 || bad, u))
def sourceLines (xs : List (Nat × Nat)) : List Nat :=
  ((xs.flatMap (fun x => touched x.1 x.2)).filter (· * 128 < dramSize)).eraseDups

/-- Every source of a command is read: what that leaves, or nothing where a read has to wait. DEDUCED, log entry 44. -/
def State.nmcReads (s : State) (q : NmcCmd) : Option State :=
  let (first, then_) := s.nmcSources q
  match s.engineLines (sourceLines first) with
  | none => none
  | some (true, t) => some t
  | some (false, t) => (t.engineLines (sourceLines then_)).map (·.2)

/-! ### The command queue (R242) -/

def isNmcAt (p : Nat) (r : Req) : Bool :=
  match r.kind with
  | .nmc q =>
    (match regionOf (localOf q.a) with
     | .dram => stackOf (localOf q.a) = p
     | _ => false)
  | _ => false

/-- A command enters the plinth's queue of 256, or is refused and holds a ticket (R234, R242). -/
def Plinth.nmcPresent (q : Plinth) (r : Req) : Plinth :=
  if q.nmcWait.isEmpty && q.nmcQ.length < 256 then { q with nmcQ := q.nmcQ ++ [r] }
  else { q with nmcWait := q.nmcWait ++ [{ no := q.ticket, req := r, retry := retryCount q.nmcWait.length }], ticket := q.ticket + 1 }

/-- Commands that have arrived are presented in order. A command to a fenced saddle is answered Fenced. DEDUCED, log entry 44. -/
def State.nmcAdmit (s : State) (p : Nat) : State :=
  let came := s.arrived.filter (isNmcAt p)
  let s1 : State := { s with reqs := s.reqs.filter (fun r => !came.contains r) }
  if s.saddleFenced (saddleOfStack p) then
    came.foldl (fun t r => t.answer (answerOf r codeFenced 0 none pathWrite false)) s1
  else came.foldl (fun t r => t.modPlinth p (fun q => q.nmcPresent r)) s1

/-- Whether the operands of a command pass the access table (R364). -/
def State.nmcAllowed (s : State) (r : Req) (q : NmcCmd) : Bool :=
  let who := r.who s.dev
  let op := q.op.toNat
  let ok (x : Word) : Bool := s.allowed 0x4030 who 0 (localOf x) .read
  s.allowed 0x4030 who 0 (localOf q.a) .nmc
  && (op = 11 || ((op = 5 || op = 6) && q.b = 0) || ok q.b)
  && (!(op = 1 || op = 3 || op = 4 || op = 7 || op = 8) || ok q.c)

/-- The running command's end: its code, kept until its writes are visible and its answer leaves. -/
def State.nmcEnd (s : State) (p : Nat) (r : Req) (code : Nat) : State :=
  s.modPlinth p (fun q => { q with nmcQ := q.nmcQ.drop 1, nmcGot := none, nmcDone := some (r, BitVec.ofNat 16 code) })

/-- The holders that are to be told of writes, by line. -/
def State.toldOf (s : State) (lines : List Nat) : List (Nat × BitVec 12 × BitVec 16) :=
  lines.flatMap (fun l => (((s.plinth (stackOf (l * 128))).holders l).filter (s.holderThere (stackOf (l * 128)))).map (fun h => (l, h)))

/-- A command that has started makes its writes visible: every holder of their lines is invalidated first, and requests that came
before stand before them; they wait for slots (R228, R233, R234, R242). -/
def State.nmcWrite (s : State) (p : Nat) (r : Req) (code : Nat) (ws : List (Nat × List Byte)) : State :=
  let ls := writeLines ws
  let hs := s.toldOf ls
  match r.acks with
  | some (_ + 1) => s
  | _ =>
    if !hs.isEmpty then
      (hs.foldl (fun t (l, h) => t.sendInv p l h) s).modPlinth p (fun d =>
        { d with nmcQ := { r with acks := some hs.length } :: d.nmcQ.drop 1 })
    else
      let t := ws.foldl (fun t (a, bs) => t.writeRange a bs) s
      if ls.any s.lineBusy || t.plinths.any (fun e => e.2.overfull) then s else t.nmcEnd p r code

/-- The command at the head of a plinth's queue runs, if it is of operation `op`. It reads all its sources as it starts, and what it
then does is fixed (R239, R240, R242). The access table is asked first, also of a command with N = 0: the model's choice. DEDUCED,
log entry 44. DESIGN CHOICE, log entry 89. -/
def State.nmcStep (s0 : State) (p op : Nat) : State :=
  let s := s0.nmcAdmit p
  if s0.saddlesOff then s0
  else match (s.plinth p).nmcQ, (s.plinth p).nmcDone, (s.plinth p).nmcGot with
  | r :: _, none, got =>
    match r.kind, got with
    | .nmc q, some (code, ws) => if q.op.toNat ≠ op then s else s.nmcWrite p r code ws
    | .nmc q, none =>
      if q.op.toNat ≠ op then s
      else if !s.nmcAllowed r q then s.nmcEnd p r codeDenied
      else if !q.paramsOk then s.nmcEnd p r codeEngine
      else if q.n = 0 then s.nmcEnd p r 0
      else if op = 11 then (s.pinRelease (localOf q.a) q.n).nmcEnd p r 0
      else
        match s.nmcReads q with
        | none => s
        | some t =>
          let o := s.nmcRun q
          (t.modPlinth p (fun d => { d with nmcGot := some (o.code, o.writes) })).nmcWrite p r o.code o.writes
    | _, _ => s
  | _, _, _ => s

/-- COPY (R238). -/
def execCopy (p : PlinthId) (s : State) : Out := .next (s.nmcStep p 0)
/-- COPYD (R238, R243). -/
def execCopyd (p : PlinthId) (s : State) : Out := .next (s.nmcStep p 1)
/-- DIGEST (R238, R243). -/
def execDigest (p : PlinthId) (s : State) : Out := .next (s.nmcStep p 2)
/-- GATHER (R238, R239). -/
def execGather (p : PlinthId) (s : State) : Out := .next (s.nmcStep p 3)
/-- SCATTER (R238, R239). -/
def execScatter (p : PlinthId) (s : State) : Out := .next (s.nmcStep p 4)
/-- SORT (R238). -/
def execSort (p : PlinthId) (s : State) : Out := .next (s.nmcStep p 5)
/-- MERGE (R238). -/
def execMerge (p : PlinthId) (s : State) : Out := .next (s.nmcStep p 6)
/-- REDUCE (R240, R241). -/
def execReduce (p : PlinthId) (s : State) : Out := .next (s.nmcStep p 7)
/-- COMPRESS (R238). -/
def execCompress (p : PlinthId) (s : State) : Out := .next (s.nmcStep p 8)
/-- DECOMPRESS (R238). -/
def execDecompress (p : PlinthId) (s : State) : Out := .next (s.nmcStep p 9)
/-- GFMAC (R238, R243). -/
def execGfmac (p : PlinthId) (s : State) : Out := .next (s.nmcStep p 10)
/-- PINREL (R232, R238). -/
def execPinrel (p : PlinthId) (s : State) : Out := .next (s.nmcStep p 11)

/-- Whether the answer to a command tells its requester something: a core hears of an error only. -/
def nmcHeard (r : Req) (code : BitVec 16) : Bool :=
  code ≠ 0 || (match r.src with
    | .core _ => false
    | _ => true)

/-- NMC_COMPLETION_SIGNAL: the answer of the completed command leaves, and a SIGNAL of 1 follows to its cairn, in the name
of the core that issued the command (R242, R253); also behind a Denied answer, which R242 does not name: the model's choice.
DEDUCED, log entries 45, 78. DESIGN CHOICE, log entry 89. -/
def execNmcCompletionSignal (p : PlinthId) (s : State) : Out :=
  match (s.plinth p).nmcDone with
  | none => .next s
  | some (r, code) =>
    let s1 := s.modPlinth p (fun q => { q with nmcDone := none })
    let s2 := if nmcHeard r code then s1.answer (answerOf r code.toNat 0 none pathWrite false) else s1
    match r.kind with
    | .nmc q =>
      (match q.cairn with
       | some a => .next (s2.sendNew (.engine p) (.signal 1) a
           (wset (wset (wset q.ident 51 48 1) 47 46 0) 45 45 0) 0 0)
       | none => .next s2)
    | _ => .next s2

/-! ### Writes that a master makes at once -/

/-- The sketch-buffer entries of the own module that hold a line are marked Invalid (R228). -/
def State.dropHolders (s : State) (line : Nat) : State :=
  let p := stackOf (line * 128)
  let one (t : State) (h : BitVec 12 × BitVec 16) : State :=
    if h.1.toNat = t.dev then
      t.modCluster h.2.toNat (fun cl => { cl with
        sketch := cl.sketch.map (fun e => if e.line = t.dev * 2 ^ 45 + line then { e with st := .invalid } else e) })
    else t
  (((s.plinth p).holders line).foldl one s).modPlinth p (fun q => { q with filter := q.filter.filter (fun e => e.1 ≠ line) })

/-- A holder on another module is asked to invalidate a line, if it has not been yet. -/
def State.askHolder (s : State) (line : Nat) (h : BitVec 12 × BitVec 16) : State :=
  let p := stackOf (line * 128)
  if (s.plinth p).asked.contains (line, h.1, h.2) then s
  else (s.sendInv p line h).modPlinth p (fun q => { q with asked := q.asked ++ [(line, h.1, h.2)] })

/-- Bytes become visible in local DRAM, and true; or they have to wait, for a holder on another module, for an earlier request or for a
slot, and nothing is written (R228, R233, R234). DEDUCED, log entry 39. -/
def State.writeNow (s : State) (a : Nat) (bs : List Byte) : Bool × State :=
  let ls := touched a bs.length
  let far := (s.toldOf ls).filter (fun e => e.2.1.toNat ≠ s.dev)
  let t := (ls.foldl (fun t l => t.dropHolders l) s).writeRange a bs
  if !far.isEmpty then (false, far.foldl (fun t (l, h) => t.askHolder l h) s)
  else if s.saddlesOff || ls.any s.lineBusy || t.plinths.any (fun e => e.2.overfull) then (false, s)
  else (true, t)

/-- Whether the home of a line refuses a master's write (R235, R361). -/
def State.writeRefused (s : State) (who : Who) (a n : Nat) : Bool :=
  (touched a n).any (fun l => dramSize ≤ l * 128 || s.targetError (l * 128) who .write ≠ 0)
/-- A master's write: true where it is made, or refused by its home; else it has to wait. -/
def State.writeAs (s : State) (who : Who) (a : Nat) (bs : List Byte) : Bool × State :=
  if s.writeRefused who a bs.length then (true, s) else s.writeNow a bs
/-- A master's write that nothing can put off: the holders of its lines are told with it (R228). DEDUCED, log entry 39. -/
def State.writeAtOnce (s : State) (who : Who) (a : Nat) (bs : List Byte) : State :=
  if s.writeRefused who a bs.length then s
  else
    let ls := touched a bs.length
    let far := (s.toldOf ls).filter (fun e => e.2.1.toNat ≠ s.dev)
    (ls.foldl (fun t l => t.dropHolders l) (far.foldl (fun t (l, h) => t.sendInv (stackOf (l * 128)) l h) s)).writeRange a bs

end Sys2Proof.Machine
end

