-- ==== Sys2Proof/Machine/Recov.lean ====
section
/-! DEFINITION. Reset domains and recovery (R304 to R319), the fault log (R312, R322), drop reports (R323, R324) and Safe
Hold (R405). -/

namespace Sys2Proof.Machine

/-! ### Domains (R304) -/

/-- Whether domain `e` encloses `d`, or is `d`. -/
def domWithin (d e : Dom) : Bool :=
  d = e || (match d, e with
    | _, .module => true
    | .cluster k, .spur x => k.val / 64 = x.val
    | .cluster k, .ridge r => k.val / 4096 = r.val
    | .spur x, .ridge r => x.val / 64 = r.val
    | _, _ => false)

/-- The next enclosing domain; none for the module. -/
def domNext : Dom → Option Dom
  | .cluster k => some (.spur ⟨k.val / 64, by omega⟩)
  | .spur d => some (.ridge ⟨d.val / 64, by omega⟩)
  | .ridge _ => some .module
  | .saddle _ => some .module
  | .module => none

def domClusters : Dom → List Nat
  | .cluster k => [k.val]
  | .spur d => (List.range 64).map (64 * d.val + ·)
  | .ridge r => (List.range 4096).map (4096 * r.val + ·)
  | .saddle _ => []
  | .module => List.range 65536
def domSpurs : Dom → List Nat
  | .spur d => [d.val]
  | .ridge r => (List.range 64).map (64 * r.val + ·)
  | .module => List.range 1024
  | _ => []
def domSaddles : Dom → List Nat
  | .saddle n => [n.val]
  | .module => List.range 8
  | _ => []
/-- Whether a core lies in a domain. -/
def domCore (d : Dom) (c : Nat) : Bool := !coreBoot c && domCluster d (clusterOf c)
def domPlinth (d : Dom) (p : Nat) : Bool := domSaddle d (saddleOfStack p)

/-- Whether a request's sender lies in a domain; that of another module's is the port through which it came (R304, R349). -/
def srcIn (d : Dom) : Src → Bool
  | .core c => domCore d c
  | .cluster k => domCluster d k
  | .storePath k _ => domCluster d k
  | .sketch k _ => domCluster d k
  | .engine p => domPlinth d p
  | .host _ => domSaddle d 7
  | .link => domSaddle d 7
  | .remote p _ _ => domSaddle d p
  | .summit => false
/-- The scale-out port, or the Shutik link, that a saddle drives (R12). -/
def saddleLink (n : Nat) : Option Nat := if n < 6 then some n else if n = 7 then some 6 else none
def domLinks (d : Dom) : List Nat := (domSaddles d).filterMap saddleLink

/-! ### Records and reports -/

/-- The error codes of the module (R322). -/
def errorCodes : List Nat :=
  [0x0000, 0x1001, 0x1002, 0x1003, 0x1004, 0x1005, 0x1006, 0x1007, 0x1008, 0x2001, 0x2002, 0x2003, 0x2004, 0x2005, 0x3001,
   0x4001, 0x4002, 0x4003, 0x5001, 0x6001, 0x6002, 0x6003, 0x6004, 0x8001, 0x8002, 0x8003, 0x9001, 0x9002, 0x9003]

/-- A fault record of which bits [39:0] are `low` joins the log (R312). -/
def State.recordLow (s : State) (low : Nat) : State :=
  let seq := (s.faultSeq + 1) % 2 ^ 24
  let word := seq * 2 ^ 40 + low % 2 ^ 40
  let n := s.obj 0x5100 0
  let s1 := ((List.range 63).reverse).foldl (fun t i => t.setObj 0x5100 (i + 2) (t.obj 0x5100 (i + 1))) s
  { (s1.setObj 0x5100 1 word).setObj 0x5100 0 (Nat.min 64 (n + 1)) with faultSeq := seq }
/-- A fault record joins the log (R312, R322). -/
def State.record (s : State) (kind index code : Nat) : State := s.recordLow (kind * 2 ^ 32 + index * 2 ^ 16 + code)

def State.recordDom (s : State) (d : Dom) (code : Nat) : State := s.record (domKind d) (domIndex d) code
def State.lastRecord (s : State) : Nat := s.obj 0x5100 1

def State.rstate (s : State) : Nat := s.obj 0x4000 4

/-- MGRDEV (R336). -/
def State.managerDev (s : State) : Nat := s.obj 0x4000 3
/-- The module is the manager of its range (R338). -/
def State.isManager (s : State) : Bool := s.rstate = 2 && s.obj 0x4000 2 = 2 && s.managerDev = s.obj 0x4000 1
def State.isMember (s : State) : Bool := s.rstate = 2 || s.rstate = 3

/-- The recovery report of a member: device, record and STEP, which is 0 for a saddle (R324, R341). -/
def State.report (s : State) (d : Dom) : State :=
  if s.rstate = 2 then
    s.mgrSend .report s.managerDev [s.dev, s.lastRecord, if domKind d = 3 then 0 else s.obj 0x5030 0]
  else s

/-! ### Safe Hold -/

/-- The scale-out ports are off, and the host link unless it is kept (R383, R406). -/
def State.linksOff (s : State) (keepHost : Bool) : State :=
  let s1 := (List.range 6).foldl (fun t p => t.setObj (0x4200 + p) 1 0) s
  let s2 := if keepHost then s1 else s1.setObj 0x4300 1 0
  { s2 with links := s2.links.filter (fun e => e.1 = 6 && keepHost), host := if keepHost then s2.host else {} }

/-- A claim of a core that `lost` selects ends with the core's reset; an operation that it has started goes on for nobody (R434). -/
def Mailbox.dropOwner (b : Mailbox) (lost : Nat → Bool) : Mailbox :=
  match b.owner with
  | some (.core c) => if lost c then { b with owner := none, lost := true } else b
  | _ => b
/-- A varnish pass is cut off with nothing noted; a direct run goes on (R461, R462). -/
def Bist.stopped (b : Bist) : Bist := if b.direct then b else { b with run := false }

/-- Only the summit and the refuge are powered; everything else is held in reset, and DRAM is refreshed no more (R383,
R405). DEDUCED, log entries 58, 64. -/
def State.safeHold (s : State) : State :=
  { ((s.linksOff false).setObj 0x2010 0 6).setObj 0x2011 0 (objDefault (okey 0x2011 0)) with
    cores := s.cores.filter (fun e => coreBoot e.1)
    clusters := []
    domains := s.domains.filter (fun e => e.1 = bootDomain)
    plinths := []
    saddles := []
    cairns := []
    dram := []
    poison := []
    dramBad := []
    dramSoft := []
    reqs := []
    answers := []
    resend := []
    remote := []
    epochHeld := []
    epochTable := none
    recovs := []
    abandoned := []
    parked := []
    halted := none
    saveDir := []
    mailboxes := mupd mailboxDef (fun _ (b : Mailbox) => b.dropOwner (fun c => !coreBoot c)) s.mailboxes
    bist := s.bist.stopped
    power := { s.power with entry := none, wakePhase := 0, startStep := 4, abandoned := false, brownoutSaved := false, stopHeld := false, gated := []
                            wasMember := false } }

/-! ### The fence (R309, R310) -/

def qWaits (e : QEntry) : Bool :=
  match e.op with
  | .waitGe _ => true
  | .waitBar _ => true
  | _ => false
def qOpCode (e : QEntry) : Nat :=
  match e.op with
  | .waitBar _ => 3
  | .waitGe _ => 2
  | .sigc dec _ => if dec then 1 else 0
  | _ => 0

/-- A cancel leaves for each WAITC of a core that has been sent and not been answered (R269). -/
def State.cancelWaits (s : State) (c : Nat) : State :=
  let k := s.core c
  let go (q : Bool) (t : State) (e : QEntry) : State :=
    if qWaits e && e.sent then t.sendNew (.core c) .cancel e.pa (t.coreIdent c (qOpCode e) q) 0 0 else t
  k.syncQ.foldl (go true) (k.memQ.foldl (go false) s)

/-- What the fence discards in a core: entries that have not been sent, and its waits. -/
def Core.fenced (k : Core) : Core :=
  { k with
    memQ := k.memQ.filter (fun e => e.sent && !qWaits e)
    syncQ := []
    cq := [] }

def fencedCluster (cl : Cluster) : Cluster := { cl with phase := .held, storePath := [] }

/-- Whether the extents [a, a + n) and [b, b + m) overlap. -/
def extentsMeet (a n b m : Nat) : Bool := a < b + m && b < a + n

/-- How a near-memory command that a fence stops is answered (R321). The extent of B is the table up to its region's end for a GATHER, and
the 33N/32 bytes of the packed elements and scales for a DECOMPRESS. DESIGN CHOICE, log entry 99. -/
def stoppedCode (q : NmcCmd) : Nat :=
  let op := q.op.toNat
  let ea := nmcExtentA op q.ty q.n
  let eb := match op with
    | 7 => (q.auxv + 1) * ((q.n * nmcElem op q.ty + 127) / 128 * 128)
    | 3 => (localOf q.bEnd) - localOf q.b
    | 9 => 33 * q.n / 32
    | _ => q.n * nmcElem op q.ty
  let ec := match op with
    | 7 => 65 + q.auxv
    | 3 => 4 * q.n
    | 4 => 4 * q.n
    | 8 => 8
    | _ => 16
  if (op ≤ 4 || op = 7 || op = 8 || op = 9 || op = 11)
      && !extentsMeet (localOf q.a) ea (localOf q.b) eb && !(q.c ≠ 0 && extentsMeet (localOf q.a) ea (localOf q.c) ec) then
    codeFenced
  else codeInterrupted

/-- The plinths of a saddle answer what they have not begun, tickets among it; a running command stops (R309, R310, R321). -/
def State.fencePlinth (s : State) (p : Nat) : State :=
  let q := s.plinth p
  let fenced (t : State) (r : Req) : State :=
    if r.kind.answered then t.answer (answerOf r codeFenced 0 none pathMsc false) else t
  let told (r : Req) : Bool := r.acks.isSome && atPlinth p r
  let waits := q.slots.flatMap (·.waits) ++ s.reqs.filter told ++ (q.refused ++ q.nmcWait).map (·.req)
  let s1 := { s with reqs := s.reqs.filter (fun r => !told r) }.setPlinth p
    { q with slots := q.slots.filter (·.write), refused := [], nmcQ := [], nmcWait := [], nmcGot := none, asked := [] }
  q.nmcQ.zipIdx.foldl (fun t (r, i) =>
    match r.kind with
    | .nmc c => t.answer (answerOf r (if i = 0 && q.nmcGot.isSome then stoppedCode c else codeFenced) 0 none pathWrite false)
    | _ => t) (waits.foldl fenced s1)

/-- The boundary acknowledges the invalidations that wait for a fenced cluster. -/
def State.ackFenced (s : State) (d : Dom) : State :=
  let mine (r : Req) : Bool := match r.kind with
    | .invalidate _ _ => domCluster d r.ident.toNat
    | _ => false
  (s.reqs.filter mine).foldl (fun t r =>
    match r.kind, r.src with
    | .invalidate _ line, .engine _ => t.acked line (BitVec.ofNat 12 t.dev, BitVec.ofNat 16 r.ident.toNat)
    | _, _ => t.answer (answerOf r 0 0 none 0 false)) { s with reqs := s.reqs.filter (fun r => !mine r) }

def LFrame.isRequest : LFrame → Bool
  | .t f => f.ty.toNat < 0x10
  | _ => false
/-- A request of this module that a fenced port will not send is answered Fenced by the boundary; a cancel is acknowledged, and an
invalidation (R309). -/
def State.unsent (s : State) (d : Dom) (r : Req) : State :=
  match r.kind with
  | .invalidate _ line => s.acked line (BitVec.ofNat 12 (devOf r.addr), BitVec.ofNat 16 r.ident.toNat)
  | k => if k.answered && !srcIn d r.src then s.answer (answerOf r (if k = .cancel then 0 else codeFenced) 0 none pathRemote false) else s
/-- The requests that a fenced saddle holds back for its port, and those that the port has not sent, are answered by the boundary: this
module's, and other modules' on their way through it (R309). DEDUCED, log entry 53. -/
def State.fencePort (s : State) (d : Dom) (n : Nat) : State :=
  let mine (r : Req) : Bool := srcSaddle r = n
  let frames := ((saddleLink n).elim [] (fun l => (s.link l).txq)).filterMap (fun f => match f with
    | .t x => if x.ty.toNat < 0x10 then some x else none
    | _ => none)
  let s1 : State := { s with
    epochHeld := s.epochHeld.filter (fun r => !mine r)
    links := mupd linkDef (fun l x =>
      if saddleLink n = some l then { x with txq := x.txq.filter (fun f => !f.isRequest) } else x) s.links }
  let s2 := (s.epochHeld.filter mine).foldl (fun t r => t.unsent d r) s1
  frames.foldl (fun t x =>
    if x.f.src.toNat = t.dev then
      match t.ownRequest x.ty.toNat x.f with
      | some e => { t with remote := t.remote.erase e }.unsent d e.2
      | none => t
    else t.bounceFrame n x.ty.toNat x.f codeFenced) s2

/-- The refused requests of a domain, with their tickets, at plinths and cairn units (R234, R242, R263). -/
def State.ticketsOf (s : State) (d : Dom) : List Req :=
  ((s.plinths.flatMap (fun e => (e.2.refused ++ e.2.nmcWait).map (·.req))) ++ s.saddles.flatMap (fun e => e.2.refused.map (·.req))).filter
    (fun r => srcIn d r.src)

/-- The fence of a domain. Where the tickets of a port are removed, the boundary answers their requests, which are other modules'.
DEDUCED, log entry 58. -/
def State.fenceDomain (s : State) (d : Dom) : State :=
  let s1 := (s.cores.filter (fun e => domCore d e.1)).foldl (fun t e => t.cancelWaits e.1) s
  let s2 := { s1 with
    cores := mupd coreDef (fun c k => if domCore d c then k.fenced else k) s1.cores
    clusters := mupd clusterDef (fun k cl => if domCluster d k then fencedCluster cl else cl) s1.clusters
    plinths := mupd plinthDef (fun _ q =>
      { q with refused := q.refused.filter (fun t => !srcIn d t.req.src)
               nmcWait := q.nmcWait.filter (fun t => !srcIn d t.req.src) }) s1.plinths
    saddles := mupd saddleDef (fun _ x => { x with refused := x.refused.filter (fun t => !srcIn d t.req.src) }) s1.saddles }
  let s3 := ((s1.ticketsOf d).filter (fun r => remoteSrc r.src && r.kind.answered)).foldl (fun t r =>
    t.answer (answerOf r codeFenced 0 none pathRemote false)) (s2.ackFenced d)
  (domSaddles d).foldl (fun t n =>
    ((List.range 4).map (4 * n + ·)).foldl (fun u p => u.fencePlinth p) ((t.fenceCairns n).fencePort d n)) s3

/-! ### Triggers (R306, R307, R319) -/

/-- A recovery begins at its fence; recoveries within its domain are abandoned, a parked domain within it is parked no longer, whatever
has fired it, and a halt of a cluster in it ends (R307, R318, R453). DESIGN CHOICE, log entry 100. -/
def State.startRecovery (s : State) (d : Dom) (code : Nat) : State :=
  let r : Recov := { dom := d, phase := .fence, code := BitVec.ofNat 16 code, release := false }
  let ends : Bool := match s.halted with
    | some k => domCluster d k.val
    | none => false
  let s1 : State := { s with
    recovs := s.recovs.filter (fun (x : Recov) => !domWithin x.dom d) ++ [r]
    parked := s.parked.filter (fun x => !domWithin x d)
    halted := if ends then none else s.halted }
  (s1.setObj 0x5101 0 ((s1.obj 0x5101 0 + 1) % 2 ^ 64)).fenceDomain d

/-- The enclosing domain of a recovering one fires; the module's own escalation is Safe Hold. -/
def State.escalate (s : State) (d : Dom) (code : Nat) : State :=
  match domNext d with
  | some e => s.startRecovery e code
  | none => s.safeHold

/-- Whether a domain lies within one that is parked. -/
def State.inParked (s : State) (d : Dom) : Bool := s.parked.any (fun p => domWithin d p)
/-- A trigger reaches the sequencer; `same` says that it does so in the beat of the last one for the domain, of which the lower code
counts (R307). A parked domain is held in reset, and nothing within it fires (R318). -/
def State.trigger (s : State) (d : Dom) (code : Nat) (same : Bool) : State :=
  match s.recovs.find? (fun r => domWithin d r.dom) with
  | some r =>
    if r.phase = .reload || r.phase = .rejoin then s.escalate r.dom 0x6001
    else if same && r.phase = .fence && r.dom = d then
      { s with recovs := s.recovs.map (fun x => if x.dom = d then { x with code := BitVec.ofNat 16 (Nat.min x.code.toNat code) } else x) }
    else s
  | none => if s.inParked d then s else s.startRecovery d code
/-- A reset command: it is also what a parked domain waits for (R318, R322). -/
def State.commandReset (s : State) (d : Dom) (code : Nat) : State :=
  if s.parked.contains d && s.recovs.all (fun r => !domWithin d r.dom) then s.startRecovery d code else s.trigger d code false

/-- Whether a generator's RATE is below what R306 asks, and its trigger armed (R385). -/
def Domain.tooSlow (g : Domain) : Bool := g.armed && g.cad ≠ 2 && decide (g.rate.toNat < if g.cad = 1 then 1000 else 400)
/-- Whether a code is one that R306 gives a domain's own triggers, and what state there is shows its reason. That a memory PHY has lost
lock is an event of its own. DEDUCED, log entry 58. -/
def State.triggerOk (s : State) (d : Dom) (code : Nat) : Bool :=
  match d with
  | .cluster _ => code = 0x2001 || code = 0x2002 || code = 0x3001
  | .spur x =>
    code = 0x2003
      || (code = 0x4001 && (s.domain x.val).armed && (s.domain x.val).cad ≠ 2 && decide ((s.domain x.val).rate.toNat < 400))
  | .ridge r => code = 0x2004 || (code = 0x4002 && (s.domain (0x400 + r.val)).tooSlow)
  | .saddle n => code = 0x2005 || (code = 0x4003 && ((s.domain (0x410 + n.val)).tooSlow ||
      (List.range 4).any (fun i => (s.domain (0x438 + 4 * n.val + i)).tooSlow || (s.domain (0x418 + 4 * n.val + i)).cad ≠ 2)))
  | .module => code = 0x5001

/-- Whether a block is clamped by an entry in progress. -/
def State.shutBlock (s : State) (b : Block) : Bool := s.power.entry.elim false (fun e => e.shut.contains b)
/-- Whether every block of a domain is. -/
def State.shutDom (s : State) (d : Dom) : Bool :=
  (domClusters d).all (fun k => if h : k < 65536 then s.shutBlock (.cluster ⟨k, h⟩) else true)
  && (match d with
      | .ridge r => s.shutBlock (.ridge r)
      | .saddle n => s.shutBlock (.saddle n)
      | .module => (List.finRange 8).all (fun n => s.shutBlock (.saddle n)) && (List.finRange 16).all (fun r => s.shutBlock (.ridge r))
      | _ => true)
/-- Whether the whole domain lies behind clamps: its blocks are shut down, its spur naps or powers up, or the module keeps it without power,
a held spur among the others (R391, R396, R403, R405, R408). -/
def State.domClamped (s : State) (d : Dom) : Bool :=
  let m := s.obj 0x2010 0
  let up := match d with
    | .saddle _ => s.power.wakePhase ≠ 1 && s.power.wakePhase ≠ 2
    | _ => s.power.wakePhase = 0
  let started := match d with
    | .saddle _ => 6 ≤ s.power.startStep
    | _ => 8 ≤ s.power.startStep
  m = 4 || m = 6 || m = 7 || (m = 5 && !up) || (m = 1 && !started)
  || (s.power.entry.isSome && s.shutDom d)
  || (match d with
      | .cluster k => s.rimHolds (clusterSpur k.val)
      | .spur x => s.rimHolds x.val
      | _ => false)

/-! ### Phases (R308) -/

def State.recov (s : State) (d : Dom) : Option Recov := s.recovs.find? (fun r => r.dom = d)
def State.setPhase (s : State) (d : Dom) (p : RPhase) : State :=
  { s with recovs := s.recovs.map (fun r => if r.dom = d then { r with phase := p } else r) }
/-- A step of the recovery of a domain that stands in a phase. DESIGN CHOICE, log entry 3. -/
def State.inPhase (s : State) (d : Dom) (p : RPhase) (f : Recov → State) : State :=
  match s.recov d with
  | some r => if r.phase = p then f r else s
  | none => s

/-- FENCE_PHASE_END. -/
def execFencePhaseEnd (d : Dom) (s : State) : Out := .next (s.inPhase d .fence (fun _ => s.setPhase d .drain))

/-- FENCE_LIMIT: boundary points that have not acknowledged are clamped; the drain follows (R309). DESIGN CHOICE, log entry 2. -/
def execFenceLimit (d : Dom) (s : State) : Out :=
  .next (s.inPhase d .fence (fun _ =>
    { s with recovs := s.recovs.map (fun r => if r.dom = d then { r with phase := .drain } else r) }))

/-- The requests that wait at a plinth, slots and queue, and the answers that wait at a saddle. -/
def Plinth.inside (q : Plinth) : List Req := q.slots.flatMap (·.waits) ++ q.nmcQ ++ (q.nmcDone.map (·.1)).toList
/-- The requests of a domain that are unanswered, by number and source (R308). -/
def State.outward (s : State) (d : Dom) : List Nat :=
  ((s.reqs ++ s.epochHeld ++ s.remote.map (·.2) ++ s.plinths.flatMap (fun e => e.2.inside)).filter (fun r =>
      r.kind.answered && srcIn d r.src && !linkWaits r.src r.kind)).map (·.id)
  ++ ((s.saddles.flatMap (fun e => e.2.outlet)).filter (fun a => srcIn d a.dst)).map (·.id)
/-- Whether a request from outside that the domain has begun is open: an access or a command of its plinths, or an answer of its cairn units
or ports that has not left (R308, R310). -/
def State.inward (s : State) (d : Dom) : Bool :=
  s.plinths.any (fun e => domPlinth d e.1 && (e.2.nmcDone.isSome || !e.2.slots.isEmpty))
  || s.saddles.any (fun e => domSaddle d e.1 && !e.2.outlet.isEmpty)
  || (domLinks d).any (fun l => s.linkUp l && (s.link l).txq.any (fun f => !f.isRequest && f.channel.isSome))
/-- Whether an outward request of the domain is unanswered and not abandoned, or an inward request that it has begun is open (R308). -/
def State.outstanding (s : State) (d : Dom) : Bool := (s.outward d).any (fun i => !s.abandoned.contains i) || s.inward d

/-- The end of the drain: the record is appended and the report sent (R312, R324, R341). -/
def State.drainOver (s : State) (d : Dom) (code : Nat) : State := ((s.recordDom d code).report d).setPhase d .scrub

/-- DRAIN_END. DESIGN CHOICE, log entry 3. -/
def execDrainEnd (d : Dom) (s : State) : Out :=
  .next (s.inPhase d .drain (fun r => if s.outstanding d then s else s.drainOver d r.code.toNat))

/-- The unanswered requests of a domain are abandoned: they go on, and their answers will find nobody (R311). -/
def State.abandon (s : State) (d : Dom) : State :=
  { s with
    abandoned := s.abandoned ++ (s.outward d).filter (fun i => !s.abandoned.contains i)
    resend := s.resend.filter (fun r => !srcIn d r.src) }

/-- DRAIN_LIMIT (R311). -/
def execDrainLimit (d : Dom) (s : State) : Out :=
  .next (s.inPhase d .drain (fun r => (s.abandon d).drainOver d r.code.toNat))

/-! ### Reset and scrub (R313) -/

/-- A saddle's engines are emptied; cairns, memory-side caches and write filters are kept (R305). -/
def scrubPlinth (q : Plinth) : Plinth := { msc := q.msc, filter := q.filter, ticket := q.ticket }
/-- The cairn unit goes on behind its beat, with the answers that it has queued; a route epoch goes on too (R258, R310, R360). -/
def scrubSaddle (x : Saddle) : Saddle := { x with refused := [] }
/-- A port engine is emptied; the lanes stay trained, and the numbering and the credits with them (R305, R313). DEDUCED, log entry 53. -/
def scrubLink (x : Link) : Link := { x with txq := [], replay := [] }

/-- Every unit of a domain takes its reset state. DESIGN CHOICE, log entry 6. DEDUCED, log entries 53, 58. -/
def State.scrub (s : State) (d : Dom) : State :=
  let s1 := { s with
    cores := s.cores.filter (fun e => !domCore d e.1)
    clusters := s.clusters.filter (fun e => !domCluster d e.1)
    plinths := mupd plinthDef (fun p q => if domPlinth d p then scrubPlinth q else q) s.plinths
    saddles := mupd saddleDef (fun n x => if domSaddle d n then scrubSaddle x else x) s.saddles
    answers := s.answers.filter (fun a => !srcIn d a.dst || linkWaits a.dst a.kind)
    resend := s.resend.filter (fun r => !srcIn d r.src)
    links := mupd linkDef (fun l x => if (domLinks d).contains l then scrubLink x else x) s.links
    host := if domSaddle d 7 then { s.host with bursts := [], out := [], waiting := [] } else s.host
    cairns := if d = .module then [] else s.cairns
    mailboxes := mupd mailboxDef (fun _ (b : Mailbox) => b.dropOwner (domCore d)) s.mailboxes }
  match d with
  | .cluster k => s1.modCluster k.val (fun cl => { cl with bbase := s.beat (clusterSpur k.val) })
  | _ => (domSpurs d).foldl (fun t x => t.modDomain x (fun g => { g with rbase := g.beat })) s1

/-- RESET_SCRUB_DONE. -/
def execResetScrubDone (d : Dom) (s : State) : Out := .next (s.inPhase d .scrub (fun _ => (s.scrub d).setPhase d .reload))

/-- RESET_SCRUB_LIMIT (R306). -/
def execResetScrubLimit (d : Dom) (s : State) : Out := .next (s.inPhase d .scrub (fun _ => s.escalate d 0x6001))

/-! ### Reload (R314 to R316) -/

/-- The address of the record of cluster `k`, in the rejoin area or the save area. -/
def recordAddr (base k : Nat) : Nat := base + 8704 * k
def State.word (s : State) (a : Nat) : Word := w64 (s.readMem a 8)
def coreEntry (a i : Nat) : Nat := a + 512 + 512 * i

/-- Whether a rejoin record's header and core entries are valid (R315, R316, R318). -/
def State.entryOk (s : State) (e : Nat) : Bool :=
  let st := s.word (e + 0x108)
  s.word e = 1 && (List.range 11).all (fun i => s.word (e + 0x168 + 8 * i) = 0)
  && wf st 47 40 = 0 && wf st 15 14 = 0 && wf st 1 0 ≠ 2
def State.rejoinOk (s : State) (a : Nat) : Bool :=
  (List.range 54).all (fun i => s.word (a + 0x50 + 8 * i) = 0)
  && (List.range 16).all (fun i => s.entryOk (coreEntry a i))

/-- The module as the reload of a domain meets it: its own fence does not stand in the way of its records (R314). -/
def State.reloading (s : State) (d : Dom) : State := { s with recovs := s.recovs.filter (fun r => r.dom ≠ d) }

/-- The slot maps of a header. -/
def State.headerMaps (s : State) (a : Nat) : Maps :=
  { csmap := s.word a
    csctl := keep 0xFFFFFFFF0004 (s.word (a + 8))
    cqmap := (List.range 4).map (fun i => s.word (a + 0x10 + 8 * i))
    cqctl := (List.range 4).map (fun i => keep 0xFFFFFFFF0000 (s.word (a + 0x30 + 8 * i))) }

/-- A core takes the registers of a core entry; those it does not name have their reset value (R314, R316). -/
def State.entryCore (s : State) (e : Nat) : Core :=
  let k0 : Core := {}
  let k1 := (List.range 31).foldl (fun (k : Core) n => k.setS (BitVec.ofNat 5 (n + 1)) (s.word (e + 0x10 + 8 * n))) k0
  { k1 with
    pc := (keep maskAddr (s.word (e + 8))).truncate 48
    stat := keep 0xFF00000003 (s.word (e + 0x108))
    saveS := { ivec := keep maskIvec (s.word (e + 0x110)), scratch := s.word (e + 0x120) }
    saveM := { ivec := keep maskIvec (s.word (e + 0x118)), scratch := s.word (e + 0x128) }
    atb := keep maskAtb (s.word (e + 0x130))
    asid := keep 0xFFFF (s.word (e + 0x138))
    fctl := fieldUnless (fun m => 4 ≤ m) 10 8 0 (keep 0xF1F (s.word (e + 0x140)))
    vcfg := vcfgWrite k0.vcfg (s.word (e + 0x148))
    lcnt := fieldUnless (fun m => m = 2) 33 32 0 (keep 0x3FFFFFFFF (s.word (e + 0x150)))
    lbeg := keep maskAddr (s.word (e + 0x158))
    lend := keep maskAddr (s.word (e + 0x160))
    tcfg := BitVec.ofNat 512 (s.readMem (e + 0x1C0) 64) &&& tcfgKeep }

/-- Cluster `k` loads the record at `a`; its maps become the committed maps (R314). -/
def State.loadRecord (s : State) (k a : Nat) : State :=
  let m := s.headerMaps a
  let s1 := s.modCluster k (fun cl => { cl with pendingMaps := m, maps := m, mapsFrom := none, commit := none })
  (List.range 16).foldl (fun t i => t.setCore (16 * k + i) (t.entryCore (coreEntry a i))) s1

/-- A spur's state changes from held once each of its clusters has rejoined or is parked (R404). -/
def State.spurReleased (s : State) (x : Nat) : State :=
  if s.spurState x = 7 && (List.range 64).all (fun i =>
      (s.cluster (64 * x + i)).phase == .run || (s.cluster (64 * x + i)).phase == .parked) then s.setSpurState x 0
  else s

/-- The bytes of a record or save image. -/
def recordSize : Nat := 8704
/-- The record of cluster `k` at `a` is read, as its cores are allowed to: 0x6002 where it cannot be, 0x6003 where it is not valid, and the
state after; nothing where the read has to wait (R230, R231, R318, R361). -/
def State.recordRead (s : State) (k a : Nat) : Option (Nat × State) :=
  (s.readLines (.core (16 * k)) (touched a recordSize)).map (fun (e, t) =>
    (if e ≠ 0 then 0x6002 else if t.rejoinOk a then 0 else 0x6003, t))
/-- The records of some clusters are read: the code of the first that cannot be loaded. -/
def State.recordsRead (s : State) : List Nat → Option (Nat × State)
  | [] => some (0, s)
  | k :: ks =>
    match s.recordRead k (recordAddr (s.obj 0x5010 0) k) with
    | none => none
    | some (c, t) => (State.recordsRead t ks).map (fun (d, u) => (if c ≠ 0 then c else d, u))
/-- The records of a domain are read for its reload. -/
def State.reloadRead (s : State) (d : Dom) : Option (Nat × State) :=
  ((s.reloading d).recordsRead (domClusters d)).map (fun (c, t) => (c, { t with recovs := s.recovs }))

/-- RELOAD_DONE (R314). -/
def execReloadDone (d : Dom) (s : State) : Out :=
  .next (s.inPhase d .reload (fun _ =>
    match s.reloadRead d with
    | some (0, u) => ((domClusters d).foldl (fun t k => t.loadRecord k (recordAddr (t.obj 0x5010 0) k)) u).setPhase d .rejoin
    | _ => s))

/-- A failed reload or rejoin: a second record, then parking, escalation or Safe Hold (R318). -/
def State.reloadFailed (s : State) (d : Dom) (code : Nat) : State :=
  let s1 := s.recordDom d code
  match d with
  | .saddle _ => s1.startRecovery .module code
  | .module => s1.safeHold
  | _ =>
    let s2 := (domClusters d).foldl (fun t k => t.modCluster k (fun cl => { cl with phase := .parked })) s1
    let s3 := { s2 with recovs := s2.recovs.filter (fun r => r.dom ≠ d), parked := s2.parked ++ [d] }
    ((domClusters d).map clusterSpur).eraseDups.foldl (fun t x => t.spurReleased x) s3

/-- RELOAD_FAILURE. -/
def execReloadFailure (d : Dom) (s : State) : Out :=
  .next (s.inPhase d .reload (fun _ =>
    match s.reloadRead d with
    | some (c + 1, u) => u.reloadFailed d (c + 1)
    | _ => s))

/-- The first frame boundary after beat `b` (R317). -/
def nextFrame (b : Nat) : Nat := (b / 512 + 1) * 512

/-- The cores of a cluster begin issue at beat `f`, all at once (R317). DESIGN CHOICE, log entry 4. -/
def State.startCluster (s : State) (k f : Nat) : State :=
  (coresOf k).foldl (fun t c => t.modCore c (fun q => { q with next := f }))
    (s.modCluster k (fun cl => { cl with phase := .run }))

/-- REJOIN_DONE: boundary points reopen, and the cores begin at their spur's next FBEAT 0; the frame counter of a spur
that was itself reset restarts there (R313, R317). Saddle 7 sends its credit reset (R377), and after a module recovery the
link engine configures its ring cairn (R374). -/
def execRejoinDone (d : Dom) (s : State) : Out :=
  .next (s.inPhase d .rejoin (fun _ =>
    let s1 := (domSpurs d).foldl (fun t x => t.toBeat x (nextFrame (t.beat x))) s
    let s2 := (domClusters d).foldl (fun t k =>
      let b := t.beat (clusterSpur k)
      t.startCluster k (if (domSpurs d).isEmpty then nextFrame b else b)) s1
    let s3 := { s2 with recovs := s2.recovs.filter (fun r => r.dom ≠ d) }
    let s4 := if domSaddle d 7 then s3.creditReset else s3
    let s5 := if d = .module then s4.ringConfig else s4
    ((domClusters d).map clusterSpur).eraseDups.foldl (fun t x => t.spurReleased x) s5))

/-- RELOAD_REJOIN_LIMIT (R318). -/
def execReloadRejoinLimit (d : Dom) (s : State) : Out :=
  .next (match s.recov d with
    | some r => if r.phase = .reload || r.phase = .rejoin then s.reloadFailed d 0x6004 else s
    | none => s)

end Sys2Proof.Machine
end

