-- ==== Sys2Proof/Machine/Cache.lean ====
section
/-! DEFINITION. The cluster cache (R218, R219, R221 to R224): placement, merging, parity, release and acquire actions, and
the sketch buffer's entries (R225 to R227). -/

namespace Sys2Proof.Machine

/-! ### Lines and sets -/

def csetDef (_ : Nat) : List CLine := []
/-- The set of a global line number, most recently used first (R218). -/
def Cluster.cset (cl : Cluster) (line : Nat) : List CLine := mget csetDef cl.cache (line % 64)
def Cluster.setCset (cl : Cluster) (line : Nat) (ls : List CLine) : Cluster :=
  { cl with cache := mset csetDef cl.cache (line % 64) ls }
def Cluster.cfind (cl : Cluster) (line : Nat) : Option CLine := (cl.cset line).find? (fun l => l.line == line)
/-- Every line of the cache. -/
def Cluster.clines (cl : Cluster) : List CLine := cl.cache.flatMap (·.2)
/-- Every line is changed, or dropped. -/
def Cluster.mapLines (cl : Cluster) (f : CLine → Option CLine) : Cluster :=
  { cl with cache := mupd csetDef (fun _ ls => ls.filterMap f) cl.cache }

def CLine.isDirty (l : CLine) : Bool := l.dirty != 0
def CLine.isFull (l : CLine) : Bool := l.valid == BitVec.allOnes 128
/-- The 64-bit words that a byte mask covers, at least in part; the words that it covers only in part. -/
def wordsOf (mask : BitVec 128) : BitVec 16 :=
  BitVec.ofNat 16 (packAll 1 ((List.range 16).map (fun i => if fld mask.toNat (8 * i + 7) (8 * i) = 0 then 0 else 1)))
def partWords (mask : BitVec 128) : BitVec 16 :=
  BitVec.ofNat 16 (packAll 1 ((List.range 16).map (fun i =>
    if fld mask.toNat (8 * i + 7) (8 * i) = 0 || fld mask.toNat (8 * i + 7) (8 * i) = 255 then 0 else 1)))

/-- Bytes of `new` under a mask, the others of `old`. -/
def mergeLine (mask : BitVec 128) (new old : BitVec 1024) : BitVec 1024 :=
  BitVec.ofNat 1024 (mergeN 128 mask.toNat new.toNat old.toNat)

/-- A line at the front of its set, or at its end for class stream (R218). DEDUCED, log entry 29. -/
def placeIn (ls : List CLine) (l : CLine) (stream : Bool) : List CLine := if stream then ls ++ [l] else l :: ls
def Cluster.touch (cl : Cluster) (l : CLine) : Cluster :=
  cl.setCset l.line (l :: (cl.cset l.line).filter (fun x => x.line != l.line))
def Cluster.dropLine (cl : Cluster) (line : Nat) : Cluster :=
  cl.setCset line ((cl.cset line).filter (fun x => x.line != line))

/-- The way for a new line, and the victim that it replaces: the lowest-numbered invalid way, or else the least recently
used one (R218). -/
def wayFor (ls : List CLine) : Nat × Option CLine :=
  match (List.range 8).find? (fun w => !(ls.any (fun l => l.way == w))) with
  | some w => (w, none)
  | none => ((ls.getLast?).elim 0 (·.way), ls.getLast?)

/-! ### Parity (R223) -/

/-- The reset domain of a cluster fires (R174, R306). -/
def State.fireCluster (s : State) (k code : Nat) : State :=
  if h : k < 65536 then s.trigger (.cluster ⟨k, h⟩) code false else s

/-- The line is read in some of its words: it is there, it was clean and is gone, or the cluster's domain fires. -/
inductive Parity where
  | good
  | gone
  | fires
deriving DecidableEq, Repr

def CLine.check (l : CLine) (words : BitVec 16) : Parity :=
  if l.bad &&& words = 0 then .good else if l.isDirty then .fires else .gone

/-- A clean line with a parity error is invalidated and counted. -/
def State.cleanParity (s : State) (k line : Nat) : State :=
  (s.modCluster k (fun cl => cl.dropLine line)).count 0x8001 (ridgeOf (16 * k) + 1)

/-! ### Write-backs -/

/-- A byte-masked write of a cluster leaves for its home, with the class that its sender gives it: a tile row its page's (R226); a
write-back and an ordinary store that of an untranslated access, the model's choice. DESIGN CHOICE, log entry 84. A line that has been
asked for before comes without these bytes: it is not installed, and no later load joins it (R213). DEDUCED, log entry 29. -/
def State.sendWrite (s : State) (k line : Nat) (mask : BitVec 128) (data : BitVec 1024) (who : List Contrib) (tile : Bool)
    (cls : BitVec 2) (t : Nat) : State :=
  (s.modCluster k (fun cl => { cl with misses := cl.misses.map (fun m => { m with old := m.old || m.line == line }) })).sendNew
    (.storePath k who) (.write mask data tile) (w64 (line * 128)) 0 cls t

/-- The dirty bytes of a line go to their home at beat `t`, unless the read of the line finds a parity error (R223). True where it wrote.
Their class is the model's choice. DEDUCED, log entry 29. DESIGN CHOICE, log entry 84. -/
def State.evict (s : State) (k : Nat) (v : Option CLine) (t : Nat) : State × Bool :=
  match v with
  | none => (s, false)
  | some l =>
    if !l.isDirty then (s, false)
    else
      match l.check (BitVec.allOnes 16) with
      | .fires => (s.fireCluster k 0x2001, false)
      | _ => (s.sendWrite k l.line l.dirty l.data [] false Config.untranslatedClass t, true)

/-- A line takes a way of its set. -/
def State.place (s : State) (k : Nat) (l : CLine) (stream : Bool) : State × Bool :=
  let ls := (s.cluster k).cset l.line
  let (w, v) := wayFor ls
  let rest := match v with
    | some x => ls.filter (fun y => y.way != x.way)
    | none => ls
  let s1 := s.modCluster k (fun cl => cl.setCset l.line (placeIn rest { l with way := w } stream))
  s1.evict k v (s.beat (clusterSpur k))

/-! ### Stores and fills -/

/-- Bytes are written into the cache: a hit updates the line, a miss allocates a Partial line (R219, R223). -/
def State.cacheWrite (s : State) (k line : Nat) (mask : BitVec 128) (data : BitVec 1024) (sh stream : Bool) : State :=
  let fresh : CLine :=
    { way := 0, line := line, valid := mask, dirty := mask, data := mergeLine mask data 0, bad := 0, sh := sh }
  match (s.cluster k).cfind line with
  | none => (s.place k fresh stream).1
  | some l =>
    match l.check (partWords mask) with
    | .fires => s.fireCluster k 0x2001
    | .gone => ((s.cleanParity k line).place k fresh stream).1
    | .good =>
      s.modCluster k (fun cl => cl.touch { l with
        valid := l.valid ||| mask, dirty := l.dirty ||| mask, data := mergeLine mask data l.data
        bad := l.bad &&& ~~~(wordsOf mask &&& ~~~partWords mask), sh := l.sh || sh })

/-- A line arrives: it is merged under the dirty mask, and installed where `install` holds (R221, R224). DEDUCED, log entry 29. -/
def State.cacheFill (s : State) (k line : Nat) (data : BitVec 1024) (sh stream install : Bool) : State :=
  match (s.cluster k).cfind line with
  | none =>
    if install then
      (s.place k { way := 0, line := line, valid := BitVec.allOnes 128, dirty := 0, data := data, bad := 0, sh := sh } stream).1
    else s
  | some l =>
    match l.check (wordsOf l.dirty) with
    | .fires => s.fireCluster k 0x2001
    | _ =>
      if install then
        let l' := { l with valid := BitVec.allOnes 128, data := mergeLine l.dirty l.data data, bad := l.bad &&& wordsOf l.dirty
                           sh := l.sh || sh }
        let rest := ((s.cluster k).cset line).filter (fun x => x.line != line)
        s.modCluster k (fun cl => cl.setCset line (placeIn rest l' stream))
      else s

/-! ### Release and acquire actions (R222) -/

/-- Dirty bytes of the lines that `which` selects are written back, one line in a beat from `t0` on: a Dirty line becomes Clean, a Partial
one Invalid (R284). -/
def State.writeBack (s : State) (k : Nat) (which : CLine → Bool) (t0 : Nat) : State :=
  let go (t : State) (x : CLine × Nat) : State := (t.evict k (some x.1) (t0 + x.2)).1
  let s1 := (((s.cluster k).clines).filter (fun l => which l && l.isDirty)).zipIdx.foldl go s
  s1.modCluster k (fun cl => cl.mapLines (fun l =>
    if which l && l.isDirty then (if l.isFull then some { l with dirty := 0 } else none) else some l))

/-- Room for a fill of `line`: where the victim holds dirty bytes they leave for their home, and the fill waits until the write of
the number given has been accepted (R221). DEDUCED, log entry 29. -/
def State.clearWay (s : State) (k line : Nat) : State × Option Nat :=
  let cl := s.cluster k
  match cl.cfind line, (wayFor (cl.cset line)).2 with
  | none, some v =>
    if v.isDirty then
      let s1 := s.writeBack k (fun l => l.line == v.line) (s.beat (clusterSpur k))
      (s1, if s.nextId < s1.nextId then some s.nextId else none)
    else (s, none)
  | _, _ => (s, none)

/-- The scan of the release and acquire actions (R284). -/
def scanBeats : Nat := 64
/-- A release that begins at beat `t` scans the cache and writes back every SH = 1 line. -/
def State.releaseActions (s : State) (k t : Nat) : State := s.writeBack k (·.sh) (t + scanBeats)

/-- Clean bytes of every SH = 1 line are dropped, and fills of such lines that were requested before are not installed.
DEDUCED, log entry 28. -/
def Cluster.acquireActions (cl : Cluster) : Cluster :=
  let c1 := cl.mapLines (fun l =>
    if l.sh then (if l.isDirty then some { l with valid := l.dirty } else none) else some l)
  { c1 with misses := c1.misses.map (fun m => { m with old := m.old || m.sh }) }

/-- The local copy of a granule is written back if it is dirty, and invalidated (R140). True where it wrote. -/
def State.dropLocal (s : State) (k line : Nat) : State × Bool :=
  match (s.cluster k).cfind line with
  | none => (s, false)
  | some l =>
    let (s1, wrote) := s.evict k (some l) (s.beat (clusterSpur k))
    (s1.modCluster k (fun cl => cl.dropLine line), wrote)

/-! ### The sketch buffer -/

def Cluster.skFind (cl : Cluster) (line : Nat) : Option Sketch :=
  cl.sketch.find? (fun e => e.line == line && e.st != .invalid)

/-- An entry becomes Empty by use or replacement: the holder's release leaves for the plinth (R229). -/
def State.skRelease (s : State) (k line : Nat) : State :=
  s.sendNew (.sketch k false) (.sketchRelease line) (w64 (line * 128)) 0 0 0

/-- Room for one entry: Empty, else Invalid, else the oldest-allocated one, whose line is dropped (R225). -/
def State.skRoom (s : State) (k : Nat) : State :=
  let cl := s.cluster k
  if cl.sketch.length < 64 then s
  else
    match takeFirst (fun (e : Sketch) => e.st == .invalid) cl.sketch with
    | some (_, rest) => s.setCluster k { cl with sketch := rest }
    | none =>
      match cl.sketch with
      | [] => s
      | e :: rest => (s.setCluster k { cl with sketch := rest }).skRelease k e.line

/-- One line is prefetched (R225, R226). DEDUCED, log entry 30. -/
def State.skFetch (s : State) (k line : Nat) (cls hint : BitVec 2) : State :=
  let cl := s.cluster k
  let whole := match cl.cfind line with
    | some l => l.isFull
    | none => false
  if whole || (cl.skFind line).isSome then s
  else
    let s1 := s.skRoom k
    let (r, s2) := s1.request (.sketch k false) (.prefetch false hint) (w64 (line * 128)) 0 cls 0
    (s2.modCluster k (fun c => { c with sketch := c.sketch ++ [{ line := line, st := .pending, id := r.id, data := 0 }] })).send r

end Sys2Proof.Machine
end

