-- ==== Sys2Proof/Machine/Power.lean ====
section
/-! DEFINITION. The power controller: the input (R378 to R382), power states, entry and wake (R383 to R399), cadence and
generators (R274 to R276, R384, R385, R400), brownout (R401, R402), start-up (R403 to R406), and temperatures (R469 to
R471). The writes that ask for these things come through the dictionary. -/

namespace Sys2Proof.Machine

/-! ### Small parts -/

def State.modPower (s : State) (f : Power → Power) : State := { s with power := f s.power }
def State.modEntry (s : State) (f : Entry → Entry) : State :=
  s.modPower (fun p => { p with entry := p.entry.map f })
/-- The module state (R385). -/
def State.mstate (s : State) : Nat := s.obj 0x2010 0
def State.setMstate (s : State) (v : Nat) : State := s.setObj 0x2010 0 v
/-- A supply flag is set (R382). DEDUCED, log entry 59. -/
def State.supplyFlag (s : State) (n : Nat) : State := s.setObj 0x2001 1 (s.obj 0x2001 1 ||| 2 ^ n)

/-! ### Off, and the last gasp (R381, R403, R406, R409) -/

/-- A last-gasp record joins the newest 16. DEDUCED, log entry 60. -/
def State.gasp (s : State) (cause : Nat) : State :=
  let v : Nat := s.power.lastMv.toNat
  let rec16 : List Byte := natBytes 4 v ++ [BitVec.ofNat 8 cause, BitVec.ofNat 8 s.mstate] ++ List.replicate 10 0
  { s with flash := { s.flash with gasps := (rec16 :: s.flash.gasps).take 16 } }

/-- The module is Off: the flash, the fuses and the signing state are kept (R383, R447); an update that is cut short leaves the slot it
has erased invalid (R445). `latched` where the input is still there. -/
def State.turnOff (s : State) (latched : Bool) : State :=
  { State.reset with
    pending := s.pending, fresh := s.fresh, nextId := s.nextId, flash := s.flash, fuses := s.fuses
    power := { latched := latched, lastMv := s.power.lastMv } }

/-- The objects that keep their value from one start to the next (R416). DEDUCED, log entry 68. -/
def storedObj (key : Nat) : Bool :=
  let i := key / 256
  ((i = 0x4400 || i = 0x4401) && 1 ≤ key % 256 && key % 256 ≤ 7) || i = 0x4030 || i = 0x4031 || key = okey 0x9001 1 || key = okey 0x9010 5

/-- A setting of a management port that APPLY takes into use (R419). -/
def portSetting (key : Nat) : Bool :=
  (key / 256 = 0x4400 || key / 256 = 0x4401) && 1 ≤ key % 256 && key % 256 ≤ 7

/-- A copy of a reservation point; whether its CRC is right. -/
def rpCopy (q : Nat) : RpCopy := { rp := q, crc := crcOver poly32c 32 (natBytes 5 q) }
def RpCopy.valid (x : RpCopy) : Bool := x.crc = crcOver poly32c 32 (natBytes 5 x.rp)
/-- The reservation point of the signing unit: the higher of the valid copies (R447). -/
def Flash.point (f : Flash) : Option Nat :=
  match f.rpA.valid, f.rpB.valid with
  | true, true => some (Nat.max f.rpA.rp f.rpB.rp)
  | true, false => some f.rpA.rp
  | false, true => some f.rpB.rp
  | false, false => none

/-- The signing unit resumes at the reservation point of a start: a tree is due where it begins one (R447, R448). -/
def State.resumeSigning (s : State) : State :=
  let q := s.flash.point.getD 0
  { s with signQ := q, treeDue := q ≠ 0 && q % 2 ^ 20 = 0 }
/-- A start-up is abandoned: everything but the summit and the refuge is powered down (R403). DEDUCED, log entries 60, 63. -/
def State.abandonStart (s : State) : State :=
  let t := s.safeHold.setMstate 1
  t.modPower (fun p => { p with abandoned := true, startStep := 4 })

/-! ### Stop points (R388) -/

/-- Every result that is present takes effect. -/
def State.landRest (s : State) (c : Nat) : State :=
  s.landIf c (fun p => p.tag.isNone)

/-- A transfer ends at a row boundary at beat `b`, with its progress recorded; what the rows bring that have been requested is discarded
as it comes, and their entries stay in the queue; the beats since its beginning were frozen (R103, R104, R116, R184). -/
def Core.stopXfer (k : Core) (b : Nat) : Core :=
  match k.xfer with
  | none => k
  | some x =>
    let v := 2 ^ 15 + x.tn.toNat * 2 ^ 12 + (if x.load then 0 else 1) * 2 ^ 10 + x.moved % 32
    { k with
      xfer := none
      tprog := w64 v
      fcnt := k.fcnt + (b - k.next)
      next := Nat.max k.next b }

/-- A boundary at which a core may be stopped or interrupted, a row boundary of a transfer among them (R104, R183). -/
def Core.atBoundary (k : Core) (b : Nat) : Bool :=
  k.boundary b ||
    (k.xfer.isSome && k.frozen.isNone && k.exc.isNone && k.stopped.isNone && k.openAt (k.active k.next))

/-- A core that has been told to stop does so if it stands at a boundary. -/
def State.tryStop (s : State) (c : Nat) : State :=
  let s := s.moveOver c
  let k := s.core c
  let b := Nat.max (s.beat (coreDomain c)) k.next
  if k.stopped.isNone && k.atBoundary b then
    s.modCore c (fun q => { q.stopXfer b with stopped := some b })
  else s

/-- A stopped core resumes issue, as from a freeze at its stop point (R117). -/
def State.resume (s : State) (c : Nat) : State :=
  s.modCore c (fun k =>
    match k.stopped with
    | none => k
    | some b =>
      let e := sameParity b (Nat.max b (s.beat (coreDomain c)))
      { k with stopped := none, fcnt := k.fcnt + (e - b), next := e })

def State.resumeCluster (s : State) (k : Nat) : State := (coresOf k).foldl (fun t c => t.resume c) s
/-- Whether the debugger holds a cluster at its stop points (R453). -/
def State.haltHolds (s : State) (k : Nat) : Bool := s.halted.elim false (fun h => h.val = k)

/-- Whether a request of cluster `k` is unanswered, wherever it is. -/
def clusterSrc (k : Nat) (x : Src) : Bool :=
  match x with
  | .core c => !coreBoot c && clusterOf c = k
  | .cluster j => j = k
  | .storePath j _ => j = k
  | .sketch j _ => j = k
  | _ => false
def State.clusterOpen (s : State) (k : Nat) : Bool :=
  s.reqs.any (fun r => clusterSrc k r.src) || s.resend.any (fun r => clusterSrc k r.src)
  || s.remote.any (fun e => clusterSrc k e.2.src) || s.epochHeld.any (fun r => clusterSrc k r.src)
  || s.answers.any (fun a => clusterSrc k a.dst) || s.saddles.any (fun e => e.2.outlet.any (fun a => clusterSrc k a.dst))
  || s.plinths.any (fun e => e.2.slots.any (fun x => x.waits.any (fun r => clusterSrc k r.src))
      || e.2.refused.any (fun t => clusterSrc k t.req.src)
      || e.2.nmcQ.any (fun r => clusterSrc k r.src) || e.2.nmcWait.any (fun t => clusterSrc k t.req.src)
      || e.2.nmcDone.elim false (fun d => clusterSrc k d.1.src))

/-- Whether a core has stopped with nothing in its queues. -/
def Core.atRest (k : Core) : Bool := k.stopped.isSome && k.memQ.isEmpty && k.syncQ.isEmpty

/-- Whether a cluster has nothing left to do but its quiesce (R387). -/
def State.clusterDrained (s : State) (k : Nat) : Bool :=
  (coresOf k).all (fun c => (s.core c).atRest) && (s.cluster k).storePath.isEmpty && (s.cluster k).misses.isEmpty
  && !s.clusterOpen k

/-! ### Save images (R389, R393) -/

/-- The 64 words of a core entry of a save image. -/
def imageEntry (k : Core) (valid : Bool) : List Nat :=
  [valid.toNat, k.pc.toNat] ++ (List.range 31).map (fun i => (k.sreg (BitVec.ofNat 5 (i + 1))).toNat)
  ++ [k.stat.toNat, k.saveS.ivec.toNat, k.saveM.ivec.toNat, k.saveS.scratch.toNat, k.saveM.scratch.toNat, k.atb.toNat,
      k.asid.toNat, k.fctl.toNat, k.vcfg.toNat, k.lcnt.toNat, k.lbeg.toNat, k.lend.toNat,
      k.saveS.pc.toNat, k.saveS.st.toNat, k.saveS.cause.toNat, k.saveS.faultv.toNat, k.saveS.aux.toNat,
      k.saveM.pc.toNat, k.saveM.st.toNat, k.saveM.cause.toNat, k.saveM.faultv.toNat, k.saveM.aux.toNat, k.tprog.toNat]
  ++ (List.range 8).map (fun i => fld k.tcfg.toNat (64 * i + 63) (64 * i))

/-- The 64 words of a header: the committed maps. -/
def imageHeader (m : Maps) : List Nat :=
  [m.csmap.toNat, m.csctl.toNat] ++ (List.range 4).map (fun i => (m.cqmap.getD i 0).toNat)
  ++ (List.range 4).map (fun i => (m.cqctl.getD i 0).toNat) ++ List.replicate 54 0

/-- The spur has come to the last write of the canvas for a core, and every result has taken effect (R388). -/
def State.finishCore (s : State) (c : Nat) : State :=
  let s1 := s.landRest c
  match (s1.core c).lastWrite with
  | some w => (s1.toBeat (coreDomain c) (w + 1)).modCore c (fun k => k.canvasTo (w + 1))
  | none => s1

/-- The first steps of a quiesce: dirty bytes leave for their home, and the sketch buffer is emptied (R389). -/
def State.goHome (s : State) (k : Nat) : State :=
  let s1 := (coresOf k).foldl (fun t c => t.finishCore c) s
  let s2 := s1.writeBack k (fun _ => true) (s1.beat (clusterSpur k))
  (((s2.cluster k).sketch).foldl (fun t e => if e.st = .invalid then t else t.skRelease k e.line) s2).modCluster k (fun cl =>
    { cl with sketch := [], storePath := [] })
/-- The last one: the save image is written, as its cluster may write (R228, R361). -/
def State.writeImage (s : State) (k : Nat) : State :=
  let ws := imageHeader (s.cluster k).maps ++ (coresOf k).flatMap (fun c => imageEntry (s.core c) (s.core c).atRest)
  let (made, s1) := s.writeAs (.core (16 * k)) (recordAddr (s.obj 0x2030 0) k) (ws.flatMap (natBytes 8))
  if made then s1.modCluster k (fun cl => { cl with phase := .quiesced }) else s1
/-- Whether a write-back or a release of a cluster has not been accepted by its home. -/
def State.homeward (s : State) (k : Nat) : Bool :=
  (s.openReqs ++ s.farReqs).any (fun r => (isStore r || (match r.kind with
    | .sketchRelease _ => true
    | _ => false)) && clusterSrc k r.src && !s.abandoned.contains r.id)
/-- A cluster quiesces: the image follows once the homes have what has left before it (R389). -/
def State.quiesce (s : State) (k : Nat) : State :=
  let s1 := s.goHome k
  if s1.homeward k then s1 else s1.writeImage k

/-- The V bits of an image are cleared (R390, R407). -/
def State.clearImage (s : State) (k : Nat) : State :=
  (List.range 16).foldl (fun t i => t.writeAtOnce (.core (16 * k)) (coreEntry (recordAddr (t.obj 0x2030 0) k) i) [0]) s

/-! ### Entry (R386 to R391) -/

/-- KIND and INDEX of a block in 0x2020:05. -/
def blockCode : Block → Nat
  | .cluster k => k.val
  | .ridge r => 2 * 65536 + r.val
  | .saddle n => 3 * 65536 + n.val
  | .plinth p => 5 * 65536 + p.val

/-- Whether a block belongs to the group that a stage asks. -/
def Entry.asks (e : Entry) : Block → Bool
  | .cluster k => e.stage = 2 && e.spurs.contains (clusterSpur k.val)
  | .ridge _ => e.stage = 3
  | .saddle _ => e.stage = 1 || e.stage = 4
  | .plinth _ => e.stage = 1 || e.stage = 5
def Entry.groupSize (e : Entry) : Nat :=
  match e.stage with
  | 1 => 40
  | 2 => 64 * e.spurs.length
  | 3 => 16
  | 4 => 8
  | 5 => 32
  | _ => 0
/-- The stage after all blocks of one have accepted: only Hold asks more than the clusters. -/
def Entry.nextStage (e : Entry) : Nat := if e.stage = 2 && !e.hold then 6 else e.stage + 1
def Entry.blocks (e : Entry) : Nat := 64 * e.spurs.length + (if e.hold then 56 else 0)

/-- Once every block of the group has accepted the next one is asked, or the blocks are shut down (R387). -/
def Entry.advance (e : Entry) : Entry :=
  if 1 ≤ e.stage && e.stage ≤ 5 && e.accepted.length = e.groupSize then { e with accepted := [], delayed := [], stage := e.nextStage } else e

/-- Spurs of an entry show a state; a held spur keeps reading 7, one in Nap 5, and one that powers up 6 (R390, R404). -/
def State.entrySpurs (s : State) (v : Nat) : State :=
  match s.power.entry with
  | none => s
  | some e => e.spurs.foldl (fun t d => if 5 ≤ t.spurState d then t else t.setSpurState d v) s

/-- The palette lines that compatibility retention keeps as the power goes, those of the vector file among them: the model's choice (R394,
R398). DESIGN CHOICE, log entry 92. -/
def State.keptLines (s : State) (c : Nat) : Map Line :=
  if s.obj 0x2031 1 = 1 then (s.core c).lines.filter (fun e => bitAt (s.obj 0x2031 2) (keyBank e.1)) else []
/-- The cache lines that it keeps. -/
def State.keptCache (s : State) (k : Nat) : Map (List CLine) :=
  if s.obj 0x2031 1 = 1 then mupd csetDef (fun _ ls => ls.filter (fun l => bitAt (s.obj 0x2031 3) l.way)) (s.cluster k).cache else []
/-- The rails of the clusters that `which` selects fall: of their palette and cache what is retained then is left (R391, R394). -/
def State.loseRest (s : State) (which : Nat → Bool) : State :=
  { s with
    cores := mupd coreDef (fun c k => if !coreBoot c && which (clusterOf c) then { k with lines := s.keptLines c, k := [] } else k) s.cores
    clusters := mupd clusterDef (fun k cl => if which k then { cl with cache := s.keptCache k, sketch := [] } else cl) s.clusters }

/-- A cluster that an entry had quiesced or stopped returns to Run. -/
def State.returnCluster (s : State) (k : Nat) : State :=
  if s.haltHolds k then s
  else if (s.cluster k).phase == .quiesced then
    ((s.clearImage k).modCluster k (fun cl => { cl with phase := .run })).resumeCluster k
  else s.resumeCluster k

/-- Some spurs of an entry go back to Run: a block that is not clamped as it stood, one that is through its restore, with its spur powering
up; a held spur keeps reading 7 (R390, R404, R407). DEDUCED, log entries 52, 61. -/
def State.spursBack (s : State) (e : Entry) (ds : List Nat) : State :=
  let clamped (k : Nat) : Bool := e.shut.any (fun b => match b with
    | .cluster x => x.val = k
    | _ => false)
  let s1 := (s.clusters.filter (fun x => ds.contains (clusterSpur x.1) && !clamped x.1)).foldl (fun t x => t.returnCluster x.1) s
  ds.foldl (fun t d =>
    let lost := (List.range 64).any (fun i => clamped (64 * d + i) && (t.cluster (64 * d + i)).phase == .quiesced)
    if t.spurState d = 7 then t
    else if lost then (t.loseRest (fun k => clusterSpur k = d && clamped k)).setSpurState d 6
    else t.setSpurState d 0) s1

/-- An entry is abandoned with an outcome and the block that stopped it (R390). -/
def State.abandonEntry (s : State) (outcome block : Nat) : State :=
  match s.power.entry with
  | none => s
  | some e =>
    let s1 := s.modPower (fun p => { p with entry := none })
    let s2 := s1.spursBack e (e.spurs.filter (fun d => s1.spurState d ≠ 5 && s1.spurState d ≠ 6))
    let s3 := (s2.setObj 0x2020 4 outcome).setObj 0x2020 5 block
    if e.hold then (if 1 ≤ e.stage && s3.ringOn then (s3.setMstate 2).cancelLinkWait.linkWait else s3.setMstate 2) else s3

/-- The block of an entry that stands for a domain in which a recovery begins: its first cluster, or its saddle (R408). DEDUCED, log entry
61. -/
def Entry.blockIn (e : Entry) (d : Dom) : Option Nat :=
  match (domClusters d).find? (fun k => e.spurs.contains (clusterSpur k)), d with
  | some k, _ => some k
  | none, .saddle n => if e.hold then some (3 * 65536 + n.val) else none
  | none, _ => none
/-- A recovery begins in a domain that an entry asks, or has asked: its block refuses, and the entry is abandoned; a brownout goes on
(R401, R408). -/
def State.entryRefuses (s : State) (d : Dom) : State :=
  match s.power.entry with
  | none => s
  | some e =>
    match e.blockIn d with
    | some b => if 1 ≤ e.stage && e.stage ≤ 6 && !s.power.brownoutSaved then s.abandonEntry 2 b else s
    | none => s

/-- RECOVERY_TRIGGER (R306, R307, R408). -/
def execRecoveryTrigger (d : Dom) (code : BitVec 16) (s : State) (same : Bool := false) : Out :=
  .next (if s.triggerOk d code.toNat && !s.domClamped d then (s.trigger d code.toNat same).entryRefuses d else s)

/-- An entry begins with its preparation window: the summit request of every core of the spurs (R386). -/
def State.startEntry (s : State) (e : Entry) : State :=
  let s1 := s.modPower (fun p => { p with entry := some e })
  let s2 := if e.hold then s1.setMstate 3 else s1
  (e.spurs.flatMap (fun d => (List.range 1024).map (1024 * d + ·))).foldl (fun t c => t.setIp c ipSummit) s2

def holdEntry (off restart : Bool) (stage : Nat) : Entry :=
  { hold := true, off := off, restart := restart, spurs := List.range 1024, stage := stage }

/-- PREP_WINDOW_END (R387). -/
def execPrepWindowEnd (s : State) : Out :=
  match s.power.entry with
  | some e =>
    if e.stage = 0 then
      .next ((s.modEntry (fun x => { x with stage := if e.hold then 1 else 2 })).entrySpurs 2)
    else .next s
  | none => .next s

/-- How a block answers. -/
inductive BAnswer where
  | accept | refuse | delay
deriving DecidableEq, Repr

/-- Whether a cluster has a WAITC that has been sent and not answered. -/
def State.clusterWaits (s : State) (k : Nat) : Bool :=
  (coresOf k).any (fun c => (s.core c).memQ.any (fun q => qWaits q && q.sent) || (s.core c).syncQ.any (fun q => qWaits q && q.sent))

/-- What a saddle refuses for (R387, R408). DEDUCED, log entry 61. -/
def State.saddleRefuses (s : State) (n : Nat) : Bool :=
  s.rstate ≠ 0 || s.saddleFenced n
  || s.cairns.any (fun e => saddleOfCairn e.1 = n && !e.2.waiters.isEmpty)
  || (n = 7 && (s.host.bursts.any (fun e => e.2.st ≠ .none) || !s.host.out.isEmpty || !s.host.descs.isEmpty))

def State.plinthBusy (s : State) (p : Nat) : Bool :=
  let q := s.plinth p
  !q.slots.isEmpty || !q.refused.isEmpty || !q.nmcQ.isEmpty || !q.nmcWait.isEmpty || q.nmcDone.isSome
  || s.reqs.any (fun r => atPlinth p r || isNmcAt p r)

/-- The ridge rim through which a cluster's requests and answers pass; that of a per-core block (R12). -/
def srcRidge : Src → Option Nat
  | .core c => if coreBoot c then none else some (ridgeOf c)
  | .cluster k => some (k / 4096)
  | .storePath k _ => some (k / 4096)
  | .sketch k _ => some (k / 4096)
  | _ => none
def reqRidge (r : Req) : Option Nat :=
  match r.kind, regionOf (localOf r.addr) with
  | .invalidate _ _, _ => some (r.ident.toNat / 4096)
  | _, .coreBlock c _ => if coreBoot c then none else some (ridgeOf c)
  | _, _ => none
/-- The answer of a block to the question of a stage. -/
def State.answerOfBlock (s : State) (stage : Nat) : Block → BAnswer
  | .cluster k =>
    let ph := (s.cluster k).phase
    if s.clusterFenced k || s.halted = some k || s.clusterWaits k then .refuse
    else if ph == .parked || ph == .held then .accept
    else if ph == .quiesced && !s.clusterOpen k then .accept else .delay
  | .ridge r =>
    if s.reqs.any (fun x => srcRidge x.src = some r.val || (s.isLocal x.addr && reqRidge x = some r.val))
        || s.answers.any (fun a => srcRidge a.dst = some r.val) then .delay
    else .accept
  | .saddle n =>
    if s.saddleRefuses n then .refuse
    else if stage = 4 && ((List.range 4).any (fun i => s.plinthBusy (4 * n + i)) || s.reqs.any (forUnit n)
        || s.remote.any (fun e => srcSaddle e.2 = n) || !(s.saddle n).outlet.isEmpty) then .delay
    else .accept
  | .plinth p =>
    if stage = 1 then .accept
    else if s.plinthBusy p || (s.plinth p).msc.any (fun e => e.2.any (·.dirty)) then .delay
    else .accept

/-- Dirty lines of a memory-side cache take slots of the sorter, to be written back (R231, R387). -/
def Plinth.flush (q : Plinth) (p : Nat) : Plinth :=
  let q1 := q.msc.foldl (fun (x : Plinth) e => e.2.foldl (fun (y : Plinth) l =>
    if l.dirty then y.writeSlot (mscLine p e.1 l.tag) else y) x) q
  { q1 with msc := mupd mscDef (fun _ ls => ls.map (fun l => { l with dirty := false })) q1.msc }

/-- A saddle's cairn states go to the refuge (R394). -/
def State.cairnsToRefuge (s : State) (n : Nat) : State :=
  let mine := s.cairns.filter (fun e => saddleOfCairn e.1 = n)
  let rest := s.refuge.filter (fun e => saddleOfCairn e.1 ≠ n)
  { s with refuge := mine.foldl (fun m e => mset cairnDef m e.1 e.2) rest }

def portDef (_ : Nat) : PortKept := {}
/-- The state of a saddle's port or link goes to the refuge (R394), and comes back (R396). -/
def State.portToRefuge (s : State) (l : Nat) : State :=
  let k : PortKept := { partner := s.obj (linkState l) 3, crossing := s.obj (linkState l) 2, credit := (s.link l).credit,
                        routes := s.tableOf (if l < 6 then l else 7) }
  { s with refugePorts := mset portDef s.refugePorts l k }
def State.portFromRefuge (s : State) (l : Nat) : State :=
  let k := mget portDef s.refugePorts l
  let s1 := if l < 6 then ((s.setObj (0x4200 + l) 3 k.partner).setObj (0x4200 + l) 2 k.crossing).setObj 0x4010 0 k.routes else s
  s1.modLink l (fun x => { x with credit := k.credit })
def State.linkToRefuge (s : State) (n : Nat) : State := (saddleLink n).elim s s.portToRefuge

/-- What a block does as it accepts. -/
def State.acceptBlock (s : State) (stage : Nat) : Block → State
  | .saddle n => if stage = 4 then (s.cairnsToRefuge n).linkToRefuge n else s
  | .plinth p => if stage = 5 then s.modPlinth p (fun q => { q with msc := [] }) else s
  | _ => s

/-- What a block does as it is asked: a cluster's cores stop, a plinth writes its dirty lines back, and the link engine on
saddle 7 cancels its wait (R374). -/
def State.askBlock (s : State) (stage : Nat) : Block → State
  | .saddle n => if stage = 1 && n = 7 then s.cancelLinkWait else s
  | .cluster k => if (s.cluster k).phase == .run then (coresOf k).foldl (fun t c => t.tryStop c) s else s
  | .plinth p => if stage = 5 then s.modPlinth p (fun q => q.flush p) else s
  | .ridge _ => s

/-- BLOCK_ANSWER (R387, R390, R462). -/
def execBlockAnswer (b : Block) (s : State) : Out :=
  match s.power.entry with
  | none => .next s
  | some e =>
    if !e.asks b || e.accepted.contains b || e.delayed.contains b then .next s
    else if s.bist.run && s.bist.direct then .next (s.abandonEntry 2 (6 * 65536))
    else
      let s1 := s.askBlock e.stage b
      match s1.answerOfBlock e.stage b with
      | .refuse => .next (s1.abandonEntry 2 (blockCode b))
      | .delay =>
        if s1.obj 0x2020 3 ≤ e.delays.count b then .next (s1.abandonEntry 3 (blockCode b))
        else .next (s1.modEntry (fun x => { x with delayed := b :: x.delayed, delays := b :: x.delays }))
      | .accept => .next ((s1.acceptBlock e.stage b).modEntry (fun x => { x with accepted := b :: x.accepted }.advance))

/-- BLOCK_DELAY_EXPIRY (R387). -/
def execBlockDelayExpiry (b : Block) (s : State) : Out :=
  .next (s.modEntry (fun e => { e with delayed := e.delayed.filter (· ≠ b) }))

/-- Whether every cluster is out of the way, so that the blocks are clamped. -/
def State.allQuiet (s : State) : Bool := s.clusters.all (fun e => e.2.phase != .run)

/-- Listed waiters are removed; cairn states and port states go to the refuge (R401). -/
def State.brownoutSaddles (s : State) : State :=
  (List.range 8).foldl (fun t n => t.linkToRefuge n)
    { s with refuge := mupd cairnDef (fun _ q => { q with waiters := [] }) s.cairns }

/-- Once every cluster is out of the way, saddles and plinths follow and the blocks are shut down (R401). -/
def State.brownoutQuiet (s : State) : State :=
  if s.allQuiet then s.brownoutSaddles.modEntry (fun e => { e with stage := 6 }) else s

/-- A spur of which a cluster quiesces reads so; a held one keeps reading 7. -/
def State.spurQuiesces (s : State) (d : Nat) : State := if s.spurState d = 7 then s else s.setSpurState d 3

/-- CLUSTER_QUIESCE (R389, R401): in a brownout a core that has not come to rest is written with V = 0. -/
def execClusterQuiesce (k : ClusterId) (s : State) : Out :=
  match s.power.entry with
  | none => .next s
  | some e =>
    if !e.spurs.contains (clusterSpur k) || (s.cluster k).phase != .run then .next s
    else if e.stage = 2 then
      let s1 := (coresOf k).foldl (fun t c => t.tryStop c) s
      if s1.clusterDrained k then .next ((s1.quiesce k).spurQuiesces (clusterSpur k)) else .next s1
    else if e.stage = 7 || e.stage = 8 then
      let s1 := (coresOf k).foldl (fun t c => t.tryStop c) s
      if s1.clusterDrained k || e.stage = 8 then .next ((s1.quiesce k).spurQuiesces (clusterSpur k)).brownoutQuiet else .next s1
    else .next s

/-- ENTRY_LIMIT (R390). -/
def execEntryLimit (s : State) : Out :=
  match s.power.entry with
  | none => .next s
  | some e =>
    if 1 ≤ e.stage && e.stage ≤ 5 then
      .next (s.abandonEntry 3 (match e.delayed with
        | b :: _ => blockCode b
        | [] => 0))
    else .next s

/-! ### Shut down, and what follows -/

/-- Start-up runs on from a step with only the summit and the refuge powered, and its generators in fixed cadence; the signing unit resumes
at its reservation point (R400, R405, R447). -/
def State.startFrom (s : State) (step : Nat) : State :=
  let s1 := (((s.safeHold.setMstate 1).setObj 0x2015 0 0).modPower (fun p => { p with startStep := step, abandoned := false })).resumeSigning
  if s1.bist.direct then s1 else { s1 with bist := { s1.bist with run := false } }

/-- The varnish pass of an orderly Off begins, with nothing kept (R406, R461); in Blank and Retired there is none, and the switch opens
behind the last-gasp record (R436). -/
def State.startPass (s : State) : State :=
  let keep := decide (s.obj 0x2041 0 = 1)
  if s.fuses.lc = 0 || s.fuses.lc = 5 then ((s.safeHold.setMstate 7).gasp 4).turnOff true
  else
  { ((s.safeHold.setMstate 7).setObj 0x4300 1 (if keep then s.obj 0x4300 1 else 0)) with
    links := s.links.filter (fun e => e.1 = 6 && keep)
    bist := { run := true, direct := false, first := 0, last := 1271, bcmd := s.bist.bcmd, done := false, outcome := 0, results := [] } }

/-- The generators whose power goes with Hold take the state in which they will start again; a saddle core's goes on in fixed cadence
(R383, R385, R396). -/
def State.holdGenerators (s : State) : State :=
  { s with domains := mupd domainDef (fun d g =>
      if 0x410 ≤ d && d < 0x418 then g.setCad 0
      else if d ≤ lastGenerator then { g with cad := 0, cadBefore := 0, rate := 0, armed := false } else g) s.domains }

/-- Whether the save images of a spur are valid: of the clusters that have quiesced, each has V = 1 in every entry (R394). DEDUCED, log
entry 62. -/
def State.spurImages (s : State) (d : Nat) : Bool :=
  let mine := ((List.range 64).map (64 * d + ·)).filter (fun k => (s.cluster k).phase == .quiesced)
  !mine.isEmpty && mine.all (fun k => (List.range 16).all (fun i => s.word (coreEntry (recordAddr (s.obj 0x2030 0) k) i) = 1))
/-- The clusters of recoveries that a brownout cuts off go into Hold with no image (R401, R408). DEDUCED, log entry 60. -/
def State.recoveriesEnd (s : State) : State :=
  (s.recovs.flatMap (fun r => domClusters r.dom)).foldl (fun t k =>
    (t.clearImage k).modCluster k (fun cl => { cl with phase := .quiesced })) { s with recovs := [] }

/-- Every block is shut down: Nap is reached, or Hold, or what Hold was entered for. DESIGN CHOICE, log entry 77. -/
def State.entryDone (s0 : State) (e : Entry) : State :=
  let r := if e.hold then s0.recoveriesEnd else s0
  let s := { r.loseRest (fun k => e.spurs.contains (clusterSpur k) && r.spurState (clusterSpur k) ≠ 5) with
    saveDir := (List.range 1024).filter (fun d => if e.spurs.contains d then r.spurImages d else r.saveDir.contains d) }
  let s1 := (s.modPower (fun p => { p with entry := none })).setObj 0x2020 4
    (if s.power.brownoutSaved || e.aborted then s.obj 0x2020 4 else 1)
  let s2 := (e.spurs.foldl (fun t d => if t.spurState d = 7 then t else t.setSpurState d 5) s1).modPower (fun p =>
    { p with gated := p.gated ++ e.spurs.filter (fun d => s1.spurState d = 7 && !p.gated.contains d) })
  if !e.hold then s2
  else
    let s3 := { (s2.linksOff (decide (s2.obj 0x2041 0 = 1))).holdGenerators with
      cairns := [], plinths := [], saddles := [], reqs := [], answers := [], remote := [], resend := []
      epochHeld := [], epochTable := none, abandoned := [] }
    if e.off then s3.startPass
    else if e.restart then ((s3.setMstate 7).gasp 4).startFrom 3
    else s3.setMstate 4

/-- The entry ends once every block is shut down. -/
def State.allShut (s : State) : State :=
  match s.power.entry with
  | some e => if e.stage = 6 && e.shut.length = e.blocks then s.entryDone e else s
  | none => s

/-- A spur's entry to Nap is withdrawn, by a request or a wake source: its blocks go back, and the others' entry goes on (R407). -/
def State.withdraw (s : State) (d : Nat) : State :=
  match s.power.entry with
  | none => s
  | some e =>
    if e.hold || !e.spurs.contains d then s
    else
      let other (b : Block) : Bool := match b with
        | .cluster k => clusterSpur k.val ≠ d
        | _ => true
      let e1 := { e with
        spurs := e.spurs.filter (· ≠ d), accepted := e.accepted.filter other, delayed := e.delayed.filter other
        delays := e.delays.filter other, shut := e.shut.filter other, aborted := true }
      ((((s.spursBack e [d]).setObj 0x2020 4 4).modPower (fun p =>
        { p with entry := if e1.spurs.isEmpty then none else some e1.advance }))).allShut

/-- BLOCK_SHUTDOWN: clamps, then rails (R391). -/
def execBlockShutdown (b : Block) (s : State) : Out :=
  match s.power.entry with
  | none => .next s
  | some e =>
    let mine := match b with
      | .cluster k => e.spurs.contains (clusterSpur k)
      | _ => e.hold
    if e.stage ≠ 6 || !mine || e.shut.contains b then .next s
    else
      let s1 := match b with
        | .cluster k => if s.spurState (clusterSpur k) = 7 then s else s.setSpurState (clusterSpur k) 4
        | _ => s
      .next (s1.modEntry (fun x => { x with shut := b :: x.shut })).allShut

/-! ### Restore and wake (R395 to R399, R402) -/

/-- A core of a save image. A level field of 0b10, which no image that the module writes has, loads as the reset value: the model's choice
(R170). DESIGN CHOICE, log entry 93. -/
def State.imageCore (s : State) (e : Nat) : Core :=
  let k := s.entryCore e
  let w (i : Nat) : Word := s.word (e + 0x168 + 8 * i)
  { k with
    stat := fieldUnless (fun m => m = 2) 1 0 3 (keep 0xFFFF0000C003 (s.word (e + 0x108)))
    saveS := { k.saveS with pc := keep maskAddr (w 0), st := savstWrite 0 (w 1), cause := causeWrite 0 (w 2)
                            faultv := w 3, aux := w 4 }
    saveM := { k.saveM with pc := keep maskAddr (w 5), st := savstWrite 0 (w 6), cause := causeWrite 0 (w 7)
                            faultv := w 8, aux := w 9 }
    tprog := keep 0xFC1F (w 10) }

/-- What a restore loads: the image of cluster `k`, where it can be read and every core entry has V = 1 and no member's brownout stands
against it, else its rejoin record; with the code of a record that cannot be loaded (R314, R398, R402). Nothing where a read has to wait.
An image that cannot be read counts as none. DEDUCED, log entry 62. -/
def State.restoreFrom (s : State) (k : Nat) : Option (Bool × Nat × State) :=
  let img := recordAddr (s.obj 0x2030 0) k
  let rej : State → Option (Bool × Nat × State) := fun t =>
    (t.recordRead k (recordAddr (t.obj 0x5010 0) k)).map (fun (c, u) => (false, c, u))
  if s.power.wasMember then rej s
  else match s.readLines (.core (16 * k)) (touched img recordSize) with
  | none => none
  | some (e, t) => if e = 0 && (List.range 16).all (fun i => t.word (coreEntry img i) = 1) then some (true, 0, t) else rej t

/-- A cluster that awaits restore takes its reset values, with what has been retained, and loads its image, or its rejoin record, or is
parked (R398, R402). DEDUCED, log entry 62. -/
def State.restore (s0 : State) (k : Nat) : State :=
  if (s0.cluster k).phase != .quiesced then s0
  else match s0.restoreFrom k with
  | none => s0
  | some (useImg, code, s) =>
    let cache := mupd csetDef (fun _ (ls : List CLine) => ls.filter (fun l => !l.sh)) (s.cluster k).cache
    let fresh : Cluster := { phase := .held, cache := cache, bbase := s.beat (clusterSpur k) }
    let kept (t : State) (c : Nat) (q : Core) : Core :=
      { q with lines := (t.core c).lines, held := (t.core c).held, heldReq := (t.core c).heldReq }
    if code ≠ 0 then
      let s1 := (coresOf k).foldl (fun t c => t.setCore c (kept t c {})) (s.setCluster k { fresh with phase := .parked })
      { s1 with parked := s1.parked ++ [Dom.cluster (Fin.ofNat 65536 k)] }.record 0 k code
    else
      let a := recordAddr (s.obj (if useImg then 0x2030 else 0x5010) 0) k
      let m := s.headerMaps a
      let s1 := s.setCluster k { fresh with pendingMaps := m, maps := m }
      let s2 := (coresOf k).foldl (fun t c =>
        let e := coreEntry a (c % 16)
        let q := if useImg then t.imageCore e else t.entryCore e
        t.setCore c (kept t c { q with stat := q.stat ||| w64 (((t.core c).held ||| ipSummit).toNat * 2 ^ 40) })) s1
      (coresOf k).foldl (fun t c => t.modCore c (fun q => { q with held := 0 })) (s2.startCluster k (nextFrame (s.beat (clusterSpur k))))

/-- A store to a word of a per-core block (R199 to R202); reserved offsets ignore stores. -/
def State.blockStore (s : State) (c off : Nat) (v : Word) : State :=
  match off with
  | 0x00 =>
    let s1 := s.modCore c (fun k => { k with iword := k.iword ||| v })
    if v = 0 then s1 else s1.setIp c ipCore
  | 0x08 => s.modCore c (fun k => { k with aerr := k.aerr &&& ~~~(keep 0xC000000000000000 v) })
  | _ => s

/-- Held requests in the order in which they arrived: number, core and request. -/
def putHeld (x : Nat × Nat × HeldEvent) : List (Nat × Nat × HeldEvent) → List (Nat × Nat × HeldEvent)
  | [] => [x]
  | y :: ys => if x.1 < y.1 then x :: y :: ys else y :: putHeld x ys
/-- The held requests of a spur's cores are performed in the order in which they arrived; a load by another than the owner changes nothing
(R200, R392). DEDUCED, log entry 47. -/
def State.performHeld (s : State) (d : Nat) : State :=
  let mine (c : Nat) : Bool := !coreBoot c && spurOf c = d
  let all := ((s.cores.filter (fun e => mine e.1)).flatMap (fun e => e.2.heldReq.map (fun h => (h.1, e.1, h.2)))).foldl
    (fun xs x => putHeld x xs) []
  all.foldl (fun u x => match x.2.2 with
    | .store off v => u.blockStore x.2.1 off.toNat v
    | _ => u) { s with cores := mupd coreDef (fun c k => if mine c then { k with heldReq := [] } else k) s.cores }

def clustersOfSpur (d : Nat) : List Nat := (List.range 64).map (64 * d + ·)
/-- Whether every cluster of a spur has been restored. -/
def State.spurRestored (s : State) (d : Nat) : Bool := (clustersOfSpur d).all (fun k => (s.cluster k).phase != .quiesced)
/-- A spur whose clusters have all been restored runs, and what its rim holds is performed; a held spur reads 7 until the last has rejoined
or parked (R392, R397, R404). -/
def State.spurBack (s : State) (d : Nat) : State :=
  if !s.spurRestored d then s
  else ((if s.spurState d = 7 then s.spurReleased d else s.setSpurState d 0)).performHeld d

/-- A spur has power again: its clusters that await restore are restored, and it runs (R397). DEDUCED, log entry 62. -/
def State.wakeSpur (s : State) (d : Nat) : State := ((clustersOfSpur d).foldl (fun t k => t.restore k) s).spurBack d

/-- A held spur has power again: what its rim has held is performed (R392, R404). -/
def State.ungate (s : State) (d : Nat) : State :=
  ({ s with
    power := { s.power with gated := s.power.gated.filter (· ≠ d) }
    cores := mupd coreDef (fun c k =>
      if !coreBoot c && spurOf c = d then { k with held := 0, stat := k.stat ||| w64 (k.held.toNat * 2 ^ 40) } else k) s.cores }).performHeld d

/-- A wake source of a napping spur: the spur powers up; where the entry has only begun to shut it down, the entry is withdrawn (R395,
R407). Outside Run it waits for the module. DEDUCED, log entry 47. -/
def State.spurSource (s : State) (d code : Nat) : State :=
  if s.mstate ≠ 2 then s
  else if s.power.gated.contains d then (s.ungate d).setObj 0x2042 0 code
  else if s.spurState d = 5 then
    ((s.setSpurState d 6).setObj 0x2042 0 code).modDomain d (fun g => { g with cad := 0, armed := false })
  else if s.spurState d = 4 then (s.withdraw d).setObj 0x2042 0 code
  else s

/-- A held request or event is a wake source; the spur's rail settles and its clusters are restored (R397). -/
def State.spurWoken (s : State) (d : SpurId) : State :=
  if s.mstate ≠ 2 then s
  else if s.spurState d = 6 then s.wakeSpur d
  else if s.spurState d = 5 && s.cores.any (fun e =>
      !coreBoot e.1 && spurOf e.1 = d.val && ((e.2.held &&& ~~~ipSummit) ≠ 0 || !e.2.heldReq.isEmpty)) then
    s.spurSource d 3
  else s

/-- A cluster of a waking spur is restored (R398). DEDUCED, log entry 62. -/
def State.clusterRestored (s : State) (k : ClusterId) : State :=
  let d := clusterSpur k
  if s.spurState d = 6 || s.power.wakePhase = 6 then
    let s1 := s.restore k
    if s1.spurState d = 6 then s1.spurBack d else s1
  else s

/-- RIM_HELD_EVENT: what arrives for a clamped or napping spur is held by its ridge rim; all but a summit request wakes it
(R392, R395). DEDUCED, log entry 47. -/
def execRimHeldEvent (c : CoreId) (e : HeldEvent) (s : State) : Out :=
  if !s.rimKeeps c then .next s
  else
    let wake (t : State) : State := t.spurSource (spurOf c) 3
    match e with
    | .irq n =>
      if 4 < n.toNat then .next s
      else
        let t := s.modCore c (fun k => { k with held := k.held ||| BitVec.ofNat 8 (2 ^ n.toNat) })
        .next (if n = 4 then t else wake t)
    | _ =>
      let (no, t) := s.takeId
      .next (wake (t.modCore c (fun k => { k with heldReq := k.heldReq ++ [(no, e)] })))

/-- A wake of the module from Hold begins (R395, R396). -/
def State.wakeModule (s : State) (code : Nat) : State :=
  ((s.setObj 0x2042 0 code).setMstate 5).modPower (fun p => { p with wakePhase := 1 })

/-- Every port that is down trains, and the host link (R396, R403). DEDUCED, log entry 53. -/
def State.portsTrain (s : State) : State :=
  let up (t : State) (l : Nat) : State := if t.obj (linkState l) 1 = 0 then t.setObj (linkState l) 1 1 else t
  (List.range 7).foldl up s

def plinthDomains : List Nat := (List.range 32).map (0x438 + ·)
def saddleDomains : List Nat := (List.range 8).map (0x410 + ·)
def rimDomains : List Nat := (List.range 16).map (0x400 + ·)
def phyDomains : List Nat := (List.range 32).map (0x418 + ·)
/-- Generators start in fixed cadence, and their rate triggers are not armed (R385, R396). -/
def State.starts (s : State) (ds : List Nat) : State :=
  { s with domains := mupd domainDef (fun d g => if ds.contains d then { g with cad := 0, armed := false } else g) s.domains }
/-- Every spur but a held one powers up (R385, R396). -/
def State.powersUp (s : State) : State :=
  (List.range 1024).foldl (fun t d => if t.spurState d = 7 then t else t.setSpurState d 6) s

/-- A phase of a wake ends: cairns come back from the refuge in phase 4, clusters are restored in phase 6, before which the
link engine has configured its ring cairn; the cadence is fixed (R374, R396, R400). DESIGN CHOICE, log entry 3. DEDUCED, log entry 62. -/
def State.wakePhaseEnded (s : State) : State :=
  let go (t : State) : State := t.modPower (fun p => { p with wakePhase := p.wakePhase + 1 })
  match s.power.wakePhase with
  | 0 => s
  | 1 => if 40000 ≤ s.power.lastMv then go s else s
  | 2 => go (s.starts (saddleDomains ++ plinthDomains))
  | 3 => go (s.starts phyDomains)
  | 4 => go (((List.range 7).foldl State.portFromRefuge { s.portsTrain with cairns := s.refuge }).powersUp)
  | 6 =>
    let s1 := (List.range 1024).foldl (fun t d => (if t.power.gated.contains d then t.ungate d else t).wakeSpur d) (s.starts (rimDomains ++ List.range 1024))
    let s2 := if s1.ringOn then s1.ringConfig else s1
    if !s1.clusters.all (fun x => x.2.phase != .quiesced) then s1
    else (((s2.setMstate 2).setObj 0x2015 0 0).modPower (fun p =>
      { p with wakePhase := 0, brownoutSaved := false, stopHeld := false, wasMember := false }))
  | _ => go s

/-- AUTOWAKE (R395). DEDUCED, log entry 62. -/
def execAutowake (s : State) : Out :=
  if s.mstate = 4 && s.power.brownoutSaved && !s.power.stopHeld && s.obj 0x2040 0 = 1 then .next (s.wakeModule 5) else .next s

/-! ### Brownout (R401) -/

/-- The module leaves its range, with a drop report of a job in progress. -/
def State.leaveRange (s : State) : State :=
  if s.rstate = 2 then
    let s1 := if s.obj 0x5030 0 ≠ 0 then s.mgrSend .report s.managerDev [s.dev, 0, s.obj 0x5030 0] else s
    (s1.mgrSend .leave s.managerDev [s.dev]).setObj 0x4000 4 0
  else s

/-- A brownout is in progress: its save has not come to Hold. -/
def State.brownoutOn (s : State) : Bool := s.power.entry.isSome && s.power.brownoutSaved

/-- Steps 1 and 2: every core is stopped at its next boundary, and outstanding requests drain. One that is in progress goes on. In a wake
before phase 4 is over, cairns and ports are still the refuge's, and stay there. DEDUCED, log entry 60. -/
def State.startBrownout (s0 : State) (thermal : Bool) : State :=
  if s0.brownoutOn then s0.modPower (fun p => { p with stopHeld := p.stopHeld || thermal })
  else
  let s := if 1 ≤ s0.power.wakePhase && s0.power.wakePhase ≤ 4
    then (List.range 7).foldl State.portFromRefuge { s0 with cairns := s0.refuge } else s0
  let member := decide (s.rstate = 2)
  let s1 := if s.power.entry.isSome then s.setObj 0x2020 4 5 else s
  (((s1.leaveRange.setMstate 3).modPower (fun p =>
    { p with
      entry := some (holdEntry false false 7)
      brownoutSaved := true
      stopHeld := thermal
      wasMember := member
      wakePhase := 0 })).entrySpurs 2).brownoutQuiet

/-- BROWNOUT_DRAIN_LIMIT: what is still outstanding is abandoned, with a cancel for every unanswered WAITC; a core that has
not come to rest will be written with V = 0 (R401). -/
def execBrownoutDrainLimit (s : State) : Out :=
  match s.power.entry with
  | some e =>
    if e.stage = 7 then
      let s1 := s.cores.foldl (fun t x => if coreBoot x.1 then t else (t.tryStop x.1).cancelWaits x.1) s
      .next ((s1.abandon .module).modEntry (fun x => { x with stage := 8 }))
    else .next s
  | none => .next s

/-- BROWNOUT_CLAMP_LIMIT: the clamps are asserted, and the module is in Hold; clusters that have not quiesced keep V = 0
(R401). -/
def execBrownoutClampLimit (s : State) : Out :=
  match s.power.entry with
  | some e =>
    if e.stage = 7 || e.stage = 8 then
      let late := s.clusters.filter (fun x => x.2.phase == .run)
      let s1 := late.foldl (fun t x => (t.clearImage x.1).modCluster x.1 (fun cl => { cl with phase := .quiesced })) s
      .next (s1.brownoutSaddles.entryDone e)
    else .next s
  | none => .next s

/-! ### The input (R378 to R382) -/

/-- INPUT_LOSS: the input falls through 28 V. DEDUCED, log entry 60. -/
def execInputLoss (s : State) : Out :=
  if s.power.off then .next (s.modPower (fun p => { p with latched := false }))
  else
    let s1 := s.gasp (if s.brownoutOn then 5 else 1)
    if s1.mstate = 1 then .next s1.abandonStart else .next (s1.turnOff false)

/-- INPUT_OVERVOLTAGE: the input switch opens above 72 V. -/
def execInputOvervoltage (s : State) : Out :=
  if s.power.off then .next s else .next ((s.gasp 2).turnOff true)

/-- The average of the samples of the last 100 ms, in W; a sample is held in µW (R382). DEDUCED, log entry 59. -/
def averagePower (xs : List Nat) : Nat := if xs.isEmpty then 0 else xs.foldl (· + ·) 0 / xs.length / 1000000
/-- Whether that average is above 19 kW (R22). -/
def overAverage (xs : List Nat) : Bool := decide (19000000000 * xs.length < xs.foldl (· + ·) 0)

/-- How many samples have in succession been above a bound (R22, R378): 10 ms are 4,000 of them. -/
def runOf (n x bound : Nat) : Nat := if bound < x then n + 1 else 0
/-- Whether the current limit applies: 525 A at once, above 475 A for 10 ms, or below 40 V above 475 A (R22). DEDUCED, log entry 59. -/
def Power.overCurrent (p : Power) (mA : Nat) (mV : Int) : Bool :=
  525000 < mA || 4000 ≤ runOf p.over475 mA 475000 || (mV < 40000 && 475000 < mA)
/-- Whether a limit of R22 applies: 19 kW over 100 ms, 21 kW at once, or above 19 kW for 10 ms, or that of the current (R378). DEDUCED, log
entry 59. -/
def Power.overLimit (p : Power) (xs : List Nat) (uw mA : Nat) (mV : Int) : Bool :=
  overAverage xs || 21000000000 < uw || 4000 ≤ runOf p.over19 uw 19000000000 || p.overCurrent mA mV

/-- The ridge rails' nominal voltage in mV (R17), and the most by which one sample lowers them. -/
def railNominal : Nat := 720
def railSpan : Nat := 160
/-- Flags, counts and measurements of a sample; a limit that applies lowers the ridge rails, by an amount that the manual leaves to the
power controller; the first sample under no limit lets them rise to where they were, which is the model's choice (R22, R379). DESIGN
CHOICE, log entries 13, 94. -/
def State.sampleObjects (s : State) (mV : Int) (mA : Nat) : State :=
  let v := mV.toNat
  let p := s.power
  let uw := v * mA
  let xs := (uw :: p.samples).take 40000
  let out := decide (mV < 40000) || decide (60000 < mV)
  let lim := p.overLimit xs uw mA mV
  let s1 := ((s.setObj 0x2000 1 v).setObj 0x2000 2 mA).setObj 0x2000 3 (averagePower xs)
  let s2 := if p.overCurrent mA mV then s1.supplyFlag 2 else s1
  let s3 := if mV < 40000 then s2.supplyFlag 0 else if 60000 < mV then s2.supplyFlag 1 else s2
  let s4 := if lim then s3.supplyFlag 4 else s3
  let s5 := if out && !p.wasOut then s4.count 0x2001 (if mV < 40000 then 3 else 4) else s4
  let s6 := if lim && !p.limited then s5.count 0x2001 6 else s5
  let s7 := if v < s6.obj 0x2001 7 then s6.setObj 0x2001 7 v else s6
  let (v, s8) := if lim then s7.takeFree else (0, s7)
  s8.modPower (fun q => { q with
    samples := xs, wasOut := out, limited := lim, lastMv := mV
    over19 := runOf p.over19 uw 19000000000
    over475 := runOf p.over475 mA 475000
    railDrop := if lim then p.railDrop + 1 + v.toNat % railSpan else 0
    low40 := if mV < 40000 then 40000 else q.low40 - 1
    below34 := if mV < 34000 then q.below34 + 1 else 0
    above60 := if 60000 < mV then q.above60 + 1 else 0 })

/-- INPUT_SAMPLE: every 2.5 µs. DEDUCED, log entry 59. DESIGN CHOICE, log entry 76. -/
def execInputSample (mV : Int) (mA : Nat) (s : State) : Out :=
  if mV < -60000 then .fault .beyondRating
  else if s.power.off then
    .next (s.modPower (fun p => { p with latched := p.latched && decide (28000 ≤ mV), lastMv := mV }))
  else
    let s1 := s.sampleObjects mV mA
    let st := s1.mstate
    if s1.power.above60 = 4001 then .next ((s1.gasp 3).turnOff true)
    else if s1.power.below34 = 800 then
      let s2 := (s1.supplyFlag 3).count 0x2001 5
      if st = 1 then .next s2.abandonStart
      else if st = 7 then .next ((s2.gasp 4).turnOff true)
      else if s1.brownoutOn then .next s1
      else if st = 2 || st = 3 || st = 5 then .next (s2.startBrownout false)
      else .next s1
    else .next s1

/-! ### Cadence and generators -/

/-- The generator of a domain is set; where its rate falls, the spurs that it serves note it (R280). -/
def State.regen (s : State) (d : Nat) (f : Domain → Domain) : State := (s.modDomain d f).noteFall s d

/-- BGCTL_WRITE (R274). -/
def execBgctlWrite (d : DomainNo) (v : Word) (s : State) : Out :=
  if lastGenerator < d.val then .next s
  else
    let cad := wf v 3 2
    .next (s.regen d (fun g =>
      let g1 := if cad = 3 || (cad = 1 && isPhy d) then g else g.setCad (BitVec.ofNat 2 cad)
      { g1 with cap := if wf v 31 20 = capDefault d then none else some (BitVec.ofNat 12 (wf v 31 20)) }))

/-- STOPPED_DOMAIN_RESTART. -/
def execStoppedDomainRestart (d : DomainNo) (s : State) : Out :=
  .next (s.wakes d)

/-- BGCTL of a generator; GUARD says that a spur's effective cap is below CAP (R274, R275). -/
def State.bgctl (s : State) (d : Nat) : Word :=
  let g := s.domain d
  let guarded := decide (d < 1024) && decide (s.effectiveCap d < g.capOf d)
  w64 (g.rate.toNat * 2 ^ 32 + g.capOf d * 2 ^ 20 + guarded.toNat * 2 ^ 7 + g.cad.toNat * 2 ^ 2)

/-- The rate that a window measures, by a free value `v`: in fixed cadence the fixed one; in tracking cadence one in the range of its kind,
under its cap, or the effective cap of a spur; of a generator that a fault slows, a lower one (R272, R273, R275). -/
def State.windowRate (s : State) (d v : Nat) (slow : Bool) : Nat :=
  let g := s.domain d
  let cap := if d < 1024 then s.effectiveCap d else g.capOf d
  let low := if d < 1024 then 450 else 1250
  if g.cad = 2 then 0
  else if isPhy d || g.cad = 0 then (if slow then v % fixedRate d else fixedRate d)
  else if slow then v % Nat.min low (cap + 1)
  else if cap ≤ low then cap
  else low + v % (cap - low + 1)

/-- Whether a generator has power: those of a spur behind clamps have none, and in Hold only the saddle cores' (R383). -/
def State.generatorOn (s : State) (d : Nat) : Bool :=
  if d < 1024 && (s.spurState d = 4 || s.spurState d = 5) then false
  else !s.fabricOff || (s.mstate = 4 && 0x410 ≤ d && d < 0x418)

/-- RATE_WINDOW_ARMED: a full measurement window has passed; RATE is measured, and the triggers on it are armed (R274, R385). A stopped
generator has no beats, and one without power none. DESIGN CHOICE, log entry 13. -/
def execRateWindowArmed (d : DomainNo) (s : State) (slow : Bool := false) : Out :=
  if lastGenerator < d.val then .next s
  else if !s.generatorOn d then .next (s.modDomain d (fun g => { g with rate := 0, armed := false }))
  else
    let (v, s1) := s.takeFree
    .next (s1.regen d (fun g =>
      { g with rate := BitVec.ofNat 16 (s1.windowRate d v.toNat slow), armed := g.armed || g.cad ≠ 2 }))

/-- Every generator of a kind that is not stopped takes a cadence (R400). DEDUCED, log entry 65. -/
def State.cadenceOf (s : State) (ds : List Nat) (v : BitVec 2) : State :=
  ds.foldl (fun t d => if (t.domain d).cad = 2 then t else t.regen d (fun g => g.setCad v)) s

/-- The cadence object is written (R400). -/
def State.setCadence (s : State) (tracking : Bool) : State :=
  let s1 :=
    if tracking then
      (((s.cadenceOf plinthDomains 1).cadenceOf saddleDomains 1).cadenceOf rimDomains 1).cadenceOf (List.range 1024) 1
    else
      (((s.cadenceOf (List.range 1024) 0).cadenceOf rimDomains 0).cadenceOf saddleDomains 0).cadenceOf plinthDomains 0
  s1.setObj 0x2015 0 tracking.toNat

/-! ### Start-up (R403) -/

/-- INPUT_QUALIFIED: the input has held at or above 40 V for 100 ms. DEDUCED, log entry 63. -/
def execInputQualified (s : State) : Out :=
  if s.power.off then
    if s.power.latched then .next s
    else
      let d := (s.flash.stored.getD []).filter (fun e => storedObj e.1)
      let s1 := { s with dict := d, inUse := d.filter (fun e => portSetting e.1) }.resumeSigning
      .next ((s1.setMstate 1).modPower (fun p => { p with off := false, startStep := 1 }))
  else if s.power.abandoned && s.mstate = 1 then .next (s.modPower (fun p => { p with abandoned := false, startStep := 4 }))
  else .next s

/-! ### Temperatures (R469 to R471) -/

/-- A sensor: its number, its reading, its throttle and release thresholds, its stop limit and its wake threshold. -/
structure Sensor where
  no : Nat
  t : Int
  throttle : Option (Int × Int)
  stop : Int
  wake : Int
deriving DecidableEq, Repr

def sensorsOf (t : Temps) : List Sensor :=
  t.ridge.zipIdx.map (fun (x, i) => ⟨i, x, some (95000, 90000), 108000, 90000⟩)
  ++ t.saddle.zipIdx.map (fun (x, i) => ⟨16 + i, x, none, 105000, 100000⟩)
  ++ [⟨24, t.summit, none, 100000, 95000⟩]
  ++ t.stack.zipIdx.map (fun (x, i) => ⟨32 + i, x, some (88000, 84000), 95000, 84000⟩)
  ++ [⟨64, t.outlet, some (60000, 57000), 65000, 57000⟩, ⟨65, t.inlet, none, 50000, 45000⟩]

/-- One throttling sensor's step: its setpoint falls or rises by 10 mV, also above nominal (R470). -/
def thermalDef (_ : Nat) : Int := 0
/-- DEDUCED, log entry 66. -/
def Power.throttle (p : Power) (x : Sensor) : Power :=
  match x.throttle with
  | none => p
  | some (hi, lo) =>
    let n := mget thermalDef p.thermal x.no
    if hi ≤ x.t then { p with thermal := mset thermalDef p.thermal x.no (n + 1) }
    else if x.t < lo then { p with thermal := mset thermalDef p.thermal x.no (n - 1) }
    else p

/-- The rail of ridge die `r` in mV: the lowest of its thermal setpoints, that of R22 and nominal, and not below the floor, which follows
its temperature (R273, R470). The sensors of a ridge die are its own, the stacks of its saddle, and the outlet. DEDUCED, log entry 66.
DESIGN CHOICE, log entry 13. -/
def State.ridgeRail (s : State) (r : Nat) : Nat :=
  let drops := ([r, 64] ++ (List.range 4).map (32 + 4 * (r / 2) + ·)).map (fun n => (10 * mget thermalDef s.power.thermal n).toNat)
  Nat.max (Config.railFloor (s.obj 0x3000 (r + 1)) % (railNominal + 1)) (railNominal - (s.power.railDrop :: drops).foldl Nat.max 0)
def Sensor.hot (x : Sensor) : Bool := x.throttle.elim false (fun h => decide (h.1 ≤ x.t))
def i32 (x : Int) : Nat := ofSint 32 x

/-- Readings go to their objects (R435). -/
def State.tempObjects (s : State) (t : Temps) : State :=
  let put (idx : Nat) (xs : List Int) (u : State) : State :=
    xs.zipIdx.foldl (fun w (x, i) => w.setObj idx (i + 1) (i32 x)) u
  ((put 0x3003 t.stack (put 0x3001 t.saddle (put 0x3000 t.ridge s))).setObj 0x3002 0 (i32 t.summit)).setObj 0x3004 1
    (i32 t.inlet) |>.setObj 0x3004 2 (i32 t.outlet)

/-- TEMPERATURE_SAMPLE. DEDUCED, log entry 66. -/
def execTemperatureSample (t : Temps) (s : State) : Out :=
  if s.power.off then .next s
  else
    let xs := sensorsOf t
    let run := decide (s.mstate = 2)
    let hot := xs.filter Sensor.hot
    let begun := hot.filter (fun x => !s.power.throttled.contains x.no)
    let s1 := (s.tempObjects t).modPower (fun p =>
      { (if run then xs.foldl Power.throttle p else p) with
        throttled := if run then hot.map (·.no) else p.throttled.filter (fun n => hot.any (fun x => x.no = n))
        overWake := xs.any (fun x => decide (x.wake ≤ x.t)) })
    let s2 := if run && !hot.isEmpty then s1.setObj 0x3010 1 (s1.obj 0x3010 1 ||| 1) else s1
    let s3 := if run then begun.foldl (fun u _ => u.count 0x3010 2) s2 else s2
    if xs.any (fun x => decide (x.stop ≤ x.t)) then
      let s4 := s3.setObj 0x3010 1 (s3.obj 0x3010 1 ||| 2)
      match s4.mstate with
      | 2 => .next (s4.startBrownout true)
      | 3 => .next (s4.startBrownout true)
      | 4 => .next s4.safeHold
      | _ => .next s4
    else .next s3

/-- SUMMIT_FAULT: the summit faults outside its boot cores (R304, R405). -/
def execSummitFault (s : State) : Out := if s.power.off then .next s else .next s.safeHold

end Sys2Proof.Machine
end

