-- ==== Sys2Proof/Machine/Dictionary.lean ====
section
/-! DEFINITION. The parameter dictionary: reading and writing an object (R410 to R416, R428, R435), the effects of the
writes that ask the module for something, and the write semaphore (R426, R427). -/

namespace Sys2Proof.Machine

/-! ### Status codes (R415) -/

def stOk : Nat := 0x00
def stNone : Nat := 0x01
def stReadOnly : Nat := 0x02
def stHolder : Nat := 0x03
def stValue : Nat := 0x04
def stState : Nat := 0x05
def stDenied : Nat := 0x06
def stLength : Nat := 0x07
def stBusy : Nat := 0x08
def stOffset : Nat := 0x09
def stType : Nat := 0x0A

/-! ### Firmware images (R441, R442) -/

/-- A little-endian field of a list of bytes. -/
def bytesAt (bs : List Byte) (off n : Nat) : Nat := bytesNat ((bs.drop off).take n)
def imageVersion (bs : List Byte) : Nat := bytesAt bs 4 4
def imageSvn (bs : List Byte) : Nat := bytesAt bs 8 1
def imageBody (bs : List Byte) : Nat := bytesAt bs 0x0C 4
def imageEntry0 (bs : List Byte) : Nat := bytesAt bs 0x10 4
def slotSize : Nat := 0x4000000
/-- The bytes that the signature covers. -/
def imageSigned (bs : List Byte) : List Byte := bs.take (0x7C + imageBody bs)
/-- The bytes that an image ends with: the signature. -/
def imageSignature (bs : List Byte) : List Byte := bs.drop (0x7C + imageBody bs)

/-- The layout of R441 with its lengths. -/
def imageShape (bs : List Byte) : Bool :=
  let body := imageBody bs
  bytesAt bs 0 4 = 0x57465A45 && body % 16 = 0 && bs.length = 0x7C + body + 3284 && bs.length ≤ slotSize
  && imageEntry0 bs < body
/-- The key, whose hash is FWKEYHASH, its types and the signature (R442). -/
def imageAuthentic (keyHash bs : List Byte) : Bool :=
  let key := cutBytes bs (0x40 + imageBody bs) 60
  sha256 key = keyHash && lmsImage.hssVerifies key (imageSigned bs) (imageSignature bs)
def imageValid (f : Fuses) (bs : List Byte) : Bool := imageShape bs && imageAuthentic f.keyHash bs && f.svn ≤ imageSvn bs

/-! ### Masters -/

def masterWho : Master → Who
  | .core c => if coreBoot c then .summit else .core c
  | .remote d _ => .remote d.toNat
  | .host => .host
  | .session b _ => .mgmt b
  | .summit => .summit

/-- The identity word of a holder or claimant (R426). -/
def State.masterIdent (s : State) : Master → Word
  | .core c => identWord s.dev 0 0 false (coreIdLow c)
  | .remote d c => identWord d.toNat 0 0 false c.toNat
  | .host => identWord s.dev 2 0 false 0
  | .session b sid => identWord s.dev (if b then 4 else 3) 0 false sid.toNat
  | .summit => identWord s.dev 5 0 false 0

/-! ### Reading -/

def partNumber : List Byte := [0x45, 0x5A, 0x57, 0x2D, 0x49, 0x54, 0x56, 0x2D, 0x31]
/-- `n` decimal digits. -/
def digits : Nat → Nat → List Byte
  | 0, _ => []
  | n + 1, x => digits n (x / 10) ++ [BitVec.ofNat 8 (0x30 + x % 10)]
def serialNo : Nat := Config.serial % 2 ^ 39

/-- The life-cycle state (R436). -/
def State.lc (s : State) : Nat := s.fuses.lc
/-- The remaining entries to Service (R437). DESIGN CHOICE, log entry 8. -/
def Fuses.entriesLeft (f : Fuses) : Nat := 32 - (f.toggles + 1) / 2

/-- MAC address of port p (R419): octet 0 in [47:40]. -/
def macOf (p : Nat) : Nat := 2 * 2 ^ 40 + serialNo * 2 + p

/-- The 16 bytes of a session object (R429). -/
def sessionBytes (n : Nat) (x : Session) : List Byte :=
  [BitVec.ofNat 8 x.st, BitVec.ofNat 8 (if n ≤ 4 || x.st = 0 then 0 else 1)] ++ natBytes 2 x.sid.toNat ++ natBytes 4 x.lastSeq.toNat
  ++ natBytes 8 x.iid.toNat

/-- An image of the flash: 0 is A. -/
def State.image (s : State) (n : Nat) : List Byte := if n = 0 then s.flash.imageA else s.flash.imageB

/-- The value of a scalar object. -/
def State.objValue (s : State) (idx sub : Nat) : Nat :=
  match idx, sub with
  | 0x1000, 3 => Config.hwRevision.toNat
  | 0x1000, 4 => s.lc
  | 0x1001, 2 => imageVersion s.flash.imageA
  | 0x1001, 3 => imageVersion s.flash.imageB
  | 0x1001, 7 => s.fuses.svn
  | 0x1002, 3 => s.fuses.entriesLeft
  | 0x2050, 0 => s.flash.gasps.length
  | 0x4400, 8 => macOf 0
  | 0x4401, 8 => macOf 1
  | 0x6000, 2 => Nat.min s.flash.passes 0xFFFFFFFF
  | 0x7000, 1 => match s.flash.point with
    | some p => Nat.min (2 ^ 40 - p) 0xFFFFFFFF
    | none => 0
  | 0x9010, 1 => s.holderWord.toNat
  | 0x9010, 2 => (s.lease + 1048575) / 1048576
  | _, _ => s.obj idx sub

/-- The bytes of an object, as a read copies them (R411, R413). -/
def State.objBytes (s : State) (idx sub : Nat) (ty : OType) : List Byte :=
  match idx, sub with
  | 0x1000, 1 => partNumber
  | 0x1000, 2 => digits 12 serialNo
  | 0x2050, _ =>
    if sub = 0 then natBytes 1 s.flash.gasps.length else (s.flash.gasps[sub - 1]?).getD (List.replicate 16 0)
  | 0x7000, 2 => match s.fuses.publicKept with
    | some bs => bs
    | none => s.fuses.identity.hssPublic
  | 0x7000, 3 => s.fuses.keyHash
  | 0x9000, n => sessionBytes n (s.session n)
  | _, _ => natBytes ty.size (s.objValue idx sub)

/-! ### Access -/

/-- The requests that pass without the summit table's check: of sessions and masters of the summit window (R428). DEDUCED,
log entry 48. -/
def exempt (m : Master) (idx : Nat) (write : Bool) : Bool :=
  m ≠ .summit && ((0x9000 ≤ idx && idx ≤ 0x90FF) || (idx = 0x1000 && !write))
def State.tableAllows (s : State) (m : Master) (idx : Nat) (write : Bool) : Bool :=
  exempt m idx write || s.allowed 0x4031 (masterWho m) 3 0 (if write then .write else .read)

/-- What the boot ROM serves without a firmware image: identity, update, life-cycle and supply objects (R443). DEDUCED, log entry 71. -/
def State.romOnly (s : State) : Bool := s.mstate = 6 && s.obj 0x1001 1 = 0xFF
/-- DEDUCED, log entry 71. -/
def romServes (idx : Nat) : Bool := (0x1000 ≤ idx && idx ≤ 0x1002) || idx = 0x2000 || idx = 0x2001 || idx = 0x2050

/-- A read: its status and the object's bytes (R412). DEDUCED, log entry 67. -/
def State.objRead (s : State) (m : Master) (idx sub : Nat) : Nat × List Byte :=
  match objDesc idx sub with
  | none => (stNone, [])
  | some (ty, r) =>
    if s.romOnly && !romServes idx then (stBusy, [])
    else if !s.tableAllows m idx false then (stDenied, [])
    else if r = .wo then (stOk, if ty.scalar then List.replicate ty.size 0 else [])
    else (stOk, s.objBytes idx sub ty)

/-! ### The semaphore (R426, R427) -/

def leaseUnit : Nat := 1048576
def State.holds (s : State) (m : Master) : Bool := s.holder = some m
def State.setLease (s : State) (n : Nat) : State := { s with lease := Nat.min n (s.obj 0x9010 5) * leaseUnit }
def State.dropSemaphore (s : State) : State := { s with holder := none, holderWord := 0, lease := 0 }

def State.lock (s : State) (m : Master) (n : Nat) : Nat × State :=
  if n = 0 then (stValue, s)
  else if s.holds m then (stOk, s.setLease n)
  else if s.holder.isSome then (stBusy, s)
  else (stOk, ({ s with holder := some m, holderWord := s.masterIdent m }.setLease n).count 0x9010 7)
def State.renew (s : State) (m : Master) (n : Nat) : Nat × State :=
  if n = 0 then (stValue, s) else if s.holds m then (stOk, s.setLease n) else (stHolder, s)
def State.unlock (s : State) (m : Master) : Nat × State :=
  if s.holds m then (stOk, s.dropSemaphore) else (stHolder, s)

/-- LEASE_EXPIRY: the remaining lease reaches 0. DESIGN CHOICE, log entry 2. -/
def execLeaseExpiry (s : State) : Out :=
  .next (if s.holder.isSome then s.dropSemaphore.count 0x9010 8 else s)

/-! ### Sessions become free (R424) -/

/-- The slots of a port. -/
def slotsOf (portB : Bool) : List Nat := if portB then [5, 6, 7, 8] else [1, 2, 3, 4]
def slotPort (n : Nat) : Bool := 4 < n
def State.slotMaster (s : State) (n : Nat) : Master := .session (slotPort n) (s.session n).sid

/-- A session slot becomes free: its report buffer is cleared, and the semaphore released if it held it. -/
def State.freeSession (s : State) (n : Nat) : State :=
  let s1 := if s.holds (s.slotMaster n) && (s.session n).st ≠ 0 then s.dropSemaphore else s
  { s1.setSession n { opens := (s.session n).opens } with signWait := s1.signWait.filter (· ≠ n) }
def State.freePort (s : State) (portB : Bool) : State := (slotsOf portB).foldl (fun t n => t.freeSession n) s

/-! ### What writes ask for -/

/-- Write 2 to 0x2012:00: in Hold a wake source (R395); a module that a stop limit holds waits for its temperatures
(R470). DEDUCED, log entry 64. -/
def State.requestRun (s : State) : Nat × State :=
  if s.mstate = 4 then
    if s.power.stopHeld && s.power.overWake then (stBusy, s) else (stOk, (s.setObj 0x2012 0 2).wakeModule 1)
  else if s.mstate = 2 then (stOk, s.setObj 0x2012 0 2)
  else (stBusy, s)

/-- Write 4: the entry to Hold (R386). DEDUCED, log entry 64. -/
def State.requestHold (s : State) : Nat × State :=
  if s.obj 0x2030 0 = 0 then (stBusy, s)
  else if s.mstate = 2 then (stOk, (s.setObj 0x2012 0 4).startEntry (holdEntry false false 0))
  else if s.mstate = 4 then (stOk, s.setObj 0x2012 0 4)
  else (stBusy, s)

/-- Write 7: an orderly Off, through the entry to Hold (R406). DEDUCED, log entry 61. -/
def State.requestOff (s : State) : Nat × State :=
  if s.mstate = 2 then (stOk, (s.setObj 0x2012 0 7).startEntry (holdEntry true false 0))
  else if s.mstate = 4 then (stOk, (s.setObj 0x2012 0 7).startPass)
  else (stBusy, s)

/-- Write 8: the start-up from step 3, from Safe Hold at once, from Run after an entry (R405). DEDUCED, log entry 61. -/
def State.requestRestart (s : State) : Nat × State :=
  if s.mstate = 6 || s.mstate = 4 then (stOk, (s.setObj 0x2012 0 8).startFrom 3)
  else if s.mstate = 2 then (stOk, (s.setObj 0x2012 0 8).startEntry (holdEntry false true 0))
  else (stBusy, s)

/-- Whether an entry or a wake is in progress (R385). -/
def State.changing (s : State) : Bool :=
  s.power.entry.isSome || s.power.wakePhase ≠ 0 || (List.range 1024).any (fun d => s.spurState d = 6)

def State.moduleRequest (s : State) (v : Nat) : Nat × State :=
  if s.changing then (stBusy, s)
  else match v with
    | 2 => s.requestRun
    | 4 => s.requestHold
    | 7 => s.requestOff
    | _ => s.requestRestart

/-- A spur is asked for Run (R384, R395), for Doze (R384). -/
def State.spurRun (s : State) (d : Nat) : State :=
  if s.spurState d = 1 then s.restartDomain d
  else if s.spurState d = 5 || s.power.gated.contains d then s.spurSource d 2
  else
    let t := s.withdraw d
    if t.spurState d = 6 && s.spurState d ≠ 6 then t.setObj 0x2042 0 2 else t
def State.spurDoze (s : State) (d : Nat) : State :=
  if s.spurState d = 0 then (s.modDomain d (fun g => g.setCad 2)).setSpurState d 1 else s

/-- Write of 0x2013:00 (R383 to R386): byte d asks spur d for Run, Doze or Nap. While an entry is in progress only a
withdrawal is taken (R407). DEDUCED, log entry 61. -/
def State.spurRequest (s : State) (v : Nat) : Nat × State :=
  let old := s.obj 0x2013 0
  let want (d x : Nat) : Bool := byteOf v d = x
  let fresh := (List.range 1024).filter (fun d =>
    want d 2 && byteOf old d ≠ 2 && (s.spurState d = 0 || s.spurState d = 1 || s.spurState d = 7))
  let back := match s.power.entry with
    | some e => (List.range 1024).any (fun d => want d 0 && byteOf old d ≠ 0 && !e.hold && e.spurs.contains d)
    | none => false
  if s.mstate ≠ 2 then (stBusy, s)
  else if s.changing && !(back && fresh.isEmpty && s.power.wakePhase = 0) then (stBusy, s)
  else if !fresh.isEmpty && s.obj 0x2030 0 = 0 then (stBusy, s)
  else
    let s1 := s.setObj 0x2013 0 v
    let s2 := (List.range 1024).foldl (fun t d => if want d 0 then t.spurRun d else if want d 1 then t.spurDoze d else t) s1
    if fresh.isEmpty then (stOk, s2)
    else
      let s3 := fresh.foldl (fun t d => t.restartDomain d) s2
      (stOk, s3.startEntry { hold := false, off := false, restart := false, spurs := fresh, stage := 0 })

/-- Write of 1 to RELEASE: every held cluster reloads and rejoins, with no fault record (R404). DEDUCED, log entry 58. -/
def State.releaseHeld (s : State) : State :=
  let held := (List.range 65536).filter (fun k => (s.cluster k).phase == .held && !s.clusterFenced k && !s.power.gated.contains (clusterSpur k))
  let one (k : Nat) : Option Recov :=
    if h : k < 65536 then some { dom := .cluster ⟨k, h⟩, phase := .reload, code := 0, release := true }
    else none
  if s.mstate = 2 then { s with recovs := s.recovs ++ held.filterMap one } else s

/-- Write of the cadence object (R400). -/
def State.cadenceRequest (s : State) (v : Nat) : Nat × State :=
  if s.mstate ≠ 2 then (stBusy, s)
  else if v = 1 then (if s.power.low40 ≠ 0 then (stBusy, s) else (stOk, s.setCadence true))
  else (stOk, s.setCadence false)

/-- Write to 0x2001:02: a 1 in bit n clears flag n; VIN's minimum starts again with flag 0 (R382). -/
def State.clearFlags (s : State) (v : Nat) : State :=
  let s1 := s.setObj 0x2001 1 (s.obj 0x2001 1 &&& (0xFF ^^^ v))
  if bitAt v 0 then s1.setObj 0x2001 7 0xFFFFFFFF else s1

/-- Partner device numbers of the six ports, 0xFFFF for one that is not up (R338, R342). DEDUCED, log entry 56. -/
def State.partners (s : State) : List Nat := (List.range 6).map (fun p => if s.portUp p then s.obj (0x4200 + p) 3 else 0xFFFF)
/-- JOIN frames leave through every port that is up. -/
def State.sendJoin (s : State) : State :=
  ((List.range 6).filter s.portUp).foldl (fun t p => t.mgrOut .join p t.managerDev (t.obj 0x4000 1 :: t.partners)) s

/-- Write of 1 to RCMD (R338): a manager is a member at once, with every other device unreachable in its table. -/
def State.rcmdJoin (s : State) : State :=
  if s.rstate ≠ 0 then s
  else if s.obj 0x4000 2 = 2 && s.obj 0x4000 3 = s.obj 0x4000 1 then
    let d := s.obj 0x4000 1
    let s1 := (s.setObj 0x4000 4 2).setObj 0x4010 0 (setFld (objDefault (okey 0x4010 0)) (4 * d + 3) (4 * d) 7)
    { s1 with members := [BitVec.ofNat 12 d] }
  else (s.setObj 0x4000 4 1).sendJoin

/-- Write of 2 to RCMD: LEAVE to the manager (R339). -/
def State.rcmdLeave (s : State) : State :=
  if s.rstate = 0 then s else { s.mgrSend .leave s.managerDev [s.dev] with leaving := true }

def State.rcmd (s : State) (v : Nat) : State := if v = 1 then s.rcmdJoin else if v = 2 then s.rcmdLeave else s

/-- The domain that a reset command names (R322); a write with a KIND above 4, or an INDEX beyond the domain's, is ignored but for the
value that the object reads back. DESIGN CHOICE, log entry 101. -/
def domOf (kind index : Nat) : Option Dom :=
  match kind with
  | 0 => if h : index < 65536 then some (.cluster ⟨index, h⟩) else none
  | 1 => if h : index < 1024 then some (.spur ⟨index, h⟩) else none
  | 2 => if h : index < 16 then some (.ridge ⟨index, h⟩) else none
  | 3 => if h : index < 8 then some (.saddle ⟨index, h⟩) else none
  | 4 => if index = 0 then some .module else none
  | _ => none
def masterReset : Master → Nat
  | .session _ _ => 0x8001
  | .summit => 0x8002
  | _ => 0x8003

/-- A reset command: a napping spur is woken first (R408). DEDUCED, log entry 58. DESIGN CHOICE, log entry 101. -/
def State.resetCommand (s : State) (m : Master) (v : Nat) : State :=
  let s1 := s.setObj 0x5040 0 v
  match domOf (fld v 18 16) (fld v 15 0) with
  | none => s1
  | some d =>
    if s1.mstate ≠ 2 && s1.mstate ≠ 3 then s1
    else
      let wake (t : State) (x : Nat) : State := if t.spurState x = 5 then (t.spurSource x 6).wakeSpur x else t
      let s2 := match d with
        | .cluster k => wake s1 (clusterSpur k.val)
        | .spur x => wake s1 x.val
        | _ => s1
      if s2.domClamped d then s2 else (s2.commandReset d (masterReset m)).entryRefuses d

/-- A transition is permitted (R438). -/
def State.lcPermits (s : State) (to_ : Nat) : Bool :=
  match s.lc, to_ with
  | 0, 1 => true
  | 1, 2 => s.flash.keySet
  | 2, 3 => true
  | 3, 4 => 0 < s.fuses.entriesLeft
  | 4, 3 => !(s.bist.run && s.bist.direct) && s.halted.isNone
  | 5, _ => false
  | _, 5 => true
  | _, _ => false

/-- LCREQ, in the order of its tests (R439); `form` is what the value's form is refused with. -/
def State.lcRequest (s : State) (m : Master) (form v : Nat) : Nat × State :=
  let fromSession : Bool := match m with
    | .session _ _ => true
    | _ => false
  if !fromSession then (stDenied, s)
  else if !s.holds m then (stHolder, s)
  else if (s.mstate ≠ 4 && s.mstate ≠ 6) || s.obj 0x1002 2 = 1 then (stBusy, s)
  else if form ≠ stOk then (form, s)
  else if !s.lcPermits v then (stValue, s)
  else (stOk, (s.setObj 0x1002 1 v).setObj 0x1002 2 1)

/-- UPDCMD (R445). DEDUCED, log entry 68. -/
def State.updateCommand (s : State) (v : Nat) : Nat × State :=
  let now := s.obj 0x1001 6
  if v ≠ 1 then (stOk, s) else if now = 1 || now = 2 then (stBusy, s) else (stOk, s.setObj 0x1001 6 1)

/-- STORE (R416). DEDUCED, log entry 68. -/
def State.storeCommand (s : State) (v : Nat) : Nat × State :=
  if v = 0 then (stOk, s)
  else if s.obj 0x9040 1 = 1 then (stBusy, s)
  else (stOk, { s.setObj 0x9040 1 1 with flash := { s.flash with storing := some (s.dict.filter (fun e => storedObj e.1)) } })

/-- STORE_DONE: the flash write completes. -/
def execStoreDone (s : State) : Out :=
  match s.flash.storing with
  | none => .next s
  | some d => .next { s.setObj 0x9040 1 0 with flash := { s.flash with stored := some d, storing := none } }

/-- The management key, in Manufacture only (R435). -/
def State.keyWrite (s : State) (bs : List Byte) : Nat × State :=
  if s.lc ≠ 1 then (stState, s) else (stOk, { s with flash := { s.flash with key := bs, keySet := true } })

/-- The port's own interface identifier: the modified EUI-64 of its MAC address (R418). -/
def ownIid (p : Nat) : Nat :=
  let m := macOf p
  ((m / 2 ^ 24) ^^^ 0x020000) * 2 ^ 40 + 0xFFFE * 2 ^ 24 + m % 2 ^ 24
/-- The port's own address, fe80::/64, first byte first. -/
def ownAddress (p : Nat) : List Byte := [0xFE, 0x80, 0, 0, 0, 0, 0, 0] ++ (natBytes 8 (ownIid p)).reverse
/-- An ICMPv6 message leaves a port: its type, then its contents. -/
def State.icmp (s : State) (portB : Bool) (ty : Byte) (xs : List Byte) : State :=
  { s with netSent := s.netSent ++ [(portB, ty :: xs)] }
/-- Duplicate address detection solicits the port's own address. -/
def State.detect (s : State) (portB : Bool) : State := s.icmp portB 135 (ownAddress portB.toNat)

/-- APPLY: the stored settings come into use, and the port's sessions close (R419). DEDUCED, log entry 70. -/
def State.applyPort (s : State) (portB : Bool) : State :=
  let idx : Nat := if portB then 0x4401 else 0x4400
  let new := s.dict.filter (fun e => e.1 / 256 = idx && portSetting e.1)
  let kept := s.inUse.filter (fun e => e.1 / 256 ≠ idx)
  let s1 : State := { s.freePort portB with inUse := if portB then kept ++ new else new ++ kept }
  if s1.obj idx 1 = 0 || !s1.linksUp.contains portB then s1.setObj idx 9 0 else (s1.setObj idx 9 1).detect portB

/-- A write of PAUSE or DISCARD (R376). -/
def State.limitOk (s : State) (sub v : Nat) : Bool :=
  v ≠ 0 && (if sub = 3 then v < s.obj 0x4300 4 else s.obj 0x4300 3 < v)

/-- The ring's base or cairn is written; where the engine runs, it configures the cairn first (R374). -/
def State.ringWrite (s : State) (sub v : Nat) : State :=
  if s.mstate = 2 || s.mstate = 3 then s.ringConfig [(sub, v)] else s.setObj 0x4300 sub v

/-- STEPNOW is written: a manager has its lost members to decide out for the new step (R342). DEDUCED, log entry 56. -/
def State.nextStep (s : State) (step : Nat) : State :=
  if s.isManager then { s with sumWait := s.sumWait ++ s.lost.map (fun e => .out e.1.toNat e.2 step) } else s

/-- What a write does that has passed the checks of its object's right and range. -/
def State.objWritten (s : State) (m : Master) (idx sub v : Nat) (bs : List Byte) : Nat × State :=
  match idx, sub with
  | 0x1001, 6 => s.updateCommand v
  | 0x2001, 2 => (stOk, s.clearFlags v)
  | 0x2012, 0 => s.moduleRequest v
  | 0x2013, 0 => s.spurRequest v
  | 0x2014, 0 => (stOk, if v = 1 then s.releaseHeld else s)
  | 0x2015, 0 => s.cadenceRequest v
  | 0x4000, 5 => (stOk, s.rcmd v)
  | 0x4000, _ => if s.rstate ≠ 0 then (stBusy, s) else (stOk, s.setObj idx sub v)
  | 0x4300, 3 => if s.limitOk sub v then (stOk, s.setObj idx sub v) else (stValue, s)
  | 0x4300, 4 => if s.limitOk sub v then (stOk, s.setObj idx sub v) else (stValue, s)
  | 0x4300, 5 => (stOk, s.ringWrite 5 v)
  | 0x4300, 7 => (stOk, s.ringWrite 7 v)
  | 0x4400, 0x0A => (stOk, if v = 1 then s.applyPort false else s)
  | 0x4401, 0x0A => (stOk, if v = 1 then s.applyPort true else s)
  | 0x4030, _ => (stOk, s.setObj idx sub (tableEntry v))
  | 0x4031, _ => (stOk, s.setObj idx sub (tableEntry v))
  | 0x5030, 0 => (stOk, (s.setObj idx sub v).nextStep v)
  | 0x5040, 0 => (stOk, s.resetCommand m v)
  | 0x7001, 0 => s.keyWrite bs
  | 0x9010, 3 => s.lock m v
  | 0x9010, 4 => s.renew m v
  | 0x9010, 6 => if v = 1 then s.unlock m else (stOk, s)
  | 0x9040, 1 => s.storeCommand v
  | _, _ => (stOk, s.setObj idx sub v)

/-- The test of an object's right (R412). -/
def State.rightStatus (s : State) (m : Master) (r : ORight) : Nat :=
  match r with
  | .ro => stReadOnly
  | .rw => stOk
  | .wo => stOk
  | .rwl => if s.holds m then stOk else stHolder
  | .svc => if s.lc ≠ 4 then stState else if s.holds m then stOk else stHolder

/-- Whether bytes are a value of a type (R411); the length has been tested. -/
def valueOk (ty : OType) (bs : List Byte) : Bool :=
  match ty with
  | .bool => bytesNat bs ≤ 1
  | .f32 => bytesNat bs % 2 ^ 31 ≤ 0x7F800000
  | .str _ => bs.all (fun b => 0x20 ≤ b.toNat && b.toNat ≤ 0x7E)
  | _ => true

/-- A write by a master: its status, and the state after it (R410 to R415, R428). `form` is what the path it comes by refuses its
form with. The table is asked first, then the right, the form, the value. DEDUCED, log entry 67. -/
def State.objPut (s : State) (m : Master) (idx sub form : Nat) (bs : List Byte) : Nat × State :=
  match objDesc idx sub with
  | none => (stNone, s)
  | some (ty, r) =>
    let v := bytesNat bs
    let form := if form ≠ stOk then form else if !ty.fits bs.length then stLength else stOk
    if s.romOnly && !romServes idx then (stBusy, s)
    else if !s.tableAllows m idx true then (stDenied, s)
    else if idx = 0x1002 && sub = 1 then s.lcRequest m form v
    else if s.rightStatus m r ≠ stOk then (s.rightStatus m r, s)
    else if form ≠ stOk then (form, s)
    else if !(valueOk ty bs && objInRange idx sub v) then (stValue, s)
    else s.objWritten m idx sub v bs
def State.objWrite (s : State) (m : Master) (idx sub : Nat) (bs : List Byte) : Nat × State := s.objPut m idx sub stOk bs

/-! ### Writes with a row of their own -/

/-- A master that reaches the dictionary through the summit window has its refusals recorded (R431). -/
def masterWindow : Master → Bool
  | .session _ _ => false
  | .summit => false
  | _ => true
def State.recordRefusal (s : State) (idx sub st : Nat) : State :=
  (s.setObj 0x9020 1 (idx * 2 ^ 32 + sub * 2 ^ 24 + st)).count 0x9020 2

/-- A write through any path, by its master: a window write that is refused is recorded, but for a denial by the table. A module
without power performs none. -/
def State.writeBy (s : State) (m : Master) (idx sub : Nat) (bs : List Byte) : State :=
  if s.power.off then s
  else
    let (st, t) := s.objWrite m idx sub bs
    if st ≠ stOk && !(st = stDenied && !s.tableAllows m idx true) && masterWindow m then t.recordRefusal idx sub st else t
def writeOut (s : State) (m : Master) (idx sub n v : Nat) : Out := .next (s.writeBy m idx sub (natBytes n v))

/-- DICTIONARY_WRITE (R412). -/
def execDictionaryWrite (m : Master) (index : BitVec 16) (sub : Byte) (value : List Byte) (s : State) : Out :=
  .next (s.writeBy m index.toNat sub.toNat value)
/-- RESET_COMMAND (R322). -/
def execResetCommand (m : Master) (v : BitVec 32) (s : State) : Out := writeOut s m 0x5040 0 4 v.toNat
/-- RCMD_JOIN (R338). -/
def execRcmdJoin (m : Master) (s : State) : Out := writeOut s m 0x4000 5 1 1
/-- RCMD_LEAVE (R339). -/
def execRcmdLeave (m : Master) (s : State) : Out := writeOut s m 0x4000 5 1 2
/-- RING_CONFIG_WRITE (R374). -/
def execRingConfigWrite (m : Master) (sub : Byte) (v : Word) (s : State) : Out :=
  if sub = 5 then writeOut s m 0x4300 5 8 v.toNat else if sub = 7 then writeOut s m 0x4300 7 2 v.toNat else .next s
/-- SUPPLY_FLAG_CLEAR (R382). -/
def execSupplyFlagClear (m : Master) (v : Byte) (s : State) : Out := writeOut s m 0x2001 2 1 v.toNat
/-- MODULE_REQUEST_RUN (R395). -/
def execModuleRequestRun (m : Master) (s : State) : Out := writeOut s m 0x2012 0 1 2
/-- MODULE_REQUEST_HOLD (R386). -/
def execModuleRequestHold (m : Master) (s : State) : Out := writeOut s m 0x2012 0 1 4
/-- MODULE_REQUEST_OFF (R406). -/
def execModuleRequestOff (m : Master) (s : State) : Out := writeOut s m 0x2012 0 1 7
/-- MODULE_REQUEST_RESTART (R405). -/
def execModuleRequestRestart (m : Master) (s : State) : Out := writeOut s m 0x2012 0 1 8
/-- A write of 0x2013:00 that changes one spur's byte. -/
def spurOut (s : State) (m : Master) (d v : Nat) : Out := writeOut s m 0x2013 0 1024 (setByte (s.obj 0x2013 0) d v)
/-- SPUR_REQUEST_RUN (R384). -/
def execSpurRequestRun (m : Master) (d : SpurId) (s : State) : Out := spurOut s m d 0
/-- SPUR_REQUEST_DOZE (R384). -/
def execSpurRequestDoze (m : Master) (d : SpurId) (s : State) : Out := spurOut s m d 1
/-- SPUR_REQUEST_NAP (R386). -/
def execSpurRequestNap (m : Master) (d : SpurId) (s : State) : Out := spurOut s m d 2
/-- CADENCE_TRACKING (R400). -/
def execCadenceTracking (m : Master) (s : State) : Out := writeOut s m 0x2015 0 1 1
/-- CADENCE_FIXED (R400). -/
def execCadenceFixed (m : Master) (s : State) : Out := writeOut s m 0x2015 0 1 0
/-- RELEASE (R404). -/
def execRelease (m : Master) (s : State) : Out := writeOut s m 0x2014 0 1 1
/-- APPLY (R419). -/
def execApply (m : Master) (portB : Bool) (s : State) : Out := writeOut s m (if portB then 0x4401 else 0x4400) 0x0A 1 1
/-- STORE (R416). -/
def execStore (m : Master) (s : State) : Out := writeOut s m 0x9040 1 1 1
/-- LCREQ (R439). -/
def execLcreq (m : Master) (target : Byte) (s : State) : Out := writeOut s m 0x1002 1 1 target.toNat
/-- MANAGEMENT_KEY_WRITE (R435). -/
def execManagementKeyWrite (m : Master) (key : List Byte) (s : State) : Out := .next (s.writeBy m 0x7001 0 key)
/-- UPDCMD (R445). -/
def execUpdcmd (m : Master) (v : Byte) (s : State) : Out := writeOut s m 0x1001 6 1 v.toNat

end Sys2Proof.Machine
end

