-- ==== Sys2Proof/Machine/Window.lean ====
section
/-! DEFINITION. The device windows of a module: the per-core blocks (R199 to R202), the summit window with the direct map
and the mailboxes (R430 to R434). -/

namespace Sys2Proof.Machine

/-! ### Per-core blocks -/

/-- A load of a word of a per-core block; the owner's load of IWORD clears it (R200). -/
def State.blockLoad (s : State) (c off : Nat) (owner : Bool) : Word × State :=
  let k := s.core c
  match off with
  | 0x00 => (k.iword, if owner then s.modCore c (fun q => { q with iword := 0 }) else s)
  | 0x08 => (k.aerr, s)
  | 0x10 => (k.aadr, s)
  | _ => (0, s)

/-! ### Mailboxes (R432 to R434) -/

def Mailbox.statusWord (b : Mailbox) : Word :=
  w64 (b.done.toNat * 2 ^ 63 + b.run.toNat * 2 ^ 62 + b.length.toNat * 2 ^ 32 + b.status.toNat)
def dataWord (d : Map Byte) (off : Nat) : Nat := bytesNat ((List.range 8).map (fun i => mget byteDef d (off + i)))
def putBytes (d : Map Byte) (off : Nat) : List Byte → Map Byte
  | [] => d
  | b :: bs => putBytes (mset byteDef d off b) (off + 1) bs

/-- A LD.D of a mailbox's word. -/
def State.mailboxLoad (s : State) (m : Master) (i off : Nat) : Word × State :=
  let b := s.mailbox i
  if off = 0 then
    if b.owner = none || b.owner = some m then (1, s.setMailbox i { b with owner := some m }) else (0, s)
  else if off = 8 then (b.cmd, s)
  else if off = 0x10 then (b.statusWord, s)
  else if off = 0x18 then (match b.owner with
    | some o => s.masterIdent o
    | none => 0, s)
  else if 0x800 ≤ off && b.owner = some m then (w64 (dataWord b.data (off - 0x800)), s)
  else (0, s)

/-- A ST.D to a mailbox's word: only the claimant's counts. A claim that ends leaves a running operation to complete.
DEDUCED, log entry 48. -/
def State.mailboxStore (s : State) (m : Master) (i off : Nat) (v : Word) : State :=
  let b := s.mailbox i
  if b.owner ≠ some m then s
  else if off = 0 then s.setMailbox i { b with owner := none, lost := true }
  else if off = 8 then
    if b.run then s else s.setMailbox i { b with cmd := v, run := true, done := false, user := some m, lost := false }
  else if 0x800 ≤ off then s.setMailbox i { b with data := putBytes b.data (off - 0x800) (natBytes 8 v.toNat) }
  else s

/-- The operation of a CMD by master `m`: status, the object's length, the new DATA and the state (R433). DEDUCED, log entry 48. -/
def State.mailboxOp (s : State) (m : Master) (cmd : Word) (data : Map Byte) : Nat × Nat × Map Byte × State :=
  let op := wf cmd 63 62
  let idx := wf cmd 55 40
  let sub := wf cmd 39 32
  let off := wf cmd 31 16
  let n := wf cmd 11 0
  let len := match objDesc idx sub with
    | some (ty, _) => (s.objBytes idx sub ty).length
    | none => 0
  if op = 0 || op = 3 then (stType, len, data, s)
  else if n = 0 || 2048 < n then (stLength, len, data, s)
  else if op = 1 then
    let (st, bs) := s.objRead m idx sub
    if st ≠ stOk then (st, len, data, s)
    else if len ≤ off then (stOffset, len, data, s)
    else (stOk, len, putBytes data 0 ((bs.drop off).take n), s)
  else
    let (st, t) := s.objPut m idx sub (if off ≠ 0 then stLength else stOk) ((List.range n).map (fun j => mget byteDef data j))
    (st, len, data, t)

/-- MAILBOX_OP_DONE: the operation completes; the result of one whose claim has ended is discarded (R433, R434). -/
def execMailboxOpDone (i : Fin 8) (s : State) : Out :=
  let b := s.mailbox i
  match b.run, b.user with
  | true, some m =>
    let (st, len, data, t) := s.mailboxOp m b.cmd b.data
    let b1 := { t.mailbox i with run := false, user := none }
    if !b.lost then
      .next (t.setMailbox i { b1 with
        done := true, status := BitVec.ofNat 8 st, length := BitVec.ofNat 16 len, data := data })
    else .next (t.setMailbox i b1)
  | _, _ => .next s

/-- MAILBOX_CLAIM (R432). -/
def execMailboxClaim (m : Master) (i : Fin 8) (s : State) : Out :=
  .next (if s.power.off then s else (s.mailboxLoad m i 0).2)
/-- MAILBOX_RELEASE (R434). -/
def execMailboxRelease (m : Master) (i : Fin 8) (s : State) : Out :=
  .next (if s.power.off then s else s.mailboxStore m i 0 0)
/-- MAILBOX_READ: a CMD whose OP is a read (R433). -/
def execMailboxRead (m : Master) (i : Fin 8) (cmd : Word) (s : State) : Out :=
  .next (if wf cmd 63 62 = 1 && !s.power.off then s.mailboxStore m i 8 cmd else s)
/-- MAILBOX_WRITE: a CMD whose OP is a write (R433). -/
def execMailboxWrite (m : Master) (i : Fin 8) (cmd : Word) (s : State) : Out :=
  .next (if wf cmd 63 62 = 2 && !s.power.off then s.mailboxStore m i 8 cmd else s)
/-- MAILBOX_CLAIM_EXPIRY (R434). -/
def execMailboxClaimExpiry (i : Fin 8) (s : State) : Out :=
  let b := s.mailbox i
  .next (if b.run then s else s.setMailbox i { b with owner := none, lost := true })

/-! ### The direct map (R431) -/

/-- The object of a doubleword of the direct map: a scalar with a sub-index below 16. -/
def directObj (off : Nat) : Option (Nat × Nat × OType) :=
  let idx := off / 8 / 16
  let sub := off / 8 % 16
  match objDesc idx sub with
  | some (ty, _) => if ty.scalar then some (idx, sub, ty) else none
  | none => none

/-- A scalar's bytes as a doubleword. -/
def scalarWord (ty : OType) (bs : List Byte) : Word :=
  if ty = .i32 then sext64 32 (bytesNat bs) else w64 (bytesNat bs)

def mailboxArea : Nat := 0x800000
def debugArea : Nat := 0x808000

/-- A LD.D in the summit window by a master other than a session: the error code of its answer, the word, the state.
DEDUCED, log entry 48. -/
def State.windowLoad (s : State) (m : Master) (off : Nat) : Nat × Word × State :=
  if off < mailboxArea then
    match directObj off with
    | none => (0, 0, s)
    | some (idx, sub, ty) =>
      let (st, bs) := s.objRead m idx sub
      if st = stDenied then (codeDenied, 0, s) else (0, if st = stOk then scalarWord ty bs else 0, s)
  else if off < debugArea then
    let (w, t) := s.mailboxLoad m ((off - mailboxArea) / 4096) (off % 4096)
    (0, w, t)
  else (codeDenied, 0, s)

/-- A ST.D in the summit window: the error code of its answer, and the state. A refused store changes nothing but its
record (R431). -/
def State.windowStore (s : State) (m : Master) (off : Nat) (v : Word) : Nat × State :=
  if off < mailboxArea then
    match directObj off with
    | none => (0, s.recordRefusal (off / 8 / 16) (off / 8 % 16) stNone)
    | some (idx, sub, ty) =>
      let form := if 2 ^ (8 * ty.size) ≤ v.toNat then stValue else stOk
      let (st, t) := s.objPut m idx sub form (natBytes ty.size v.toNat)
      if st = stDenied && !s.tableAllows m idx true then (codeDenied, t)
      else if st ≠ stOk then (0, t.recordRefusal idx sub st)
      else (0, t)
  else if off < debugArea then (0, s.mailboxStore m ((off - mailboxArea) / 4096) (off % 4096) v)
  else (codeDenied, s)

/-- The master behind a request to the summit window. A request of another device does not say which core sent it.
DEDUCED, log entry 48. -/
def State.reqMaster (s : State) (x : Src) : Master × State :=
  match x with
  | .core c => (.core (Fin.ofNat 1048580 c), s)
  | .cluster k => (.core (Fin.ofNat 1048580 (16 * k)), s)
  | .storePath _ (e :: _) => (.core (Fin.ofNat 1048580 e.core), s)
  | .remote _ d _ =>
    let (v, t) := s.takeFree
    (.remote d (v.truncate 21), t)
  | .summit => (.summit, s)
  | _ => (.host, s)

end Sys2Proof.Machine
end

