-- ==== Sys2Proof/Machine/Debug.lean ====
section
/-! DEFINITION. The BIST engine (R455 to R462) and the debug access path (R451 to R454). -/

namespace Sys2Proof.Machine

/-! ### Result records (R459) -/

def lastItem : Nat := 1271
def resDef (_ : Nat) : BitVec 2 := 0
/-- The results of a run, item i in bits [2i + 1 : 2i]. -/
def resultsNat (r : Map (BitVec 2)) : Nat := r.foldl (fun x e => x + e.2.toNat * 2 ^ (64 * (e.1 / 32) + 2 * (e.1 % 32))) 0
def countResult (r : Map (BitVec 2)) (v : BitVec 2) : Nat := (r.filter (fun e => e.2 = v)).length
/-- 1 passed, 2 failed, 3 passed with untested items. -/
def outcomeOf (r : Map (BitVec 2)) : Nat := if countResult r 2 ≠ 0 then 2 else if countResult r 3 ≠ 0 then 3 else 1

def recSeq (bs : List Byte) : Nat := bytesAt bs 0 4
def recOutcome (bs : List Byte) : Nat := bytesAt bs 5 1
def recValid (bs : List Byte) : Bool := bs.length = 580 && bytesAt bs 576 4 = crcOver poly32c 32 (bs.take 576)
/-- The valid record with the highest SEQ (R460). -/
def Flash.best (f : Flash) : Option (List Byte) :=
  (f.records.filter recValid).foldl (fun m r => match m with
    | none => some r
    | some x => if recSeq x < recSeq r then some r else m) none

/-- The flash keeps the 8 newest records. -/
def State.bistRecord (s : State) (kind : Nat) : State :=
  let f := s.flash
  let seq := (f.records.map recSeq).foldl Nat.max 0 + 1
  let v := imageVersion (s.image (s.obj 0x1001 1))
  let body := natBytes 4 seq ++ natBytes 1 kind ++ natBytes 1 (outcomeOf s.bist.results) ++ natBytes 1 s.lc ++ [0]
    ++ natBytes 4 v ++ List.replicate 52 0 ++ natBytes 512 (resultsNat s.bist.results)
  let rec580 := body ++ natBytes 4 (crcOver poly32c 32 body)
  { s with flash := { f with records := (rec580 :: f.records).take 8 } }

/-! ### Owners (R456, R457) -/

/-- What has power for its own work: the ridge dies, the saddles, the plinths; in a start-up and a wake from
the step and the phase that raise them (R396, R403). -/
def State.ridgeOn (s : State) : Bool :=
  s.mstate = 2 || s.mstate = 3 || (s.mstate = 1 && 7 ≤ s.power.startStep) || (s.mstate = 5 && 5 ≤ s.power.wakePhase)
def State.saddleOn (s : State) : Bool :=
  (2 ≤ s.mstate && s.mstate ≤ 5) || (s.mstate = 1 && 5 ≤ s.power.startStep)
def State.plinthOn (s : State) : Bool :=
  s.mstate = 2 || s.mstate = 3 || (s.mstate = 1 && 5 ≤ s.power.startStep) || (s.mstate = 5 && 2 ≤ s.power.wakePhase)
/-- Whether the lanes of a link have power: those of the Shutik link in Hold and through a pass while HOSTWAKE is 1 (R395, R406). -/
def State.lanesOn (s : State) (l : Nat) : Bool :=
  !s.power.off
  && ((s.mstate = 1 && 7 ≤ s.power.startStep) || s.mstate = 2 || s.mstate = 3 || (s.mstate = 5 && 5 ≤ s.power.wakePhase)
    || ((s.mstate = 4 || s.mstate = 7) && l = 6 && s.obj 0x2041 0 = 1))

/-- Whether the first owner of an item's resource is busy. DEDUCED, log entry 75. -/
def State.itemBusy (s : State) (i : Nat) : Bool :=
  let link (l : Nat) : Bool := s.obj (linkState l) 1 ≠ 0
  let gen (d : Nat) (on : Bool) : Bool := on && (s.domain d).cad ≠ 2
  if i < 12 then link (i % 6)
  else if i < 14 then link 6
  else if i < 46 then s.saddleOn
  else if i < 128 then false
  else if i < 1168 then gen (i - 128) s.ridgeOn
  else if i < 1176 then gen (i - 128) s.saddleOn
  else if i < 1208 then gen (i - 96) s.plinthOn
  else
    let n := i - 1208
    if n < 48 then s.ridgeOn else if n < 56 then s.saddleOn else if n < 63 then s.lanesOn (n - 56) else s.saddleOn
/-- Whether an item needs a partner to loop its lanes back. -/
def farEnd (i : Nat) : Bool := (6 ≤ i && i < 12) || i = 13

/-- An item that is being tested: it belongs to the run and has no result yet. -/
def Bist.testing (b : Bist) (i : Nat) : Bool := b.run && b.first ≤ i && i ≤ b.last && mget resDef b.results i = 0
def State.itemResult (s : State) (i : Nat) (v : BitVec 2) : State :=
  { s with bist := { s.bist with results := mset resDef s.bist.results i v } }

/-- The test of the table that an item belongs to; the tests run in that order (R455). -/
def itemTest (i : Nat) : Nat := if i < 14 then 0 else if i < 46 then 1 else if i < 71 then 2 else if i < 128 then 3 else if i < 1208 then 4 else 5
/-- The ridge die whose generator an item tests. -/
def itemDie (i : Nat) : Option Nat :=
  if 128 ≤ i && i < 1152 then some ((i - 128) / 64) else if 1152 ≤ i && i < 1168 then some (i - 1152) else none
/-- The items of the run that have no result yet. -/
def Bist.left (b : Bist) : List Nat := ((List.range (b.last + 1 - b.first)).map (b.first + ·)).filter b.testing
/-- The ridge die whose rails the engine holds up: that of the first generator that is left, once the tests before are complete. -/
def Bist.raised (b : Bist) : Option Nat :=
  match b.left with
  | [] => none
  | i :: is => if itemTest i = 4 then ((i :: is).filterMap itemDie).head? else none
/-- An item that the engine has come to: the tests before its own are complete, and its die is the one that is raised (R455). DEDUCED,
log entry 75. -/
def Bist.atItem (b : Bist) (i : Nat) : Bool :=
  b.testing i && b.left.all (fun j => itemTest i ≤ itemTest j) && ((itemDie i).isNone || itemDie i = b.raised)
/-- Whether the engine's loopback request to the partner of a far-end item is out: its lanes are free (R455). -/
def State.asksLoopback (s : State) (i : Nat) : Bool := s.bist.atItem i && farEnd i && !s.itemBusy i

/-- BIST_ITEM_DONE: a test ends; the resource of a busy owner is never shared (R455, R457). -/
def execBistItemDone (item : BitVec 11) (pass : Bool) (s : State) : Out :=
  let i := item.toNat
  .next (if s.bist.atItem i && !s.itemBusy i then s.itemResult i (if pass then 1 else 2) else s)

/-- BWAIT_EXPIRY: the owner is still busy, or no partner has looped its lanes back (R455, R457). -/
def execBwaitExpiry (item : BitVec 11) (s : State) : Out :=
  let i := item.toNat
  .next (if s.asksLoopback i || (s.bist.atItem i && s.itemBusy i) then s.itemResult i 3 else s)

/-- BIST_RUN_DONE: every item of the run has its result. A varnish pass writes its record and the last-gasp record, and the
input switch opens (R406); a full direct run writes a record (R459, R462). DEDUCED, log entry 75. -/
def execBistRunDone (s : State) : Out :=
  let b := s.bist
  if !b.run || !b.left.isEmpty then .next s
  else
    let s1 : State := { s with bist := { b with run := false, done := true, outcome := outcomeOf b.results } }
    if b.direct then .next (if b.first = 0 && b.last = lastItem then s1.bistRecord 1 else s1)
    else
      let s2 := s1.bistRecord 0
      .next (({ s2 with flash := { s2.flash with passes := s2.flash.passes + 1 } }.gasp 4).turnOff true)

/-! ### The BIST block (R462) -/

/-- A write of BCMD: a start while a run is in progress, or of no range of items, is ignored. DEDUCED, log entry 75. -/
def State.bcmdWrite (s : State) (v : Word) : State :=
  let b := s.bist
  let first := wf v 10 0
  let last := wf v 26 16
  let s1 : State := { s with bist := { b with bcmd := v } }
  if wf v 63 62 = 1 then
    if b.run || last < first || lastItem < last then s1
    else { s with bist := { run := true, direct := true, first := first, last := last, bcmd := v, done := false
                            outcome := 0, results := [] } }
  else if wf v 63 62 = 2 then (if b.run && b.direct then { s with bist := { b with bcmd := v, run := false } } else s1)
  else s1

def State.bistWord (s : State) (off : Nat) : Word :=
  let b := s.bist
  if off = 0x808000 then b.bcmd
  else if off = 0x808008 then w64 (b.run.toNat * 2 ^ 63 + b.done.toNat * 2 ^ 62 + b.outcome)
  else if 0x809000 ≤ off && off < 0x809200 then w64 (resultsNat b.results / 2 ^ (8 * (off - 0x809000)))
  else 0

/-! ### The core blocks (R454) -/

def coreBlockArea : Nat := 0x900000

/-- The cores of the selected cluster as the debugger finds them: they have stopped, their results have taken effect, and the canvas has
come as far as the spur's beat (R388, R453). -/
def State.haltDone (s : State) : State :=
  match s.halted with
  | some k => (coresOf k.val).foldl (fun t c => (t.landRest c).modCore c (fun q => q.canvasTo (s.beat (clusterSpur k)))) s
  | none => s

/-- Eight bytes of a palette line. -/
def lineWord (l : Line) (i : Nat) : Word := (l >>> (64 * i)).truncate 64
def lineSetWord (l : Line) (i : Nat) (v : Word) : Line := BitVec.ofNat 512 (setFld l.toNat (64 * i + 63) (64 * i) v.toNat)

/-- The doubleword at an offset of the block of core `c`. -/
def State.coreBlockRead (s : State) (c off : Nat) : Word :=
  let k := s.core c
  if off = 0 then k.pc.zeroExtend 64
  else if off < 0x100 then k.sreg (BitVec.ofNat 5 (off / 8))
  else if 0x1000 ≤ off && off < 0x3000 then
    (if sysExists false ((off - 0x1000) / 8) then s.sysRead c (s.beat (coreDomain c)) ((off - 0x1000) / 8) else 0)
  else if 0x3000 ≤ off && off < 0x3040 then
    ((k.cq[(off - 0x3000) / 16]?).elim 0 (fun q => (q.entry >>> (64 * (off / 8 % 2))).truncate 64))
  else if 0x4000 ≤ off && off < 0x8000 then lineWord (k.line ((off - 0x4000) / 64)) (off / 8 % 8)
  else 0

def State.coreBlockWrite (s : State) (c off : Nat) (v : Word) : State :=
  if off = 0 then s.modCore c (fun k => { k with pc := (keep maskAddr v).truncate 48 })
  else if off < 0x100 then s.modCore c (fun k => k.setS (BitVec.ofNat 5 (off / 8)) v)
  else if 0x1000 ≤ off && off < 0x3000 then
    let sr := (off - 0x1000) / 8
    if sysExists false sr && (sysWriteLevel sr).isSome then s.sysWrite c sr v v 3 (s.beat (coreDomain c)) else s
  else if 0x4000 ≤ off && off < 0x8000 then
    s.modCore c (fun k => k.setLine ((off - 0x4000) / 64) (lineSetWord (k.line ((off - 0x4000) / 64)) (off / 8 % 8) v))
  else s

/-! ### Debug reads and writes (R451, R452) -/

def inSummit (a : Nat) : Bool := summitBase ≤ a && a < summitBase + 0x1000000
def inBist (a : Nat) : Bool := summitBase + debugArea ≤ a && a < summitBase + coreBlockArea

/-- The first check: the summit table, with region kind BIST engine for the BIST block and debug elsewhere. -/
def State.debugAllowed (s : State) (m : Master) (a : Nat) (r : Right) : Bool :=
  s.allowed 0x4031 (masterWho m) (if inBist a then 4 else 5) 0 r

def inCairn (a : Nat) : Bool :=
  match regionOf a with
  | .cairn _ _ => true
  | _ => false
/-- A request of a debugger to a cairn: its identity names the management port (R252, R253). -/
def State.cairnAsk (s : State) (m : Master) (a : Nat) (kind : RKind) : Option Ans × State :=
  let src := match m with
    | .session b _ => if b then 4 else 3
    | _ => 5
  let (r, t) := s.request .summit kind (s.ownAddr a) (identWord s.dev src 0 false 0) 0 0
  t.cairnNow r

/-- A doubleword: its error code, its value, the state. DEDUCED, log entry 74. -/
def State.debugRead (s : State) (m : Master) (a : Nat) : Nat × Word × State :=
  let off := a - summitBase
  if inSummit a then
    if off < debugArea then s.windowLoad m off
    else if inBist a then (0, s.bistWord off, s)
    else
      match s.halted with
      | some k =>
        if off < coreBlockArea + 16 * 0x8000 then
          (0, s.coreBlockRead (16 * k.val + (off - coreBlockArea) / 0x8000) ((off - coreBlockArea) % 0x8000), s)
        else (0, 0, s)
      | none => (0, 0, s)
  else if inCairn a then
    match s.cairnAsk m a .loadWord with
    | (some x, t) => (x.code.toNat, if x.code = 0 then w64 (fld x.data.toNat (8 * (a % 128) + 63) (8 * (a % 128))) else 0, t)
    | (none, t) => (codeNoAddress, 0, t)
  else
    let err := s.targetError a (masterWho m) .read
    if err ≠ 0 then (err, 0, s)
    else match regionOf a with
      | .dram =>
        match s.lineGet (a / 128) Config.untranslatedClass with
        | some (code, _, t) => (code, if code = 0 then w64 (t.readMem a 8) else 0, t)
        | none =>
          let (code, t) := s.lineRead (a / 128)
          (code, if code = 0 then w64 (t.readMem a 8) else 0, t)
      | .coreBlock c o =>
        let (w, t) := s.blockLoad c o false
        (0, w, t)
      | _ => (codeNoAddress, 0, s)

/-- DEDUCED, log entry 74. -/
def State.debugWrite (s : State) (m : Master) (a : Nat) (v : Word) : Nat × State :=
  let off := a - summitBase
  if inSummit a then
    if off < debugArea then s.windowStore m off v
    else if inBist a then (0, if off = 0x808000 then s.bcmdWrite v else s)
    else
      match s.halted with
      | some k =>
        if off < coreBlockArea + 16 * 0x8000 then
          (0, s.coreBlockWrite (16 * k.val + (off - coreBlockArea) / 0x8000) ((off - coreBlockArea) % 0x8000) v)
        else (0, s)
      | none => (0, s)
  else if inCairn a then
    match s.cairnAsk m a (.word v) with
    | (some x, t) => (x.code.toNat, t)
    | (none, t) => (codeNoAddress, t)
  else
    let err := s.targetError a (masterWho m) .write
    if err ≠ 0 then (err, s)
    else match regionOf a with
      | .dram =>
        match s.writeNow a (natBytes 8 v.toNat) with
        | (true, t) => (0, t)
        | (false, t) => (0, t.sendNew .summit (.word v) (t.ownAddr a) (t.masterIdent m) Config.untranslatedClass 0)
      | .coreBlock c o => (0, s.blockStore c o v)
      | _ => (codeNoAddress, s)

/-- Doublewords from `a` on: the code of the first failing one, the words, the state. -/
def State.debugReads (s : State) (m : Master) : Nat → Nat → Nat × List Byte × State
  | _, 0 => (0, [], s)
  | a, n + 1 =>
    let (c1, w, t) := s.debugRead m a
    let (c2, bs, u) := State.debugReads t m (a + 8) n
    (if c1 ≠ 0 then c1 else c2, natBytes 8 w.toNat ++ bs, u)
def State.debugWrites (s : State) (m : Master) : Nat → List Word → Nat × State
  | _, [] => (0, s)
  | a, v :: vs =>
    let (c1, t) := s.debugWrite m a v
    let (c2, u) := State.debugWrites t m (a + 8) vs
    (if c1 ≠ 0 then c1 else c2, u)

/-- Whether the life-cycle state lets a session use the debug path: the status of one that may not (R436, R451). -/
def State.debugStatus (s : State) (m : Master) : Nat :=
  if s.lc = 1 then stOk
  else if s.lc = 4 then (if s.holds m then stOk else stHolder)
  else stState

/-- The doublewords of a list of bytes. -/
def wordsIn : Nat → List Byte → List Word
  | 0, _ => []
  | n + 1, bs => if bs.length < 8 then [] else w64 (bytesNat (bs.take 8)) :: wordsIn n (bs.drop 8)

/-- The addresses of `n` doublewords. -/
def debugRun (a n : Nat) : List Nat := (List.range n).map (a + 8 * ·)
/-- Whether the saddles serve every address of a request: not in Hold and Safe Hold (R452). -/
def State.debugBusy (s : State) (a n : Nat) : Bool :=
  (debugRun a n).any (fun x => !inSummit x) && (s.mstate = 4 || s.mstate = 6)
/-- The first check, of every address of a request (R451). -/
def State.debugMay (s : State) (m : Master) (a n : Nat) (r : Right) : Bool := (debugRun a n).all (fun x => s.debugAllowed m x r)

/-- The status of a debug read or write that the checks refuse: the life cycle, the lengths, the alignment, the summit table, the
module state, in this order (R451, R452). DEDUCED, log entry 74. -/
def State.debugCheck (s : State) (m : Master) (d : Dgram) (write : Bool) : Nat :=
  let a := bytesNat (d.data.take 8)
  let n := if write then d.data.length / 8 - 1 else d.aux.toNat
  if s.debugStatus m ≠ stOk then s.debugStatus m
  else if (if write then d.data.length < 16 || d.data.length % 8 ≠ 0 else d.data.length ≠ 8 || n = 0 || 128 < n) then stLength
  else if a % 8 ≠ 0 then stValue
  else if !s.debugMay m a n (if write then .write else .read) then stDenied
  else if s.debugBusy a n then stBusy else stOk

/-- DBGRD: status, AUX, DATA (R452). -/
def State.dbgrd (s : State) (m : Master) (d : Dgram) : Nat × Nat × List Byte × State :=
  if s.debugCheck m d false ≠ stOk then (s.debugCheck m d false, 0, [], s)
  else
    let (code, bs, t) := s.haltDone.debugReads m (bytesNat (d.data.take 8)) d.aux.toNat
    (stOk, code, bs, t)

/-- DBGWR: status, AUX (R452). -/
def State.dbgwr (s : State) (m : Master) (d : Dgram) : Nat × Nat × List Byte × State :=
  if s.debugCheck m d true ≠ stOk then (s.debugCheck m d true, 0, [], s)
  else
    let (code, t) := s.haltDone.debugWrites m (bytesNat (d.data.take 8)) (wordsIn 128 (d.data.drop 8))
    (stOk, code, [], t)

/-- The cores whose blocks a permitted debug read or write reaches while their rim holds what arrives (R392). -/
def State.debugKept (s : State) (m : Master) (d : Dgram) (write : Bool) : List Nat :=
  if s.debugCheck m d write ≠ stOk then []
  else (debugRun (bytesNat (d.data.take 8)) (if write then d.data.length / 8 - 1 else d.aux.toNat)).filterMap (fun a =>
    if inSummit a then none
    else match regionOf a with
      | .coreBlock c _ => if s.rimKeeps c then some c else none
      | _ => none)

/-- DBGHALT: every core of the cluster stops at its next boundary (R453). -/
def State.dbghalt (s : State) (m : Master) (d : Dgram) : Nat × Nat × List Byte × State :=
  let k : ClusterId := Fin.ofNat 65536 d.aux.toNat
  let other : Bool := match s.halted with
    | some h => decide (h ≠ k)
    | none => false
  if s.debugStatus m ≠ stOk then (s.debugStatus m, 0, [], s)
  else if !s.allowed 0x4031 (masterWho m) 5 0 .write then (stDenied, 0, [], s)
  else if other || s.clusterFenced k || (s.cluster k).phase == .parked then (stBusy, 0, [], s)
  else (stOk, 0, [], (coresOf k).foldl (fun t c => t.tryStop c) { s with halted := some k })

/-- DBGRUN: the halted cluster resumes at its stop points (R453). DEDUCED, log entry 74. -/
def State.dbgrun (s : State) (m : Master) (d : Dgram) : Nat × Nat × List Byte × State :=
  if s.debugStatus m ≠ stOk then (s.debugStatus m, 0, [], s)
  else if !s.allowed 0x4031 (masterWho m) 5 0 .write then (stDenied, 0, [], s)
  else match s.halted with
    | some h =>
      if h.val = d.aux.toNat then (stOk, 0, [], { s with halted := none }.resumeCluster h) else (stValue, 0, [], s)
    | none => (stValue, 0, [], s)

end Sys2Proof.Machine
end

