-- ==== Sys2Proof/Machine/Mgmt.lean ====
section
/-! DEFINITION. The management ports (R417 to R419), the dictionary protocol and its sessions (R420 to R425), attestation
requests (R449) and debug requests (R452). -/

namespace Sys2Proof.Machine

/-! ### Ports -/

def portIdx (portB : Bool) : Nat := if portB then 0x4401 else 0x4400
/-- The management domain runs, and the port is enabled (R403, R419). -/
def State.portEnabled (s : State) (portB : Bool) : Bool :=
  !s.power.off && 2 ≤ s.power.startStep && mget objDefault s.inUse (okey (portIdx portB) 1) = 1
/-- The port takes part in its segment: its link is up, and its address is its own (R418). DEDUCED, log entry 70. -/
def State.portServes (s : State) (portB : Bool) : Bool := s.portEnabled portB && s.obj (portIdx portB) 9 = 1

/-- MGMT_LINK_UP (R418): a duplicate address stands until the next APPLY. -/
def execMgmtLinkUp (portB : Bool) (s : State) : Out :=
  let t : State := { s with linksUp := if s.linksUp.contains portB then s.linksUp else portB :: s.linksUp }
  .next (if s.portEnabled portB && s.obj (portIdx portB) 9 = 0 then (t.setObj (portIdx portB) 9 1).detect portB else t)

/-- MGMT_LINK_DOWN (R419); a duplicate address stands (R418). -/
def execMgmtLinkDown (portB : Bool) (s : State) : Out :=
  let t : State := { s with linksUp := s.linksUp.filter (· ≠ portB) }
  .next (if s.portServes portB then t.setObj (portIdx portB) 9 0 else t)

/-- DUPLICATE_ADDRESS (R418). DEDUCED, log entry 70. -/
def execDuplicateAddress (portB : Bool) (s : State) : Out :=
  .next (if s.portServes portB then s.setObj (portIdx portB) 9 2 else s)

/-- NEIGHBOR_SOLICITATION: a Neighbor Advertisement of the own address; any other target is another frame (R418).
DEDUCED, log entry 70. -/
def execNeighborSolicitation (portB : Bool) (target : Word) (s : State) : Out :=
  .next (if !s.portServes portB then s
    else if target.toNat = ownIid portB.toNat then s.icmp portB 136 (ownAddress portB.toNat)
    else s.count (portIdx portB) 0x0D)

/-- ECHO_REQUEST: an Echo Reply with the request's payload (R418). -/
def execEchoRequest (portB : Bool) (payload : List Byte) (s : State) : Out :=
  .next (if s.portServes portB then s.icmp portB 129 payload else s)

/-- MGMT_FRAME_DISCARDED (R418). -/
def execMgmtFrameDiscarded (portB : Bool) (s : State) : Out :=
  .next (if s.portEnabled portB && s.obj (portIdx portB) 9 ≠ 0 then s.count (portIdx portB) 0x0D else s)

/-! ### Datagrams (R420) -/

/-- Every byte before TAG. -/
def dgramBytes (d : Dgram) : List Byte :=
  [d.ver, d.type] ++ natBytes 2 d.sid.toNat ++ natBytes 4 d.seq.toNat ++ natBytes 2 d.index.toNat ++ [d.sub, d.status]
  ++ natBytes 4 d.offset.toNat ++ natBytes 2 d.length.toNat ++ natBytes 2 d.aux.toNat ++ d.data
def dgramTagged (d : Dgram) (key : List Byte) : Bool := d.tag = hmacSha256 key (dgramBytes d)
/-- The reply to a datagram, with its tag, to the address and port it came from. DEDUCED, log entry 69. -/
def dgramReply (d : Dgram) (key : List Byte) (sid : BitVec 16) (status aux : Nat) (data : List Byte) : Dgram :=
  let r := { d with
    type := d.type + 0x80, sid := sid, status := BitVec.ofNat 8 status, aux := BitVec.ofNat 16 aux, data := data, tag := []
    length := BitVec.ofNat 16 data.length, srcPrefix := d.dstPrefix, iid := d.dstIid, srcPort := d.dstPort
    dstPrefix := d.srcPrefix, dstIid := d.iid, dstPort := d.srcPort }
  { r with tag := hmacSha256 key (dgramBytes r) }
def State.reply (s : State) (d : Dgram) : State := { s with replies := s.replies ++ [d] }

/-- A session key (R422). -/
def sessionKey (key nc nd : List Byte) (sid : BitVec 16) (portB : Bool) : List Byte :=
  hmacSha256 key (nc ++ nd ++ natBytes 2 sid.toNat ++ natBytes 1 portB.toNat)

/-- Whether the port takes a datagram: both addresses are link-local, its own is the destination, and the UDP port in use (R418). -/
def State.takesDgram (s : State) (d : Dgram) : Bool :=
  d.srcPrefix.toNat / 2 ^ 54 = 0x3FA && d.dstPrefix = 0xFE80000000000000 && d.dstIid = w64 (ownIid d.portB.toNat)
  && d.dstPort.toNat = mget objDefault s.inUse (okey (portIdx d.portB) 7)
/-- Whether a datagram has the length that its LENGTH says, at most 1,024 data bytes (R420), and VER 0x01. -/
def dgramForm (d : Dgram) : Bool :=
  20 + d.data.length + d.tag.length = 52 + d.length.toNat && d.length.toNat ≤ 1024 && d.ver = 1
/-- What every datagram meets: a port that serves, and the tests that discard it (R418, R420). -/
def mgmtOut (s : State) (d : Dgram) (ok : Bool) (f : State) : Out :=
  .next (if !s.portServes d.portB || !ok then s
    else if !s.takesDgram d || !dgramForm d then s.count (portIdx d.portB) 0x0D else f)

/-! ### OPEN (R422) -/

/-- The state after an OPEN whose tag is right: the lowest free slot of the port is taken. DEDUCED, log entry 69. -/
def State.openSession (s : State) (d : Dgram) (nonce : List Byte) : State :=
  let k := s.flash.key
  let s1 := s.count (portIdx d.portB) 0x0B
  if d.data.length ≠ 16 then s1.reply (dgramReply d k 0 stLength 0 [])
  else match (slotsOf d.portB).find? (fun n => (s.session n).st = 0) with
    | none => s1.reply (dgramReply d k 0 stBusy 0 [])
    | some n =>
      let opens := (s.session n).opens + 1
      let sid : BitVec 16 := BitVec.ofNat 16 (opens % 4096 * 16 + n)
      let sk := sessionKey k d.data nonce sid d.portB
      (s1.setSession n { st := 1, sid := sid, opens := opens % 4096, key := sk, iid := d.iid }).reply
        (dgramReply d sk sid stOk 0 nonce)

/-- OPEN; `nonce` is what the random source gives. DEDUCED, log entry 69. -/
def execMgmtOpen (d : Dgram) (nonce : List Byte) (s : State) : Out :=
  mgmtOut s d (d.type = 1)
    (if dgramTagged d s.flash.key then s.openSession d nonce
     else (s.count (portIdx d.portB) 0x0C).count 0x9002 (d.portB.toNat + 1))

/-! ### Requests in a session (R423, R424) -/

/-- What a request answers: status, AUX, DATA, and the state after it. -/
abbrev Reply := Nat × Nat × List Byte × State

/-- The requests that a Retired module serves (R440). DEDUCED, log entry 71. -/
def retiredServes (d : Dgram) : Bool :=
  (d.type = 2 || d.type = 3) && (d.index = 0x1000 || (d.index = 0x7000 && d.sub = 2))

/-- The reply to a request leaves, and is kept (R423). -/
def State.answerReq (s : State) (n : Nat) (d : Dgram) (r : Reply) : State :=
  let x := s.session n
  let (st, aux, data, t) := r
  let rep := dgramReply d x.key d.sid st aux data
  let t1 := t.reply rep
  if (t1.session n).st = 0 then t1 else t1.setSession n { t1.session n with lastReply := some rep }

/-- A request with the next SEQ is performed. DEDUCED, log entry 71. -/
def State.perform (s : State) (n : Nat) (d : Dgram) (body : State → Master → Nat → Reply) : State :=
  let x := s.session n
  let s1 := s.setSession n { x with st := 2, lastSeq := d.seq, iid := d.iid, lastReply := none }
  s1.answerReq n d
    (if s.lc = 5 && !retiredServes d then (stState, 0, [], s1)
     else if s.romOnly && 0x20 ≤ d.type.toNat then (stBusy, 0, [], s1)
     else body s1 (.session d.portB d.sid) n)

/-- A request of a session: one that the session does not know, or whose tag or SEQ is wrong, is discarded; one
with the last SEQ is answered again. DEDUCED, log entry 69. -/
def State.request423 (s : State) (d : Dgram) (body : State → Master → Nat → Reply) : State :=
  let n := d.sid.toNat % 16
  let x := s.session n
  let bad := s.count (portIdx d.portB) 0x0C
  let ok := s.count (portIdx d.portB) 0x0B
  if !(slotsOf d.portB).contains n || x.st = 0 || x.sid ≠ d.sid || !dgramTagged d x.key then bad
  else if d.seq = x.lastSeq + 1 then ok.perform n d body
  else if d.seq = x.lastSeq && x.st = 2 then
    (match x.lastReply with
     | some r => ok.reply r
     | none => ok)
  else bad

/-- A request of a type. -/
def sessionOut (s : State) (d : Dgram) (ty : Nat) (body : State → Master → Nat → Reply) : Out :=
  mgmtOut s d (d.type.toNat = ty) (s.request423 d body)

/-! ### Dictionary requests (R421, R425) -/

/-- DEDUCED, log entry 67. -/
def State.mgmtRead (d : Dgram) (s : State) (m : Master) : Reply :=
  let idx := d.index.toNat
  let sub := d.sub.toNat
  let (st, bs) := s.objRead m idx sub
  let len := match objDesc idx sub with
    | some (ty, _) => (s.objBytes idx sub ty).length
    | none => 0
  if st ≠ stOk then (st, 0, [], s)
  else if d.aux = 0 || 1024 < d.aux.toNat then (stLength, 0, [], s)
  else if len ≤ d.offset.toNat then (stOffset, len, [], s)
  else (stOk, len, (bs.drop d.offset.toNat).take d.aux.toNat, s)

/-- DEDUCED, log entry 67. -/
def State.mgmtWrite (d : Dgram) (s : State) (m : Master) : Reply :=
  let idx := d.index.toNat
  let sub := d.sub.toNat
  let (st, t) := s.objPut m idx sub (if d.offset ≠ 0 then stLength else stOk) d.data
  (st, 0, [], t)

/-- A LOCK or RENEW that another holder refuses names it. -/
def holderData (s : State) : List Byte := natBytes 8 s.holderWord.toNat ++ natBytes 4 (s.objValue 0x9010 2)
def lockReply (r : Nat × State) : Reply := (r.1, 0, if r.1 = stBusy then holderData r.2 else [], r.2)

/-- READ. -/
def execRead (d : Dgram) (s : State) : Out := sessionOut s d 0x02 (fun t m _ => State.mgmtRead d t m)
/-- WRITE. -/
def execWrite (d : Dgram) (s : State) : Out := sessionOut s d 0x03 (fun t m _ => State.mgmtWrite d t m)
/-- LOCK (R427). -/
def execLock (d : Dgram) (s : State) : Out := sessionOut s d 0x04 (fun t m _ => lockReply (t.lock m d.aux.toNat))
/-- RENEW (R427). -/
def execRenew (d : Dgram) (s : State) : Out := sessionOut s d 0x05 (fun t m _ => lockReply (t.renew m d.aux.toNat))
/-- UNLOCK (R427). -/
def execUnlock (d : Dgram) (s : State) : Out := sessionOut s d 0x06 (fun t m _ => lockReply (t.unlock m))
/-- CLOSE: the slot is free after the reply (R424). -/
def execClose (d : Dgram) (s : State) : Out := sessionOut s d 0x07 (fun t _ n => (stOk, 0, [], t.freeSession n))

/-- The assigned request types. -/
def typeKnown (ty : Nat) : Bool := (1 ≤ ty && ty ≤ 7) || (0x20 ≤ ty && ty ≤ 0x25)
/-- UNKNOWN_REQUEST_TYPE (R421). -/
def execUnknownRequestType (d : Dgram) (s : State) : Out :=
  if typeKnown d.type.toNat then .next s else sessionOut s d d.type.toNat (fun t _ _ => (stType, 0, [], t))

/-- SESSION_IDLE_EXPIRY (R424). DESIGN CHOICE, log entry 2. -/
def execSessionIdleExpiry (slot : Fin 8) (s : State) : Out :=
  .next (if (s.session (slot.val + 1)).st = 0 then s else s.freeSession (slot.val + 1))

/-! ### Attestation requests (R449) -/

def reportLength : Nat := 5844
/-- The states that attest, unless the signature state is corrupt or used up (R436, R447). DEDUCED, log entry 72. -/
def State.attests (s : State) : Bool :=
  (s.lc = 2 || s.lc = 3 || s.lc = 4) && s.flash.point.isSome && s.signQ < 2 ^ 40

/-- DEDUCED, log entry 72. -/
def State.attest (d : Dgram) (s : State) (n : Nat) : Reply :=
  let x := s.session n
  if !s.attests then (stState, 0, [], s)
  else if d.data.length ≠ 32 then (stLength, 0, [], s)
  else if x.nonce.isSome then (stBusy, 0, [], s)
  else (stOk, 0, [], { s.setSession n { x with nonce := some d.data, report := [] } with signWait := s.signWait ++ [n] })

/-- DEDUCED, log entry 72. -/
def State.aread (d : Dgram) (s : State) (n : Nat) : Reply :=
  let x := s.session n
  if x.nonce.isSome then (stBusy, 0, [], s)
  else if d.aux = 0 || 1024 < d.aux.toNat then (stLength, 0, [], s)
  else if x.report.length ≤ d.offset.toNat then (stOffset, reportLength, [], s)
  else (stOk, reportLength, (x.report.drop d.offset.toNat).take d.aux.toNat, s)

/-- ATTEST. -/
def execAttest (d : Dgram) (s : State) : Out := sessionOut s d 0x20 (fun t _ n => State.attest d t n)
/-- AREAD. -/
def execAread (d : Dgram) (s : State) : Out := sessionOut s d 0x21 (fun t _ n => State.aread d t n)

/-! ### Debug requests (R452, R453, R462) -/

/-- A read or a write of a debugger. -/
def State.debugBody (d : Dgram) (write : Bool) (s : State) (m : Master) : Reply := if write then s.dbgwr m d else s.dbgrd m d
/-- The debug requests that a napping spur's rim has held are performed, those of sessions that have ended discarded (R392, R424). -/
def State.debugResume (s : State) : State :=
  s.heldDebug.foldl (fun t x =>
    let (n, d) := x
    let m : Master := .session d.portB d.sid
    let write := decide (d.type = 0x23)
    if (t.session n).st = 0 || (t.session n).sid ≠ d.sid then t
    else if !(t.debugKept m d write).isEmpty then { t with heldDebug := t.heldDebug ++ [x] }
    else t.answerReq n d (t.debugBody d write m)) { s with heldDebug := [] }

/-- A debug read or write: one that reaches a block of a napping spur's core is held by its rim, and wakes the spur (R392, R395).
DEDUCED, log entry 47. -/
def debugOut (s : State) (d : Dgram) (write : Bool) : Out :=
  mgmtOut s d (d.type.toNat = if write then 0x23 else 0x22)
    (let n := d.sid.toNat % 16
     let m : Master := .session d.portB d.sid
     let next := (s.session n).st ≠ 0 && (s.session n).sid = d.sid && dgramTagged d (s.session n).key
       && d.seq = (s.session n).lastSeq + 1 && !(s.lc = 5) && !s.romOnly
     let woken := (s.debugKept m d write).foldl (fun t c => t.spurSource (spurOf c) 3) s
     if next && (slotsOf d.portB).contains n && !(woken.debugKept m d write).isEmpty then
       let t := woken.count (portIdx d.portB) 0x0B
       { t.setSession n { t.session n with st := 2, lastSeq := d.seq, iid := d.iid, lastReply := none } with
         heldDebug := t.heldDebug ++ [(n, d)] }
     else (if next then woken else s).request423 d (fun t m _ => t.debugBody d write m))

/-- DBGRD. -/
def execDbgrd (d : Dgram) (s : State) : Out := debugOut s d false
/-- DBGWR. -/
def execDbgwr (d : Dgram) (s : State) : Out := debugOut s d true
/-- DBGHALT. -/
def execDbghalt (d : Dgram) (s : State) : Out := sessionOut s d 0x24 (fun t m _ => t.dbghalt m d)
/-- DBGRUN. -/
def execDbgrun (d : Dgram) (s : State) : Out := sessionOut s d 0x25 (fun t m _ => t.dbgrun m d)

/-- A debug write of BCMD with an OP. -/
def bcmdDgram (d : Dgram) (op : Nat) : Bool :=
  bytesNat (d.data.take 8) = summitBase + debugArea && d.data.length = 16 && wf (w64 (bytesNat (d.data.drop 8))) 63 62 = op
/-- BIST_START: a debug write of a start to BCMD. -/
def execBistStart (d : Dgram) (s : State) : Out :=
  if bcmdDgram d 1 then debugOut s d true else .next s
/-- BIST_ABORT: a debug write of an abort to BCMD. -/
def execBistAbort (d : Dgram) (s : State) : Out :=
  if bcmdDgram d 2 then debugOut s d true else .next s

/-! ### Wakes, behind which held debug requests are performed -/

/-- SPUR_WAKE (R397). -/
def execSpurWake (d : SpurId) (s : State) : Out := .next (s.spurWoken d).debugResume
/-- CLUSTER_RESTORE (R398). -/
def execClusterRestore (k : ClusterId) (s : State) : Out := .next (s.clusterRestored k).debugResume
/-- WAKE_PHASE_END (R396). -/
def execWakePhaseEnd (s : State) : Out := .next s.wakePhaseEnded.debugResume

end Sys2Proof.Machine
end

