-- ==== Sys2Proof/Machine/Security.lean ====
section
/-! DEFINITION. Start-up (R403, R443, R444, R460), life-cycle transitions (R436 to R440), firmware updates (R445) and the
signing unit (R446 to R450). -/

namespace Sys2Proof.Machine

/-! ### Start-up -/

/-- The image that step 3 runs, by its number (R443). -/
def State.bootImage (s : State) : Option Nat :=
  let a := imageValid s.fuses s.flash.imageA
  let b := imageValid s.fuses s.flash.imageB
  if a && b then some (if imageVersion s.flash.imageA < imageVersion s.flash.imageB then 1 else 0)
  else if a then some 0 else if b then some 1 else none

/-- The four boot cores start at the firmware entry point with their reset values (R189).
DESIGN CHOICE, log entry 6. DEDUCED, log entry 37. -/
def State.bootCores (s : State) : State :=
  let entry := Config.bootEntry (imageEntry0 (s.image (s.obj 0x1001 1))) &&& ~~~3
  (List.range 4).foldl (fun t i => t.setCore (bootBase + i) { pc := entry, next := t.beat bootDomain, bbase := t.beat bootDomain }) s

/-- Item i of a record. -/
def recItem (bs : List Byte) (i : Nat) : Nat := bytesAt bs (64 + i / 4) 1 / 4 ^ (i % 4) % 4
def recCount (bs : List Byte) (v : Nat) : Nat := ((List.range 1272).filter (fun i => recItem bs i = v)).length
/-- The record that step 4 uses goes to its objects (R458, R460). DEDUCED, log entry 68. -/
def State.recordObjects (s : State) : State :=
  match s.flash.best with
  | none => s.setObj 0x6000 1 0
  | some r =>
    ((((s.setObj 0x6000 1 (recOutcome r)).setObj 0x6002 0 (bytesNat r)).setObj 0x6003 1 (recCount r 1)).setObj 0x6003 2
      (recCount r 2)).setObj 0x6003 3 (recCount r 3)

/-- DEDUCED, log entry 63. -/
def State.startTo (s : State) (k : Nat) : State := s.modPower (fun p => { p with startStep := k })

/-- A start-up step ends (R403): step 3 chooses the image, step 4 checks the record and the life-cycle state (R436), after step
6 the ports train, and with step 7 the module is Ready: SVN fuses follow the running image (R444), and the link
engine configures its ring cairn (R374). DEDUCED, log entry 63. -/
def execStartupStepEnd (s : State) : Out :=
  .next (if s.power.off || s.mstate ≠ 1 || s.power.abandoned then s
  else match s.power.startStep with
    | 1 => s.startTo 2
    | 2 => s.startTo 3
    | 3 =>
      (match s.bootImage with
       | none => (s.setObj 0x1001 1 0xFF).safeHold
       | some n => ((s.setObj 0x1001 1 n).bootCores).startTo 4)
    | 4 =>
      let t := s.recordObjects
      if t.obj 0x6000 1 = 2 || t.lc = 0 || t.lc = 5 then t.safeHold else t.startTo 5
    | 5 => s.startTo 6
    | 6 => (s.portsTrain).startTo 7
    | 7 =>
      let svn := imageSvn (s.image (s.obj 0x1001 1))
      let t : State := { s with fuses := { s.fuses with svn := Nat.max s.fuses.svn svn } }
      ((t.setMstate 2).startTo 8).ringConfig
    | _ => s)

/-! ### Life cycle -/

/-- `n` words of the summit's random source (R446): free values. -/
def State.drawBytes (s : State) : Nat → List Byte × State
  | 0 => ([], s)
  | n + 1 =>
    let (v, t) := s.takeFree
    let (bs, u) := t.drawBytes n
    (natBytes 8 v.toNat ++ bs, u)

/-- The identity key is generated: SEED and I are drawn and burned into the identity bank, from which the public key comes (R446). -/
def State.makeIdentity (s : State) : State :=
  let (seed, s1) := s.drawBytes 4
  let (id, s2) := s1.drawBytes 2
  let k : LmsKey := { seed := seed, id := id }
  { s2 with fuses := { s2.fuses with identity := k, publicKept := none } }

/-- The identity bank with every fuse blown (R440). -/
def blownBank : LmsKey := { seed := List.replicate 32 0xFF, id := List.replicate 16 0xFF }

/-- Every debug session use ends: a direct run stops, and a halted cluster resumes (R440). DEDUCED, log entry 74. -/
def State.endDebug (s : State) : State :=
  let s1 : State := if s.bist.run && s.bist.direct then { s with bist := { s.bist with run := false } } else s
  match s1.halted with
  | some k => { s1 with halted := none }.resumeCluster k
  | none => s1

/-- The effects of entering a life-cycle state (R437, R440, R446). DEDUCED, log entry 74. -/
def State.enterLc (s : State) (v : Nat) : State :=
  let toggle := (s.lc = 3 && v = 4) || (s.lc = 4 && v = 3)
  let s1 : State := { s with fuses := { s.fuses with lc := v, toggles := s.fuses.toggles + toggle.toNat } }
  let s2 := if s.lc = 1 || s.lc = 4 then s1.endDebug else s1
  if v = 2 then s2.makeIdentity
  else if v = 5 then
    let s3 : State := { s2 with
      flash := { s2.flash with key := List.replicate 32 0 }, fuses := { s2.fuses with identity := blownBank, publicKept := some s2.fuses.identity.hssPublic } }
    (s3.freePort false).freePort true
  else s2

/-- LIFECYCLE_TRANSITION_DONE: the last fuse is verified, or its burn has failed (R439, R440). -/
def execLifecycleTransitionDone (verified : Bool) (s : State) : Out :=
  .next (if s.obj 0x1002 2 ≠ 1 then s
    else if verified then (s.enterLc (s.obj 0x1002 1)).setObj 0x1002 2 2 else s.setObj 0x1002 2 3)

/-! ### Firmware update -/

/-- The staged image, read as the requests of the summit: whether it could be read, its bytes, the state; nothing where the read has to
wait (R231, R361, R445). -/
def State.stagedRead (s : State) : Option (Bool × List Byte × State) :=
  let a := s.obj 0x1001 4
  let n := s.obj 0x1001 5
  (s.sumRead (touched a n)).map (fun (ok, t) => (ok, t.readBytes a n, t))

/-- The code that verifying the staged image gives: 0 where it may be installed (R442, R445); an image that cannot be read does not
verify. DEDUCED, log entry 73. -/
def State.stagedCode (s : State) : Option (Nat × State) :=
  let a := s.obj 0x1001 4
  let n := s.obj 0x1001 5
  if slotSize < n || dramSize < a + n then some (6, s)
  else s.stagedRead.map (fun (ok, bs, t) =>
    (if !ok then 4
     else if n ≠ 0x7C + imageBody bs + 3284 then 6
     else if !imageShape bs || !imageAuthentic s.fuses.keyHash bs then 4
     else if imageSvn bs < s.fuses.svn then 5 else 0, t))

/-- The slot that is not in use holds `bs` (R445). -/
def State.putSlot (s : State) (bs : List Byte) : State :=
  { s with flash := if s.obj 0x1001 1 = 0 then { s.flash with imageB := bs } else { s.flash with imageA := bs } }

/-- FIRMWARE_UPDATE_DONE: a step of the install ends. Verifying ends in a refusal, or goes on to writing with the slot erased;
writing ends with the slot read back and verified again, where `flashOk` says that the flash took every byte. A slot that was not
written well is invalid. DESIGN CHOICE, log entry 13. DEDUCED, log entry 73. -/
def execFirmwareUpdateDone (flashOk : Bool) (s : State) : Out :=
  .next (if s.obj 0x1001 6 = 1 then
      (match s.stagedCode with
       | none => s
       | some (code, t) => if code ≠ 0 then t.setObj 0x1001 6 code else (t.putSlot []).setObj 0x1001 6 2)
    else if s.obj 0x1001 6 = 2 then
      (match s.stagedRead with
       | none => s
       | some (ok, bs, t) =>
         if flashOk && ok && imageValid s.fuses bs then (t.putSlot bs).setObj 0x1001 6 3 else t.setObj 0x1001 6 7)
    else s)

/-! ### The signing unit -/

/-- The body of a report (R450). -/
def State.reportBody (s : State) (nonce : List Byte) (q : Nat) : List Byte :=
  let use := s.obj 0x1001 1
  let ver (n : Nat) : Nat := if imageValid s.fuses (s.image n) then imageVersion (s.image n) else 0
  let hash := sha256 (imageSigned (s.image use))
  natBytes 4 0x54415A45 ++ natBytes 2 1 ++ natBytes 1 s.lc ++ natBytes 1 use ++ digits 12 serialNo
  ++ natBytes 2 Config.hwRevision.toNat ++ natBytes 2 s.dev ++ natBytes 4 (ver 0) ++ natBytes 4 (ver 1) ++ hash
  ++ (nonce ++ List.replicate 32 0).take 32 ++ natBytes 5 q ++ natBytes 1 (s.obj 0x6000 1) ++ natBytes 1 s.fuses.svn
  ++ List.replicate 25 0

/-- The reservation point moves on before the index at it is used (R447). DEDUCED, log entry 72. -/
def Flash.reserve (f : Flash) (q : Nat) : Flash :=
  match f.point with
  | some p => if q < p then f else { f with rpA := rpCopy (p + 1024), rpB := rpCopy (p + 1024) }
  | none => f

/-- REPORT_SIGNED: the oldest request gets its report (R447 to R450). -/
def execReportSigned (s : State) : Out :=
  match s.signWait with
  | [] => .next s
  | n :: rest =>
    if s.treeDue || !s.attests then .next s
    else
      let q := s.signQ
      let x := s.session n
      let body := s.reportBody (x.nonce.getD []) q
      let sig := s.fuses.identity.hssSign q body
      .next { s.setSession n { x with nonce := none, report := body ++ sig } with
        flash := s.flash.reserve q, signQ := q + 1, signWait := rest, treeDue := (q + 1) % 2 ^ 20 = 0 }

/-- LEVEL1_TREE_COMPUTE (R448). -/
def execLevel1TreeCompute (s : State) : Out := .next { s with treeDue := false }

end Sys2Proof.Machine
end

