-- ==== Sys2Proof/Machine/Notices.lean ====
section
/-! DEFINITION. What the manager's summit computes and sends: routes (R339, R340, R358), the end of a JOIN (R339), and the notices
that every summit writes (R344, R345). -/

namespace Sys2Proof.Machine

/-! ### Notices (R344, R345) -/

def noticeRecovered : Nat := 1
def noticeLost : Nat := 2
def noticeJoined : Nat := 3
def noticeManagerLost : Nat := 4

/-- The 32 bytes of a record. DEDUCED, log entry 57. -/
def noticeBytes (w kind dev : Nat) (drop : Bool) (step record : Nat) : List Byte :=
  natBytes 8 ((w + 1) % 2 ^ 32 * 2 ^ 32 + kind * 2 ^ 24 + dev) ++ natBytes 8 (drop.toNat * 2 ^ 32 + step)
  ++ natBytes 8 (if kind = noticeRecovered then record else 0) ++ natBytes 8 0

/-- IP[3] of every notice target. -/
def State.noticeTargets (s : State) : State :=
  (List.range 16).foldl (fun t i =>
    let v := t.obj 0x4021 (i + 1)
    if v % 2 ^ 21 < 1048580 && v ≠ 0xFFFFFFFF then t.setIp (v % 2 ^ 21) ipNotice else t) s

/-- The summit writes the record to the ring, and then raises the targets; a member with base 0 does neither. False where the write
has to wait. -/
def State.noticeGo (s : State) (kind dev : Nat) (drop : Bool) (step record : Nat) : Bool × State :=
  let base := s.obj 0x4020 1
  let w := s.obj 0x4020 3
  let a := base + 32 * (w % s.obj 0x4020 2)
  let err := s.targetError a .summit .write
  if base = 0 then (true, s)
  else if err = codeFenced then (false, s)
  else if err ≠ 0 then (true, s)
  else match s.writeNow a (noticeBytes w kind dev drop step record) with
    | (true, t) => (true, (t.count 0x4020 3).noticeTargets)
    | (false, t) => (false, t)

def SumOp.isNotice : SumOp → Bool
  | .notice _ _ _ _ _ => true
  | _ => false
def State.sumLater (s : State) (o : SumOp) : State := { s with sumWait := s.sumWait ++ [o] }

/-- A notice is written now, or behind those that wait (R321, R344). DEDUCED, log entry 57. -/
def State.notice (s : State) (kind dev : Nat) (drop : Bool) (step record : Nat) : State :=
  let op := SumOp.notice kind dev drop step record
  if s.sumWait.any (·.isNotice) then s.sumLater op
  else match s.noticeGo kind dev drop step record with
    | (true, t) => t
    | (false, t) => t.sumLater op

/-- The members other than the manager. -/
def State.others (s : State) : List (BitVec 12) := s.members.filter (fun m => m.toNat ≠ s.dev)
/-- The manager sends a notice to every other member. -/
def State.sendNotices (s : State) (kind dev : Nat) (drop : Bool) (step record : Nat) : State :=
  s.others.foldl (fun t m => t.mgrSend .notice m.toNat [m.toNat, kind, dev, drop.toNat, step, record]) s

/-! ### Routes (R340, R358) -/

/-- A link as the manager knows it: a device, its port, and the partner. -/
abbrev RLink := Nat × Nat × Nat
/-- The modules that routes name: the members, and one that joins. -/
def State.nodes (s : State) : List Nat := (s.members ++ s.joining.toList).map (·.toNat)
/-- The links between these modules, from JOIN and LINKDOWN frames and the manager's own ports (R340). DEDUCED, log entry 56. -/
def State.rangeLinks (s : State) : List RLink :=
  let known := (BitVec.ofNat 12 s.dev, s.partners) :: s.reports.filter (fun e => e.1.toNat ≠ s.dev)
  (known.flatMap (fun e => e.2.zipIdx.map (fun x =>
    (e.1.toNat, if x.2 < 6 then x.2 else Config.unreportedPort e.1.toNat x.1 % 6, x.1)))).filter
    (fun l => s.nodes.contains l.1 && s.nodes.contains l.2.2)
/-- The devices from which the links reach those of `ds`, with their distances, up to `n` links on. -/
def spread (links : List RLink) : Nat → List (Nat × Nat) → List (Nat × Nat)
  | 0, ds => ds
  | n + 1, ds =>
    let far := links.filterMap (fun l =>
      if ds.any (fun e => e.1 = l.1) then none else (ds.find? (fun e => e.1 = l.2.2)).map (fun e => (l.1, e.2 + 1)))
    spread links n (ds ++ far.eraseDups)
/-- The distances to device `d`. -/
def State.distances (s : State) (d : Nat) : List (Nat × Nat) := spread s.rangeLinks s.nodes.length [(d, 0)]
/-- The devices from `m` on along one port number, back to where it began: a ring of the range, if there is one (R358). -/
def State.ringThrough (s : State) (p start : Nat) : Nat → Nat → List Nat → Option (List Nat)
  | 0, _, _ => none
  | n + 1, m, seen =>
    match s.rangeLinks.find? (fun l => l.1 = m && l.2.1 = p) with
    | none => none
    | some l => if l.2.2 = start then some (m :: seen) else State.ringThrough s p start n l.2.2 (m :: seen)
/-- Whether DL stands at port `p` of device `m`: at one member of each ring. DESIGN CHOICE, log entry 15. -/
def State.dateline (s : State) (m p : Nat) : Bool :=
  let key (x : Nat) : Nat := Config.dateline x p * 4096 + x
  match s.ringThrough p m s.nodes.length m [] with
  | some ring => ring.all (fun x => key m ≤ key x)
  | none => false
/-- The entry for device `d` at device `m`: the lowest port of a shortest route, with DL (R357, R358). -/
def State.routeEntry (s : State) (m d : Nat) : Nat :=
  let ds := s.distances d
  if m = d then 7
  else match ds.find? (fun e => e.1 = m) with
    | none => 6
    | some e =>
      match (List.range 6).find? (fun p => s.rangeLinks.any (fun l => l.1 = m && l.2.1 = p && ds.contains (l.2.2, e.2 - 1))) with
      | some p => p + if s.dateline m p then 8 else 0
      | none => 6
/-- The routing table of a member. DEDUCED, log entry 56. -/
def State.tableFor (s : State) (m : Nat) : Nat :=
  s.nodes.foldl (fun t d => setFld t (4 * d + 3) (4 * d) (s.routeEntry m d)) (objDefault (okey 0x4010 0))

/-- What a device has reported of its ports is put in the place of what it had (R340). -/
def State.reported (s : State) (dev : BitVec 12) (ps : List Nat) : State :=
  { s with reports := s.reports.filter (fun e => e.1 ≠ dev) ++ [(dev, ps)] }
/-- A module that joins reports its ports; each member at such a port has one to it (R340, R342). DEDUCED, log entry 56. -/
def State.joinReported (s : State) (dev : BitVec 12) (ps : List Nat) : State :=
  let s1 := s.reported dev ps
  { s1 with reports := s1.reports.map (fun e =>
      if ps.contains e.1.toNat && !e.2.contains dev.toNat then
        (e.1, e.2 ++ List.replicate (6 - e.2.length) 0xFFFF ++ [dev.toNat]) else e) }

/-- Members that no other member's port that is up has as a partner, or that no route reaches (R342). -/
def State.lostOnes (s : State) : List (BitVec 12) :=
  s.others.filter (fun d =>
    !s.rangeLinks.any (fun l => l.2.2 = d.toNat && l.1 ≠ d.toNat) || !(s.distances d.toNat).any (fun e => e.1 = s.dev))

/-- Once every member has acknowledged the route epoch of a JOIN, the new member gets its table, and then every member a notice
(R339). DEDUCED, log entry 56. -/
def State.joinsDone (s : State) : State :=
  match s.joining with
  | none => s
  | some d =>
    if !s.routeWait.isEmpty || s.epochTable.isSome then s
    else
      let s1 := s.mgrSend .route d.toNat [s.tableFor d.toNat]
      let s2 : State := { s1 with
        members := s1.members ++ [d], joining := none, lost := s1.lost.filter (fun e => e.1 ≠ d) }
      (s2.sendNotices noticeJoined d.toNat false 0 0).notice noticeJoined d.toNat false 0 0

end Sys2Proof.Machine
end

