-- ==== Sys2Proof/Machine/Restore.lean ====
section
/-! DEFINITION. The restore of optimizer shards that the manager's firmware carries out: parity groups (R326 to R329), valid copies
(R331, R332), the decision and its records (R334, R335). -/

namespace Sys2Proof.Machine

/-! ### Reconstruction (R326 to R329) -/

def gfXor (xs ys : List Byte) : List Byte := xs.zipWith (· ^^^ ·) ys
def gfScale (c : Nat) (xs : List Byte) : List Byte := xs.map (fun x => BitVec.ofNat 8 (gfMul c x.toNat))
/-- g^i with g = 0x02. -/
def gfPower (i : Nat) : Nat := 2 ^ i
/-- The inverse of a nonzero element. -/
def gfInverse (a : Nat) : Nat := ((List.range 256).find? (fun x => gfMul a x = 1)).getD 0
/-- P, or Q with the coefficients, of the data that is there; `zero` is a shard of zeros. -/
def parityOf (zero : List Byte) (q : Bool) (ds : List (Option (List Byte))) : List Byte :=
  ds.zipIdx.foldl (fun acc (d, i) => match d with
    | none => acc
    | some x => gfXor acc (if q then gfScale (gfPower i) x else x)) zero

/-- The eight data shards from what a group's ten members still hold (R329); none where three or more are lost. -/
def groupData (xs : List (Option (List Byte))) : Option (List (List Byte)) :=
  let ds := xs.take 8
  let zero : List Byte := ((xs.filterMap id).headD []).map (fun _ => 0)
  let all (ys : List (Option (List Byte))) : Option (List (List Byte)) := some (ys.map (·.getD zero))
  match (List.range 8).filter (fun i => (ds.getD i none).isNone), xs.getD 8 none, xs.getD 9 none with
  | [], _, _ => all ds
  | [j], some p, _ => all (ds.set j (some (gfXor p (parityOf zero false ds))))
  | [j], none, some q => all (ds.set j (some (gfScale (gfInverse (gfPower j)) (gfXor q (parityOf zero true ds)))))
  | [j, k], some p, some q =>
    let p1 := gfXor p (parityOf zero false ds)
    let q1 := gfXor q (parityOf zero true ds)
    let dj := gfScale (gfInverse (gfPower j ^^^ gfPower k)) (gfXor q1 (gfScale (gfPower k) p1))
    all ((ds.set j (some dj)).set k (some (gfXor p1 dj)))
  | _, _, _ => none
/-- The shard of member `m` of a group: data, P or Q. -/
def groupShard (xs : List (Option (List Byte))) (m : Nat) : Option (List Byte) :=
  (groupData xs).map (fun ds =>
    let zero := (ds.headD []).map (fun _ => 0)
    if m < 8 then ds.getD m [] else parityOf zero (m = 9) (ds.map some))

/-! ### Copies (R331, R332) -/

/-- A copy of a shard: its bytes and its digest. -/
abbrev Copy := List Byte × List Byte
def Copy.epoch (c : Copy) : Nat := bytesNat ((c.2.drop 12).take 2)
/-- Whether epoch `a` is higher than epoch `b` (R331). -/
def epochHigher (a b : Nat) : Bool :=
  let d := (a + 65536 - b % 65536) % 65536
  1 ≤ d && d ≤ 32767
/-- Whether a copy is valid at one of some epochs (R332). -/
def Copy.valid (c : Copy) (epochs : List Nat) : Bool :=
  c.2.length = 16 && c.2.take 12 = (digestOf c.1 0).take 12 && c.2.drop 14 = [0, 0] && epochs.contains (Copy.epoch c)

/-! ### The decision (R334) -/

/-- The outcome for one shard; a divergent one names its epoch. -/
inductive Outcome where
  | missing
  | divergent (epoch : Nat)
  | content (bs : List Byte)
deriving DecidableEq, Repr

/-- The outcome of some candidates: the content at the highest epoch among them, if all copies there are equal (R334). DEDUCED, log entry
81. -/
def decideShard (cs : List Copy) : Outcome :=
  match cs.filter (fun c => cs.all (fun x => !epochHigher (Copy.epoch x) (Copy.epoch c))) with
  | [] => .missing
  | c :: rest => if rest.all (fun x => x.2 = c.2) then .content c.1 else .divergent (Copy.epoch c)

/-- The candidates for a shard at some epochs, the higher one first: its valid copies, or one reconstruction that the digest table of its
group accepts (R328, R334). DEDUCED, log entry 81. -/
def candidates (no shard : Nat) (epochs : List Nat) : List Copy :=
  match (Config.shardCopies no shard).filter (fun c => Copy.valid c epochs) with
  | c :: cs => c :: cs
  | [] =>
    (epochs.findSome? (fun e =>
      match groupShard (Config.shardGroup no shard e) (Config.shardPlace shard) with
      | some bs => if digestOf bs e = Config.shardDigest no shard e then some (bs, digestOf bs e) else none
      | none => none)).toList

/-- The shards of a restore in order: what each of them becomes, or the first that is refused. DESIGN CHOICE, log entry 80. -/
def restoreAll (no : Nat) (epochs : List Nat) : List Nat → Nat × Outcome ⊕ List (Nat × List Byte)
  | [] => .inr []
  | i :: rest =>
    match decideShard (candidates no i epochs) with
    | .content bs => (match restoreAll no epochs rest with
      | .inr xs => .inr ((i, bs) :: xs)
      | .inl x => .inl x)
    | o => .inl (i, o)

/-- A checkpoint event joins the manager's fault log (R335). -/
def State.recordShard (s : State) (i code : Nat) : State := s.record 5 (i % 65536) code
def Outcome.code : Outcome → Nat
  | .missing => 0x9002
  | _ => 0x9001

/-- The manager's restore of every shard of the range: at ECUR and EPREV, and after a divergent refusal at ECUR at EPREV alone; a refusal at
EPREV ends it with 0x9003, and no shard is changed (R334, R335). DEDUCED, log entry 81. -/
def State.restoreShards (s : State) : State :=
  let no := s.restores
  let cur := s.obj 0x5200 1
  let prev := s.obj 0x5200 2
  let s1 : State := { s with restores := no + 1 }
  let shards := List.range (Config.shardCount no)
  match restoreAll no [cur, prev] shards with
  | .inr xs => { s1 with restored := xs }
  | .inl (i, .missing) => s1.recordShard i 0x9002
  | .inl (_, .content _) => s1
  | .inl (i, .divergent e) =>
    let s2 := s1.recordShard i 0x9001
    if e ≠ cur then s2.recordShard i 0x9003
    else match restoreAll no [prev] shards with
    | .inr xs => { s2 with restored := xs }
    | .inl (j, o2) => (s2.recordShard j o2.code).recordShard j 0x9003

end Sys2Proof.Machine
end

