-- ==== Sys2Proof/Machine/Links.lean ====
section
/-! DEFINITION. The scale-out ports: training and loss (R346, R347, R355, R465), link control (R351 to R353), the traverse frames
(R348, R349) at their target, at their requester and on their way (R357, R358), and route epochs (R360). The link layer
is also that of the Shutik link (R366). -/

namespace Sys2Proof.Machine

/-! ### Receiving -/

/-- Whether a link takes a frame: it is up, and waits for no replay. -/
def State.receives (s : State) (l : Nat) : Bool := s.linkUp l && !(s.link l).rxBlocked
/-- A frame is received in order: it is counted, and where its buffer space is free at once its credits are held for
the next acknowledgement. -/
def State.received (s : State) (l : Nat) (f : LFrame) (free : Bool) : State :=
  s.modLink l (fun x =>
    { x with
      rxExpected := (x.rxExpected + 1) % 4096
      held := match f.channel, free with
        | some ch, true => addAt x.held ch f.need
        | _, _ => x.held })

def State.lctl (s : State) (l kind num : Nat) (cred : List Nat) : State :=
  s.modLink l (fun x => { x with lctlSent := x.lctlSent ++ [lctlFlit kind num cred] })
/-- A counter of a port; the Shutik link has none of these. -/
def State.portCount (s : State) (l sub : Nat) : State := if l < 6 then s.count (0x4200 + l) sub else s
/-- A frame is counted as a CRC error (R349, R352, R356, R368). DEDUCED, log entry 49. -/
def State.crcError (s : State) (l : Nat) : State :=
  if l < 6 then s.count (0x4200 + l) 4 else { s with host := { s.host with crcErrors := s.host.crcErrors + 1 } }
/-- A bad FCRC: the frame and every later flit are discarded, and KIND 1 leaves (R352). -/
def State.badFrame (s : State) (l : Nat) : State :=
  ((s.modLink l (fun x => { x with rxBlocked := true })).lctl l 1 (s.link l).rxExpected []).crcError l

/-! ### Link control -/

/-- The six credit fields of CRED. -/
def credFields (c : BitVec 72) : List Nat := (List.range 6).map (fun i => fld c.toNat (12 * i + 11) (12 * i))
def addAll : List Nat → List Nat → List Nat
  | x :: xs, y :: ys => (x + y) :: addAll xs ys
  | xs, [] => xs
  | [], _ => []
/-- Frames before NUM are acknowledged, if NUM names a frame that has been sent and not acknowledged, or the next one. -/
def Link.ackTo (l : Link) (num : Nat) : Link :=
  if num = l.txNum then { l with replay := [] }
  else if l.replay.any (fun e => e.1 = num) then { l with replay := l.replay.dropWhile (fun e => e.1 ≠ num) }
  else l

/-- A link-control flit with a right FCRC acts as `f` says; with a wrong one it is a bad frame (R350 to R352). No FCRC stands for the right
one. DEDUCED, log entry 49. -/
def State.lctlIn (s : State) (l kind num : Nat) (cred : List Nat) (crc : Option (BitVec 16)) (f : State) : Out :=
  .next (if !s.linkUp l then s
    else if crc.isNone || crc = some (lctlFcrc kind num cred) then f
    else if s.receives l then s.badFrame l else s)

/-- LCTL_ACK: KIND 0 (R351); behind a bad frame nothing but KIND 2 is accepted (R352). -/
def execLctlAck (l : LinkId) (num : BitVec 12) (cred : BitVec 72) (s : State) (fcrc : Option (BitVec 16) := none) : Out :=
  s.lctlIn l 0 num.toNat (credFields cred) fcrc (if s.receives l then
    (s.modLink l (fun x =>
      let y := x.ackTo num.toNat
      { y with credit := addAll y.credit (credFields cred) })).pump l
  else s)

/-- LCTL_NAK: KIND 2 and every unacknowledged frame from NUM onward leave (R352). -/
def execLctlNak (l : LinkId) (num : BitVec 12) (s : State) (fcrc : Option (BitVec 16) := none) : Out :=
  let x := s.link l
  s.lctlIn l 1 num.toNat [] fcrc (if s.receives l && (num.toNat = x.txNum || x.replay.any (fun e => e.1 = num.toNat)) then
    let y := x.ackTo num.toNat
    ((s.setLink l { y with sent := y.sent ++ y.replay }).lctl l 2 num.toNat []).portCount l 5
  else s)

/-- LCTL_REPLAY_START: frames are accepted again if NUM is the one expected (R352). -/
def execLctlReplayStart (l : LinkId) (num : BitVec 12) (s : State) (fcrc : Option (BitVec 16) := none) : Out :=
  s.lctlIn l 2 num.toNat [] fcrc (if s.linkUp l && (s.link l).rxExpected = num.toNat then s.modLink l (fun x => { x with rxBlocked := false }) else s)

/-- LCTL_IDLE: nothing (R351). -/
def execLctlIdle (l : LinkId) (s : State) (fcrc : Option (BitVec 16) := none) : Out := s.lctlIn l 3 0 [] fcrc s

/-- BAD_FRAME: a frame with a bad FCRC (R352), or with a good one and a TYPE that is not assigned, which is discarded in its turn
(R349, R368). DEDUCED, log entry 49. -/
def execBadFrame (l : LinkId) (s : State) (unknown : Bool := false) : Out :=
  .next (if !s.receives l then s
    else if unknown then (s.modLink l (fun x => { x with rxExpected := (x.rxExpected + 1) % 4096 })).crcError l
    else s.badFrame l)

/-- ACK_TIMER: KIND 0 with the frames received in order and the credits of the space freed since (R352, R353).
DESIGN CHOICE, log entry 2. -/
def execAckTimer (l : LinkId) (s : State) : Out :=
  let x := s.link l
  .next (if s.linkUp l then (s.setLink l { x with held := [0, 0, 0, 0, 0, 0] }).lctl l 0 x.rxExpected x.held else s)

/-! ### Route epochs (R360) -/

/-- Whether a saddle has remote requests that are not answered. -/
def State.saddleOpen (s : State) (n : Nat) : Bool := s.remote.any (fun e => srcSaddle e.2 = n)

/-- A request that was held back leaves; an invalidation whose holder no route reaches is acknowledged. -/
def State.sendHeld (s : State) (r : Req) : State :=
  match r.kind, s.wayOut (srcSaddle r) (devOf r.addr) with
  | .invalidate _ line, none => s.acked line (BitVec.ofNat 12 (devOf r.addr), BitVec.ofNat 16 r.ident.toNat)
  | _, _ => s.send r
/-- The summit acknowledges a route epoch to the manager, with a ROUTE frame of its own. DEDUCED, log entry 55. -/
def State.routesAcked (s : State) : State := s.mgrSend .routeAck s.managerDev [s.dev]

/-- The saddle installs the table and resumes; when all eight have done so, the summit acknowledges to the manager.
DEDUCED, log entry 55. -/
def State.installAt (s : State) (n : Nat) : State :=
  match s.epochTable with
  | none => s
  | some t =>
    if !(s.saddle n).epochWait then s
    else
      let s1 := s.modSaddle n (fun x => { x with epochWait := false, routes := some t })
      let go := s1.epochHeld.filter (fun r => srcSaddle r = n)
      let s2 := go.foldl (fun u r => u.sendHeld r) { s1 with epochHeld := s1.epochHeld.filter (fun r => srcSaddle r ≠ n) }
      if (List.range 8).any (fun m => (s2.saddle m).epochWait) then s2
      else
        let s3 : State := { s2.setObj 0x4010 0 t with
          epochTable := none, saddles := mupd saddleDef (fun _ x => { x with routes := none }) s2.saddles }
        if s3.isManager then s3.joinsDone else s3.routesAcked

/-- A saddle in a route epoch whose requests are all answered installs the table. DEDUCED, log entry 55. -/
def State.epochCheck (s : State) (n : Nat) : State :=
  if (s.saddle n).epochWait && !s.saddleOpen n then s.installAt n else s

/-- A route epoch begins: every saddle stops sending new remote requests. DEDUCED, log entry 55. -/
def State.startEpoch (s : State) (table : Nat) : State :=
  let s1 := (List.range 8).foldl (fun t n => t.modSaddle n (fun x => { x with epochWait := true }))
    { s with epochTable := some (table % 2 ^ 16384) }
  (List.range 8).foldl (fun t n => t.epochCheck n) s1

/-- A tracker of a saddle is free: the first request that waited for one leaves (R354). -/
def State.trackerFree (s : State) (n : Nat) : State :=
  if (s.saddle n).epochWait || trackers ≤ s.awaited n then s
  else match takeFirst (fun r => r.kind.answered && srcSaddle r = n) s.epochHeld with
    | some (r, rest) => { s with epochHeld := rest }.sendFar r
    | none => s

/-- The class of a read in a far module (R281, R283): the memory-side cache, an open row, another row, or one behind a refresh. DESIGN
CHOICE, log entry 82. -/
def farClass (id : Nat) : Nat := [pathMsc, 260, 320, 470].getD (Config.farClass id % 4) pathMsc
/-- An open request to another device is answered by a frame that has crossed `hops` links, or without one: each further hop adds 160
saddle beats, and every hop its crossing, in symbol times, which no beats measure: they tell in the answer's arrival (R9, R283). DEDUCED,
log entry 40. -/
def State.remoteAnswered (s : State) (e : BitVec 16 × Req) (code : Nat) (data : BitVec 1024) (sense : Option Bool)
    (hops : Nat := 1) : State :=
  let r := e.2
  let base := match r.kind with
    | .write _ _ _ => pathWrite
    | .word _ => pathWrite
    | .signal _ => pathCairn
    | .decrement _ => pathCairn
    | .waitGe _ => pathCairn
    | .waitBar _ => pathCairn
    | .loadWord => (match regionOf (localOf r.addr) with
        | .cairn _ _ => pathCairn
        | _ => pathMsc)
    | _ => farClass r.id
  let told : Bool := code ≠ 0 || (match r.kind with
    | .write _ _ _ => r.src.acked
    | .word _ => r.src.acked
    | .signal _ => false
    | .decrement _ => false
    | .cancel => false
    | .nmc _ => false
    | _ => true)
  let noted : Bool := match r.kind with
    | .cancel => false
    | .nmc _ => false
    | _ => true
  let s1 : State := { s with remote := s.remote.erase e }
  let path := pathRemote + r.beat + 160 * (hops - 1) + kindPath r base
  let far : Req := { r with symbols := r.symbols + s.crossing (srcSaddle r) (devOf r.addr) hops }
  let s2 := match r.kind with
    | .invalidate _ line => s1.acked line (BitVec.ofNat 12 (devOf r.addr), BitVec.ofNat 16 r.ident.toNat)
    | _ => if told then s1.answer (answerOf far code data sense path false)
      else if noted then s1.noteVisible r.src true (r.t + srcPath r.src path) else s1
  (s2.trackerFree (srcSaddle r)).epochCheck (srcSaddle r)

/-- Every open request that `p` selects is answered Unreachable. -/
def State.unreachableAll (s : State) (p : BitVec 16 × Req → Bool) : State :=
  (s.remote.filter p).foldl (fun t e => t.remoteAnswered e codeUnreachable 0 none) s

/-- ROUTE_EPOCH_LIMIT. DEDUCED, log entry 55. -/
def execRouteEpochLimit (n : SaddleId) (s : State) : Out :=
  .next (if s.epochTable.isSome && (s.saddle n).epochWait then
    (s.unreachableAll (fun e => srcSaddle e.2 = n.val)).epochCheck n
  else s)

/-! ### Training -/

/-- CABLE_MATED (R465). -/
def execCableMated (l : LinkId) (s : State) : Out :=
  .next (if s.lanesOn l && s.obj (linkState l) 1 = 0 then
    (s.setObj (linkState l) 1 1).modLink l (fun x => { x with loopback := false })
  else s)

/-- LOOPBACK_REQUEST (R455). DESIGN CHOICE, log entry 77. -/
def execLoopbackRequest (p : PortId) (s : State) : Out :=
  .next (if s.lanesOn p && s.obj (linkState p) 1 = 0 then s.modLink p (fun x => { x with loopback := true }) else s)
/-- LOOPBACK_LIMIT (R455). -/
def execLoopbackLimit (p : PortId) (s : State) : Out := .next (s.modLink p (fun x => { x with loopback := false }))

/-- An own request that is lost is answered with a code: the open one of its type, TAG, device and line (R309, R355, R357). -/
def State.ownLost (s : State) (ty : Nat) (f : Frame) (code : Nat) : State :=
  match s.ownRequest ty f with
  | some e => s.remoteAnswered e code 0 none
  | none => s

/-- A frame that cannot go on from saddle `n`: an own request is answered with a code, another's through the reverse route of its
SRC; answers are discarded (R309, R357). DEDUCED, log entry 54. -/
def State.bounce (s : State) (n ty : Nat) (f : Frame) (code : Nat := codeUnreachable) : State :=
  if ty < 0x10 && f.src.toNat = s.dev then s.ownLost ty f code else s.bounceFrame n ty f code

/-- A frame that link `l` held when it went down (R355). -/
def State.lostFrame (s : State) (l : Nat) (f : LFrame) : State :=
  match f with
  | .t x => s.bounce l x.ty.toNat x.f
  | _ => s

/-- A link goes down (R355); the Shutik link sends no report (R366). -/
def State.linkDown (s : State) (l : Nat) : State :=
  let x := s.link l
  let s1 := (s.setObj (linkState l) 1 0).setLink l {}
  let s2 := (x.replay.map (·.2) ++ x.txq).foldl (fun t f => t.lostFrame l f) s1
  if l < 6 && s2.rstate ≠ 0 then s2.mgrSend .linkdown s2.managerDev (s2.dev :: l :: s2.partners) else s2

/-- Frames are sent again from the first unacknowledged one, and the link's queue is pumped. DEDUCED, log entry 53. -/
def State.replayAll (s : State) (l : Nat) : State :=
  let x := s.link l
  match x.replay with
  | [] => s.pump l
  | e :: _ => ((s.setLink l { x with sent := x.sent ++ x.replay }).lctl l 2 e.1 []).pump l

/-- PORT_TRAINING_DONE: the crossing is measured, and the port is up; one that it cannot cover goes down (R277, R347). A retrained
link replays; the host link asks for the state of the bursts it has open (R377). DEDUCED, log entry 53. -/
def execPortTrainingDone (l : LinkId) (partner : BitVec 12) (crossing : Nat) (s : State) : Out :=
  .next (if s.obj (linkState l) 1 ≠ 1 then s
  else
    let x := s.link l
    let measured := Nat.max 512 ((crossing + 7) / 8 * 8)
    let s1 := if l.val < 6 then (s.setObj (0x4200 + l) 2 measured).setObj (0x4200 + l) 3 partner.toNat else s
    if l.val < 6 && 8192 < measured then s1.linkDown l
    else
      let s2 := s1.setObj (linkState l) 1 2
      let s3 := if !x.trained then
          (s2.setLink l { txq := x.txq, trained := true, credit := fullCredit l, sent := x.sent, lctlSent := x.lctlSent }).pump l
        else s2.replayAll l
      let s4 := if x.advertise then s3.creditsAgain l else s3
      if l.val = 6 then s4.host.out.foldl (fun t b => t.hsend 0x04 (hframe b.buf.toNat 0 0 0 0 [])) s4 else s4)

/-- PORT_RETRAIN (R355). DEDUCED, log entry 53. -/
def execPortRetrain (l : LinkId) (s : State) : Out :=
  .next (if s.linkUp l then (s.setObj (linkState l) 1 1).portCount l 6 else s)

/-- PORT_RETRAIN_TIMEOUT (R355). -/
def execPortRetrainTimeout (l : LinkId) (s : State) : Out :=
  .next (if s.obj (linkState l) 1 = 1 then s.linkDown l else s)

/-! ### Frames on their way -/

/-- The data flits of each type (R349). -/
def frameOk (ty : Nat) (f : Frame) : Bool :=
  let n := f.flits.length
  let w8 := bitAt f.aux.toNat 15
  match ty with
  | 0x01 => n = 1
  | 0x03 => if w8 then n = 1 else n = (if bitAt f.aux.toNat 14 then 9 else 8)
  | 0x04 => n = 1
  | 0x05 => n = 1
  | 0x06 => n = 1
  | 0x07 => n = 1
  | 0x08 => n = 3
  | 0x10 => n = (if w8 then 1 else 8)
  | _ => n = 0

/-- A frame for another device that came in at saddle `n` goes on, or is answered Unreachable, or Fenced where its way lies through a fenced
saddle (R309, R357). -/
def State.forward (s : State) (n ty : Nat) (f : Frame) : State :=
  match s.portFor n f.dest.toNat with
  | none => s.bounce n ty f
  | some p =>
    if ty < 0x10 && f.hops = 31 then s.bounce n ty f
    else if ty < 0x10 && (s.saddleFenced n || s.saddleFenced p) then s.bounce n ty f codeFenced
    else s.transmit n p ty f

/-- A frame arrives at a port: with a good FCRC it is performed here, or goes on (R350, R357). -/
def State.arrive (s : State) (p ty : Nat) (f : Frame) (here : State → State) : Out :=
  .next (if !s.receives p || !frameOk ty f then s
    else if frameFcrc (BitVec.ofNat 5 ty) f ≠ f.fcrc then s.badFrame p
    else
      let s1 := s.received p (.t ⟨BitVec.ofNat 5 ty, f⟩) true
      if !(s1.rstate ≠ 0 && f.dest.toNat = s1.dev) then s1.forward p ty f
      else if ty < 0x10 && s1.saddleFenced p then s1.bounce p ty f codeFenced
      else here s1)

def frW8 (f : Frame) : Bool := bitAt f.aux.toNat 15
def frFlit (f : Frame) (i : Nat) : BitVec 128 := f.flits.getD i 0
/-- The address that a frame names at its target: a line, or one of its words. -/
def State.frameAddr (s : State) (f : Frame) (word : Bool) : Word :=
  s.ownAddr (f.line.toNat * 128 + if word then 8 * (f.aux.toNat % 16) else 0)

/-- A request of another device reaches its target on the own module. A word outside DRAM, the cairns and the per-core
blocks is a word of the summit window, which the dictionary serves. DEDUCED, log entry 54. -/
def State.remoteReq (s : State) (p : Nat) (f : Frame) (kind : RKind) (addr ident : Word) : State :=
  let src : Src := .remote p f.src f.tag
  let (r, s1) := s.request src kind addr ident Config.untranslatedClass 0
  let a := localOf addr
  match regionOf a, kind with
  | .summit, .loadWord =>
    let (m, s2) := s1.reqMaster src
    let (code, w, s3) := s2.windowLoad m (a - summitBase)
    s3.answer (answerOf r code (if code = 0 then BitVec.ofNat 1024 (w.toNat * 2 ^ (8 * (a % 128))) else 0) none 0 false)
  | .summit, .word v =>
    let (m, s2) := s1.reqMaster src
    let (code, s3) := s2.windowStore m (a - summitBase) v
    s3.answer (answerOf r code 0 none 0 false)
  | .cairn _ _, .loadWord => { s1 with reqs := s1.reqs ++ [s1.arriveAt r] }
  | .unassigned, _ => s1.answer (answerOf r codeNoAddress 0 none 0 false)
  | .summit, _ => s1.answer (answerOf r codeNoAddress 0 none 0 false)
  | .dram, _ => { s1 with reqs := s1.reqs ++ [r] }
  | .cairn _ _, .word _ => { s1 with reqs := s1.reqs ++ [s1.arriveAt r] }
  | .cairn _ _, .signal _ => { s1 with reqs := s1.reqs ++ [s1.arriveAt r] }
  | .cairn _ _, .decrement _ => { s1 with reqs := s1.reqs ++ [s1.arriveAt r] }
  | .cairn _ _, .waitGe _ => { s1 with reqs := s1.reqs ++ [s1.arriveAt r] }
  | .cairn _ _, .waitBar _ => { s1 with reqs := s1.reqs ++ [s1.arriveAt r] }
  | .cairn _ _, .cancel => { s1 with reqs := s1.reqs ++ [s1.arriveAt r] }
  | .coreBlock _ _, .word _ => { s1 with reqs := s1.reqs ++ [r] }
  | .coreBlock _ _, .loadWord => { s1 with reqs := s1.reqs ++ [r] }
  | _, _ => s1.answer (answerOf r codeNoAddress 0 none 0 false)

/-! ### Request frames (R349) -/

def inDram (f : Frame) : Bool := f.line.toNat * 128 < dramSize

/-- RD. -/
def execRd (p : PortId) (f : Frame) (s : State) : Out :=
  s.arrive p 0x00 f (fun t =>
    t.remoteReq p f (if frW8 f && !inDram f then .loadWord else .read (frW8 f)) (t.frameAddr f (frW8 f)) 0)
/-- RDX. -/
def execRdx (p : PortId) (f : Frame) (s : State) : Out :=
  s.arrive p 0x01 f (fun t => t.remoteReq p f (.readReserve true) (t.frameAddr f true) (flitLo (frFlit f 0)))
/-- PRD. -/
def execPrd (p : PortId) (f : Frame) (s : State) : Out :=
  s.arrive p 0x02 f (fun t =>
    t.remoteReq p f (.prefetch (frW8 f) (BitVec.ofNat 2 (fld f.aux.toNat 14 13))) (t.frameAddr f false) 0)
/-- WR. The frame names no core: for a store to a cairn that part of the identity word is a free value (R252). -/
def execWr (p : PortId) (f : Frame) (s : State) : Out :=
  s.arrive p 0x03 f (fun t =>
    if frW8 f then
      let (v, t1) := t.takeFree
      t1.remoteReq p f (.word (flitLo (frFlit f 0))) (t1.frameAddr f true) (identWord f.src.toNat 0 0 false v.toNat)
    else if bitAt f.aux.toNat 14 then
      t.remoteReq p f (.write (frFlit f 0) (flitsLine (f.flits.drop 1)) false) (t.frameAddr f false) 0
    else t.remoteReq p f (.write (BitVec.allOnes 128) (flitsLine f.flits) false) (t.frameAddr f false) 0)
/-- SC. -/
def execScFrame (p : PortId) (f : Frame) (s : State) : Out :=
  s.arrive p 0x04 f (fun t =>
    t.remoteReq p f (.storeCond true (flitHi (frFlit f 0))) (t.frameAddr f true) (flitLo (frFlit f 0)))
/-- CSIG: OP of the identity word says which (R252). -/
def execCsig (p : PortId) (f : Frame) (s : State) : Out :=
  s.arrive p 0x05 f (fun t =>
    let id := flitLo (frFlit f 0)
    let n := wf (flitHi (frFlit f 0)) 23 0
    t.remoteReq p f (if wf id 47 46 = 1 then .decrement n else .signal n) (t.frameAddr f false) id)
/-- CWAIT. -/
def execCwait (p : PortId) (f : Frame) (s : State) : Out :=
  s.arrive p 0x06 f (fun t =>
    let id := flitLo (frFlit f 0)
    let v := flitHi (frFlit f 0)
    t.remoteReq p f (if wf id 47 46 = 3 then .waitBar (if wb v 25 then some (wb v 24) else none) else .waitGe (wf v 23 0))
      (t.frameAddr f false) id)
/-- CCAN. -/
def execCcan (p : PortId) (f : Frame) (s : State) : Out :=
  s.arrive p 0x07 f (fun t => t.remoteReq p f .cancel (t.frameAddr f false) (flitLo (frFlit f 0)))
/-- NMC: operand A stands beside the identity word; a completion cairn of 0 is none. DEDUCED, log entry 45. -/
def execNmcFrame (p : PortId) (f : Frame) (s : State) : Out :=
  s.arrive p 0x08 f (fun t =>
    let x := flitHi (frFlit f 2)
    let q : NmcCmd :=
      { op := BitVec.ofNat 4 f.aux.toNat, a := flitHi (frFlit f 0), b := flitLo (frFlit f 1), p := flitHi (frFlit f 1)
        c := flitLo (frFlit f 2), cairn := if x = 0 then none else some x, ident := flitLo (frFlit f 0)
        bBase := t.ownAddr 0, bEnd := t.ownAddr dramSize }
    t.remoteReq p f (.nmc q) (t.ownAddr (localOf q.a)) (flitLo (frFlit f 0)))
/-- INV: the holder cluster is asked, or the boundary of a fenced one acknowledges (R228, R309). -/
def execInv (p : PortId) (f : Frame) (s : State) : Out :=
  s.arrive p 0x09 f (fun t =>
    let (r, t1) := t.request (.remote p f.src f.tag) (.invalidate 0 f.line.toNat)
      (w64 (f.src.toNat * 2 ^ 52 + f.line.toNat * 128)) (w64 f.tag.toNat) 0 0
    if t1.clusterFenced f.tag.toNat then t1.answer (answerOf r 0 0 none 0 false) else { t1 with reqs := t1.reqs ++ [r] })
/-- SREL. -/
def execSrel (p : PortId) (f : Frame) (s : State) : Out :=
  s.arrive p 0x0A f (fun t => t.remoteReq p f (.sketchRelease f.line.toNat) (t.frameAddr f false) 0)

/-! ### Answer frames (R349) -/

def isInvalidate (r : Req) : Bool :=
  match r.kind with
  | .invalidate _ _ => true
  | _ => false
/-- The open request that an answer frame answers. DEDUCED, log entry 54. -/
def State.openFor (s : State) (f : Frame) (prefetch : Bool) : Option (BitVec 16 × Req) :=
  s.remote.find? (fun e => e.1 = f.tag && isPrefetch e.2 = prefetch && !isInvalidate e.2 && devOf e.2.addr = f.src.toNat
    && (!prefetch || localOf e.2.addr / 128 = f.line.toNat))
/-- A prefetch names its cluster in TAG, and so may share it with another request. DEDUCED, log entry 54. -/
def State.openAny (s : State) (f : Frame) : Option (BitVec 16 × Req) :=
  match s.openFor f true with
  | some e => some e
  | none => s.openFor f false
/-- An answer that nobody waits for is discarded. -/
def State.toOpen (s : State) (f : Frame) (g : BitVec 16 × Req → State) : State :=
  match s.openAny f with
  | some e => g e
  | none => s

/-- DATA. -/
def execData (p : PortId) (f : Frame) (s : State) : Out :=
  s.arrive p 0x10 f (fun t => t.toOpen f (fun e =>
    let d : BitVec 1024 := if frW8 f then BitVec.ofNat 1024 ((flitLo (frFlit f 0)).toNat * 2 ^ (64 * wf e.2.addr 6 3))
      else flitsLine f.flits
    t.remoteAnswered e 0 d none f.hops.toNat))
/-- ACK: for a prefetch without an error it says that the prefetch was dropped (R229); for an SC LINE[0] says whether it
failed. -/
def execAck (p : PortId) (f : Frame) (s : State) : Out :=
  s.arrive p 0x11 f (fun t => t.toOpen f (fun e =>
    t.remoteAnswered e f.aux.toNat (BitVec.ofNat 1024 (match e.2.kind with
      | .storeCond _ _ => f.line.toNat % 2
      | _ => 0)) (if isPrefetch e.2 then some true else none) f.hops.toNat))
/-- CANS. -/
def execCans (p : PortId) (f : Frame) (s : State) : Out :=
  s.arrive p 0x12 f (fun t => t.toOpen f (fun e =>
    t.remoteAnswered e f.aux.toNat 0 (if bitAt f.line.toNat 1 then some (bitAt f.line.toNat 0) else none) f.hops.toNat))
/-- IACK (R228). -/
def execIack (p : PortId) (f : Frame) (s : State) : Out :=
  s.arrive p 0x13 f (fun t =>
    match t.remote.find? (fun e => e.1 = f.tag && isInvalidate e.2 && devOf e.2.addr = f.src.toNat
        && localOf e.2.addr / 128 = f.line.toNat) with
    | some e => t.remoteAnswered e 0 0 none
    | none => t)

end Sys2Proof.Machine
end

