-- ==== Sys2Proof/Machine/Range.lean ====
section
/-! DEFINITION. The range: membership (R338, R339), the manager's duties (R340, R342, R355), the decision of a roll word
(R297, R299, R325), notices (R343 to R345), epochs (R330) and beacons. -/

namespace Sys2Proof.Machine

/-! ### Manager frames on their way -/

/-- A manager frame goes on toward a device; what cannot go on is discarded (R357). -/
def State.mgrForward (s : State) (h : MHead) (kind : MgrKind) (dest : Nat) (body : List Nat) : State :=
  match s.portFor h.port dest with
  | none => s
  | some p => s.transmitMgr h.port p kind { h.f with dest := BitVec.ofNat 12 dest } body

/-- Whether a frame that has arrived has the FCRC of its kind, and at most 8 data flits (R349, R350). -/
def mgrSound (h : MHead) (kind : MgrKind) : Bool := frameFcrc kind.type h.f = h.f.fcrc && h.f.flits.length ≤ 8
/-- A manager frame comes in at a port: with a good FCRC it is received and acts as `f` says (R350, R352, R353). -/
def State.mgrIn (s : State) (h : MHead) (kind : MgrKind) (body : List Nat) (f : State → State) : State :=
  if !s.receives h.port then s
  else if !mgrSound h kind then s.badFrame h.port
  else f (s.received h.port (.m ⟨kind, h.f, body⟩) true)

/-- A manager frame arrives at a port, or the module is itself the sender: it is for this summit, or a member sends it on
(R338, R353). -/
def State.mgrArrive (s : State) (via : Option MHead) (kind : MgrKind) (body : List Nat) (here : State → State) : Out :=
  .next (match via with
    | none => here s
    | some h => s.mgrIn h kind body (fun s1 =>
        if h.f.dest.toNat = s1.dev then here s1
        else if s1.isMember then s1.mgrForward h kind h.f.dest.toNat body
        else s1))

/-! ### Notices (R344, R345) -/

/-- A member acts on a notice: requests outstanding to a lost device are answered Unreachable (R342), and waiters of a lost
or reset member are removed (R268). DEDUCED, log entry 57. -/
def State.takeNotice (s : State) (kind dev : Nat) (drop : Bool) (step record : Nat) : State :=
  let gone := kind = noticeLost || (kind = noticeRecovered && fld record 34 32 = 4)
  let s1 := if gone then s.forgetWaiters dev else s
  let s2 := if kind = noticeLost then s1.unreachableAll (fun e => devOf e.2.addr = dev) else s1
  s2.notice kind dev drop step record

/-- NOTICE. DEDUCED, log entry 57. -/
def execNotice (kind : Byte) (dev : BitVec 12) (drop : Bool) (stepNo : BitVec 32) (record : Word) (s : State)
    (via : Option MHead := none) : Out :=
  s.mgrArrive via .notice [kind.toNat, dev.toNat, drop.toNat, stepNo.toNat, record.toNat] (fun t =>
    if t.isMember && 1 ≤ kind.toNat && kind.toNat ≤ 4 then t.takeNotice kind.toNat dev.toNat drop stepNo.toNat record.toNat
    else t)

/-- The manager sends a notice to every member, itself included. -/
def State.sendNotice (s : State) (kind dev : Nat) (drop : Bool) (step record : Nat) : State :=
  (s.sendNotices kind dev drop step record).takeNotice kind dev drop step record

/-! ### The roll word (R297, R299) -/

/-- The position of a device in the job's member list of `n` entries. -/
def State.entrant (s : State) (list n dev : Nat) : Option Nat := (List.range n).find? (fun e => s.readMem (list + 2 * e) 2 = dev)
/-- The closer decides an entrant out for a step, unless its word already holds the step: true where it did, nothing where it has to
wait. An entrant that the list does not name, or a word that the access table denies, is left alone. DEDUCED, log entry 56. -/
def State.decideOut (s : State) (rollBase dev step : Nat) : Option Bool × State :=
  let b := rollBase % dramSize
  match s.sumRead (touched b 24) with
  | none => (none, s)
  | some (false, s1) => (some false, s1)
  | some (true, s1) =>
    let n := Nat.min 4096 (s1.word (b + 8)).toNat
    let list := localOf (s1.word (b + 0x10))
    match s1.sumRead (touched list (2 * n)) with
    | none => (none, s)
    | some (false, s2) => (some false, s2)
    | some (true, s2) =>
      match s2.entrant list n dev with
      | none => (some false, s2)
      | some e =>
        let a := b + 128 * (e + 1)
        match s2.sumRead (touched a 8) with
        | none => (none, s)
        | some (false, s3) => (some false, s3)
        | some (true, s3) =>
          if step = 0 || wf (s3.word a) 39 8 = step || s3.targetError a .summit .write ≠ 0 then (some false, s3)
          else match s3.writeNow a (natBytes 8 (step * 256 + 2)) with
            | (true, s4) => (some true, s4)
            | (false, s4) => (none, s4)

/-! ### Reports (R325, R341) -/

/-- DEDUCED, log entry 56. -/
def State.takeReport (s : State) (dev record step rollBase : Nat) : State :=
  match s.decideOut rollBase dev step with
  | (some out, s1) => s1.sendNotice noticeRecovered dev out step record
  | (none, s1) => s1.sumLater (.report dev record step rollBase)

/-- REPORT: at the manager a notice follows. -/
def execReport (dev : BitVec 12) (record : Word) (stepNo : BitVec 32) (rollBase : Nat) (s : State)
    (via : Option MHead := none) : Out :=
  s.mgrArrive via .report [dev.toNat, record.toNat, stepNo.toNat] (fun t =>
    if t.isManager then t.takeReport dev.toNat record.toNat stepNo.toNat rollBase else t)

/-- DROP_REPORT: a report that names a step (R325). -/
def execDropReport (dev : BitVec 12) (record : Word) (stepNo : BitVec 32) (rollBase : Nat) (s : State)
    (via : Option MHead := none) : Out :=
  s.mgrArrive via .report [dev.toNat, record.toNat, stepNo.toNat] (fun t =>
    if t.isManager && stepNo ≠ 0 then t.takeReport dev.toNat record.toNat stepNo.toNat rollBase else t)

/-! ### Routes and members (R339, R342) -/

/-- The firmware computes new tables, and installs them on every member by a route epoch. DEDUCED, log entry 56. -/
def State.newRoutes (s : State) : State :=
  let s1 := s.others.foldl (fun t m => t.mgrSend .route m.toNat [s.tableFor m.toNat]) s
  { s1 with routeWait := s.others }.startEpoch (s.tableFor s.dev)

/-- JOIN: a manager refuses a device number that a member holds, or accepts, one module at a time; another member sends the frame
on toward its manager, and a module outside a range discards it. DEDUCED, log entry 56. -/
def execJoin (h : MHead) (dev : BitVec 12) (partners : List (BitVec 16)) (s : State) : Out :=
  let ps := partners.map BitVec.toNat
  .next (s.mgrIn h .join (dev.toNat :: ps) (fun s1 =>
      if s1.isManager then
        (if s1.members.contains dev then s1.mgrOut .refusal h.port dev.toNat [dev.toNat]
         else match s1.joining with
           | none => ({ s1 with joining := some dev }.joinReported dev ps).newRoutes
           | some _ => s1)
      else if s1.isMember then s1.mgrForward h .join s1.managerDev (dev.toNat :: ps) else s1))

/-- A member is lost: it is decided out for the step in progress, and later for each further one; the others learn of it once, and the
shards are to be restored (R334, R342). DEDUCED, log entries 56, 80. -/
def State.loseMember (s : State) (dev rollBase step : Nat) : State :=
  match s.decideOut rollBase dev step with
  | (none, s1) => s1.sumLater (.lose dev rollBase step)
  | (some out, s1) =>
    if !(s1.members.any (fun m => m.toNat = dev)) then s1
    else
      let s2 : State := { s1 with
        members := s1.members.filter (fun m => m.toNat ≠ dev)
        reports := s1.reports.filter (fun e => e.1.toNat ≠ dev)
        lost := s1.lost.filter (fun e => e.1.toNat ≠ dev) ++ [(BitVec.ofNat 12 dev, rollBase)] }
      ((s2.sendNotice noticeLost dev out step 0).newRoutes).sumLater .restore

/-- LEAVE: acknowledged, and treated as the loss of the member (R339). -/
def execLeave (dev : BitVec 12) (rollBase : Nat) (s : State) (via : Option MHead := none) : Out :=
  s.mgrArrive via .leave [dev.toNat] (fun t =>
    if t.isManager then (t.mgrSend .leaveAck dev.toNat [dev.toNat]).loseMember dev.toNat rollBase (t.obj 0x5030 0) else t)

/-- MEMBER_LOST: the manager finds a member that no port reports up, or that no route reaches (R342). -/
def execMemberLost (dev : BitVec 12) (rollBase : Nat) (s : State) : Out :=
  .next (if s.isManager && s.lostOnes.contains dev then s.loseMember dev.toNat rollBase (s.obj 0x5030 0) else s)

/-- LINKDOWN: the manager learns what ports the member still has, declares lost whom it has to, and computes new routes (R340, R342,
R355). DEDUCED, log entry 56. -/
def execLinkdown (dev : BitVec 12) (port : PortId) (s : State)
    (partners : List (BitVec 16) := []) (rollBase : Nat := 0) (via : Option MHead := none) : Out :=
  let ps := partners.map BitVec.toNat
  s.mgrArrive via .linkdown (dev.toNat :: port.val :: ps) (fun t =>
    if t.isManager then
      let t1 := t.reported dev ps
      match t1.lostOnes with
      | [] => t1.newRoutes
      | ds => ds.foldl (fun u d => u.loseMember d.toNat rollBase (u.obj 0x5030 0)) t1
    else t)

/-- A member's acknowledgement of a route epoch reaches the manager (R360). -/
def State.routeAcked (s : State) (dev : BitVec 12) : State := { s with routeWait := s.routeWait.erase dev }.joinsDone

/-- ROUTE: a joining module takes its table and is a member; a member installs it by a route epoch; at its manager it is a member's
acknowledgement (R339, R360). DEDUCED, log entry 55. -/
def execRoute (table : Nat) (s : State) (via : Option MHead := none) : Out :=
  s.mgrArrive via .route [table] (fun t =>
    if t.isManager && via.isSome then t.routeAcked ((via.map (·.f.src)).getD 0)
    else if t.rstate = 1 then (t.setObj 0x4010 0 (table % 2 ^ 16384)).setObj 0x4000 4 2
    else if t.isMember then t.startEpoch table else t)

/-! ### Joining and leaving (R338, R339) -/

/-- JOIN_REPEAT. -/
def execJoinRepeat (s : State) : Out := .next (if s.rstate = 1 then s.sendJoin else s)
/-- JOIN_REFUSAL. -/
def execJoinRefusal (s : State) (via : Option MHead := none) : Out :=
  s.mgrArrive via .refusal [s.dev] (fun t => if t.rstate = 1 then (t.setObj 0x4000 4 0).count 0x4000 6 else t)
def State.left (s : State) : State :=
  if s.leaving then
    { s.setObj 0x4000 4 0 with leaving := false, members := [], reports := [], joining := none, routeWait := [], lost := [] }
  else s
/-- LEAVE_TIMEOUT. -/
def execLeaveTimeout (s : State) : Out := .next s.left
/-- LEAVE_ACKNOWLEDGEMENT. -/
def execLeaveAcknowledgement (s : State) (via : Option MHead := none) : Out := s.mgrArrive via .leaveAck [s.dev] (·.left)

/-! ### Epochs and beacons (R330, R340, R343) -/

/-- EPOCH: at its manager, when every member has reported its shards and parity written, EPREV becomes ECUR and ECUR the new epoch, and
every member is sent both; at a member both are set (R330, R340). -/
def execEpoch (ecur eprev : BitVec 16) (s : State) (via : Option MHead := none) : Out :=
  let put (t : State) (c p : Nat) : State := (t.setObj 0x5200 1 c).setObj 0x5200 2 p
  s.mgrArrive via .epoch [ecur.toNat, eprev.toNat] (fun t =>
    if t.isManager then
      let old := t.obj 0x5200 1
      t.others.foldl (fun u m => u.mgrSend .epoch m.toNat [ecur.toNat, old]) (put t ecur.toNat old)
    else if t.isMember then put t ecur.toNat eprev.toNat else t)

/-- BEACON: the manager sends one to every member; at a member the time since the last one starts again. -/
def execBeacon (s : State) (via : Option MHead := none) : Out :=
  s.mgrArrive via .beacon [] (fun t =>
    if t.isManager then t.others.foldl (fun u m => u.mgrSend .beacon m.toNat [m.toNat]) t else t)

/-- BEACON_TIMEOUT: a member is cut off (R343). DEDUCED, log entry 56. -/
def execBeaconTimeout (s : State) : Out :=
  .next (if s.rstate = 2 && !s.isManager then
    (s.setObj 0x4000 4 3).notice noticeManagerLost s.managerDev false 0 0
  else s)

/-! ### What the summit has still to do -/

/-- One of the summit's waiting operations is tried again (R321). -/
def State.sumOp (s : State) : SumOp → State
  | .restore => if s.isManager then s.restoreShards else s
  | .notice kind dev drop step record => s.notice kind dev drop step record
  | .report dev record step rollBase => s.takeReport dev record step rollBase
  | .lose dev rollBase step => s.loseMember dev rollBase step
  | .out dev rollBase step =>
    if !s.lost.any (fun e => e.1.toNat = dev) then s
    else match s.decideOut rollBase dev step with
      | (none, t) => t.sumLater (.out dev rollBase step)
      | (some _, t) => t
/-- All of them, in their order. -/
def State.summitGo (s : State) : State := s.sumWait.foldl (fun t o => t.sumOp o) { s with sumWait := [] }

end Sys2Proof.Machine
end

