-- ==== Sys2Proof/Machine/HostLink.lean ====
section
/-! DEFINITION. The Shutik link: host reads and writes (R369, R370), doorbells (R371), the descriptor ring (R372, R373) and
bursts (R375 to R377). -/

namespace Sys2Proof.Machine

/-- A frame from the host, with a good FCRC: received in order; `free` says that its buffer space is free at once. -/
def State.hostFrame (s : State) (ty : Nat) (f : HFrame) (free : Bool) (g : State → State) : Out :=
  .next (if !s.receives 6 then s
    else if hframeFcrc (BitVec.ofNat 5 ty) f ≠ f.fcrc then s.badFrame 6
    else g (s.received 6 (.h ⟨BitVec.ofNat 5 ty, f⟩) free))
/-- Whether only the host link itself is served: in Hold, and in the varnish pass (R395, R406). -/
def State.hostHold (s : State) : Bool := s.mstate = 4 || s.mstate = 7

def hflit (f : HFrame) (i : Nat) : BitVec 128 := f.flits.getD i 0
def hWord (f : HFrame) : Bool := bitAt f.aux.toNat 15
def flitBytes (fs : List (BitVec 128)) : List Byte := fs.flatMap (fun x => natBytes 16 x.toNat)
/-! ### Host reads (R370) -/

/-- The bytes of a line with the host's earlier writes that are still on their way. -/
def State.hostLine (s : State) (line : Nat) : Nat :=
  let mine (r : Req) : Bool := (match r.src with
    | .host _ => true
    | _ => false) && isWrite { r with acks := none } && lineOf (localOf r.addr) = line
  let rs := ((s.plinth (stackOf (line * 128))).refused.map (·.req) ++ s.reqs ++ s.resend).filter mine
  rs.foldl (fun d r => mergeN 128 r.bytes.1.toNat r.bytes.2.toNat d) (s.lineData line).toNat

/-- A read of `n` bytes of DRAM: error code, bytes, state; nothing where it has to wait (R231, R321). -/
def State.hostRead (s : State) (a n : Nat) : Option (Nat × List Byte × State) :=
  let ls := touched a n
  match s.readLines .host ls with
  | none => none
  | some (code, s1) =>
    if code = codeFenced then none
    else some (code, ((ls.flatMap (fun l => natBytes 128 (s.hostLine l))).drop (a % 128)).take n, s1)

/-- A word of the summit window or of a per-core block: error code, word, state. DEDUCED, log entry 46. -/
def State.hostWordRead (s : State) (a : Nat) : Nat × Word × State :=
  match regionOf a with
  | .summit => s.windowLoad .host (a - summitBase)
  | .coreBlock c o =>
    let err := s.targetError a .host .read
    let (w, t) := s.blockLoad c o false
    if err = 0 then (0, w, t) else (err, 0, s)
  | _ => (codeNoAddress, 0, s)

/-- A frame of the host waits, behind those that wait already (R321). DEDUCED, log entry 50. -/
def State.hostLater (s : State) (ty : Nat) (f : HFrame) : State :=
  { s with host := { s.host with waiting := s.host.waiting ++ [⟨BitVec.ofNat 5 ty, f⟩] } }
def State.hostWaits (s : State) : Bool := !s.host.waiting.isEmpty

/-- A host read is performed whole, but one of a cairn, or of a block that its rim holds, goes as a request (R392); where it meets a
fenced saddle or an earlier request it is tried again later. DEDUCED, log entry 50. -/
def State.hostReadGo (s : State) (f : HFrame) : State :=
  let a := f.addr.toNat
  let later := match regionOf a with
    | .cairn _ _ => hWord f
    | .coreBlock c _ => hWord f && s.rimKeeps c
    | _ => false
  let got : Option (Nat × List Byte × State) :=
    if a < dramSize then s.hostRead a (if hWord f then 8 else (f.aux.toNat % 64 + 1) * 64)
    else if hWord f then
      let (c, w, t) := s.hostWordRead a
      if c = codeFenced then none else some (c, natBytes 8 w.toNat, t)
    else some (codeNoAddress, [], s)
  if s.hostWaits then s.hostLater 0 f
  else if later then s.sendNew (.host f.tag) .loadWord (s.ownAddr a) (identWord s.dev 2 0 false 0) 0 0
  else match got with
  | none => s.hostLater 0 f
  | some (code, bs, s1) =>
    if code ≠ 0 then s1.ddataError f.tag.toNat a code else s1.ddata f.tag.toNat a bs

/-- HRD. -/
def execHrd (f : HFrame) (s : State) : Out :=
  s.hostFrame 0x00 f false (fun t => if t.hostHold then t.ddataError f.tag.toNat f.addr.toNat codeFenced else t.hostReadGo f)

/-! ### Host writes (R369) -/

/-- Bytes leave as writes of the host-link master, line by line in address order. DEDUCED, log entry 50. -/
def State.hostBytes (s : State) (tag : Nat) (a : Nat) (bs : List Byte) : State :=
  (touched a bs.length).foldl (fun t l =>
    let lo := Nat.max a (l * 128)
    let hi := Nat.min (a + bs.length) (l * 128 + 128)
    let part := (bs.drop (lo - a)).take (hi - lo)
    let m := BitVec.ofNat 128 (byteMask (lo % 128) part.length)
    if dramSize ≤ l * 128 then t.hostRefused codeNoAddress
    else t.sendNew (.host (BitVec.ofNat 16 tag)) (.write m (BitVec.ofNat 1024 (bytesNat part * 2 ^ (8 * (lo % 128)))) false)
      (t.ownAddr (l * 128)) (identWord t.dev 2 0 false 0) Config.untranslatedClass 0) s

/-- A word for a device window. DEDUCED, log entry 46. -/
def State.hostWordWrite (s : State) (a : Nat) (v : Word) : State :=
  match regionOf a with
  | .summit =>
    let (code, t) := s.windowStore .host (a - summitBase) v
    if code = 0 then t else t.hostRefused code
  | .cairn _ _ => s.sendNew (.host 0) (.word v) (s.ownAddr a) (identWord s.dev 2 0 false 0) 0 0
  | .coreBlock _ _ => s.sendNew (.host 0) (.word v) (s.ownAddr a) (identWord s.dev 2 0 false 0) 0 0
  | _ => s.hostRefused codeNoAddress

/-- The error of the first line of a write that answers one; 0 for none. -/
def State.hostTarget (s : State) (ls : List Nat) : Nat :=
  (ls.findSome? (fun l =>
    let err := if dramSize ≤ l * 128 then codeNoAddress else s.targetError (l * 128) .host .write
    if err ≠ 0 then some err else none)).getD 0

/-- A host write of DRAM is checked and performed whole, so that it counts once where it is refused. DEDUCED, log entry 50. -/
def State.hostWrite (s : State) (f : HFrame) (a : Nat) (bs : List Byte) : State :=
  let err := s.hostTarget (touched a bs.length)
  if s.hostWaits || err = codeFenced then s.hostLater 1 f
  else if err ≠ 0 then s.hostRefused err
  else match s.writeNow a bs with
    | (true, t) => t
    | (false, t) => t.hostLater 1 f

/-- A host write in Run. -/
def State.hostWriteGo (s : State) (f : HFrame) : State :=
  let a := f.addr.toNat
  if dramSize ≤ a then
    (if s.hostWaits then s.hostLater 1 f
     else if hWord f then s.hostWordWrite a (flitLo (hflit f 0)) else s.hostRefused codeNoAddress)
  else s.hostWrite f a (if hWord f then (flitBytes f.flits).take 8 else flitBytes f.flits)

/-- HWR. DEDUCED, log entry 50. -/
def execHwr (f : HFrame) (s : State) : Out :=
  s.hostFrame 0x01 f true (fun t => if t.hostHold then t.hostRefused codeFenced else t.hostWriteGo f)

/-! ### Doorbells (R371) -/

/-- A doorbell in Run: the link reads word 0 of its entry and writes word 1; where it meets a fenced saddle or an earlier request it
is tried again later. -/
def State.doorbell (s : State) (f : HFrame) : State :=
  let n := f.aux.toNat
  let e := s.obj 0x4310 1 + 16 * n
  if s.hostWaits then s.hostLater 7 f
  else if s.obj 0x4310 2 ≤ n then s.count 0x4310 3
  else
    match s.hostRead e 8 with
    | none => s.hostLater 7 f
    | some (code, bs, s1) =>
      let w0 := w64 (bytesNat bs)
      let err := s1.targetError (e + 8) .host .write
      if code ≠ 0 then s1.hostRefused code
      else if !wb w0 63 then s1.count 0x4310 3
      else if err = codeFenced then s.hostLater 7 f
      else if err ≠ 0 then s1.hostRefused err
      else match s1.writeNow (e + 8) (natBytes 8 (flitLo (hflit f 0)).toNat) with
        | (true, t) => if wf w0 20 0 < 1048580 then t.setIp (wf w0 20 0) ipDoorbell else t
        | (false, t) => t.hostLater 7 f

/-- DBELL: number 0xFFFF wakes the module from Hold, but not from a varnish pass (R395, R461). DEDUCED, log entry 50. -/
def execDbell (f : HFrame) (s : State) : Out :=
  s.hostFrame 0x07 f true (fun t =>
    if !t.hostHold then t.doorbell f
    else if f.aux = 0xFFFF then (if t.mstate = 4 && t.obj 0x2041 0 = 1 then t.wakeModule 4 else t)
    else t.count 0x4310 3)

/-! ### Bursts (R373, R375) -/

def burstDef (_ : Nat) : Burst := {}
def State.burst (s : State) (b : Nat) : Burst := mget burstDef s.host.bursts b
def State.setBurst (s : State) (b : Nat) (v : Burst) : State :=
  { s with host := { s.host with bursts := mset burstDef s.host.bursts b v } }
/-- BSTAT for a burst into the module. -/
def State.bstat (s : State) (b state reason seq : Nat) : State := s.hsend 0x05 (hframe b seq 0 0 (state * 4096 + reason) [])
/-- DEDUCED, log entry 51. -/
def bstateCode : BState → Nat
  | .none => 0
  | .open => 1
  | .paused => 2
  | .committing => 1
/-- The buffer is free and its credit returned. -/
def State.freeBurst (s : State) (b : Nat) : State := (s.setBurst b {}).modLink 6 (fun l => { l with held := addAt l.held 2 1 })

/-- The state of a descriptor changes. -/
def State.modDesc (s : State) (no : Nat) (f : Desc → Desc) : State :=
  { s with host := { s.host with descs := s.host.descs.map (fun d => if d.no = no then f d else d) } }

/-- A descriptor's next burst begins, if none runs and something is left: toward the host with its data (BOPEN, BDATA), from the
host with BFETCH. A read that meets a fenced saddle waits. -/
def State.nextBurst (s : State) (d : Desc) : State :=
  if d.running ≠ 0 || d.left = 0 then s
  else
    let n := Nat.min d.left 65536
    let aux := n / 256 - 1
    let more (t : State) : State := t.modDesc d.no (fun e =>
      { e with left := e.left - n, at_ := e.at_ + n, host := e.host + n, running := 1 })
    if d.op = 0 then
      match s.hostRead d.at_ n with
      | none => s
      | some (code, bs, s1) =>
      if code ≠ 0 then s1.modDesc d.no (fun e => e.broken code)
      else match (List.range 64).find? (fun b => !(s1.host.out.any (fun o => o.buf.toNat = b))) with
        | none => s
        | some b =>
          let data := bytesFlits (n / 16) bs
          let s2 : State := { s1 with host := { s1.host with out := s1.host.out ++ [⟨BitVec.ofNat 6 b, d.no, data⟩] } }
          let s3 := s2.hsend 0x02 (hframe b 0 0 0 aux [BitVec.ofNat 128 (d.host % 2 ^ 64)])
          more ((List.range (n / 256)).foldl (fun t i => t.hsend 0x03 (hframe b i 0 0 0 ((data.drop (16 * i)).take 16))) s3)
    else
      match (List.range 64).find? (fun b => decide (s.burst b = {})) with
      | none => s
      | some b => more ((s.setBurst b { desc := some d.no }).hsend 0x06 (hframe b 0 d.at_ 0 aux [BitVec.ofNat 128 (d.host % 2 ^ 64)]))
def State.engineGo (s : State) : State := s.host.descs.foldl (fun t d => t.nextBurst d) s

/-- A burst of a descriptor has ended, with a code. -/
def State.burstEnded (s : State) (no : Nat) (code : Nat) : State :=
  (s.modDesc no (fun d => if code = 0 then { d with running := 0 } else d.broken code)).engineGo

/-- A burst into the module is discarded with a reason. DEDUCED, log entry 51. -/
def State.discardBurst (s : State) (b reason : Nat) : State :=
  let x := s.burst b
  let s1 := (s.bstat b 4 reason x.expected).freeBurst b
  match x.desc with
  | some no => s1.burstEnded no codeUnreachable
  | none => s1

def BState.isOpen (x : BState) : Bool := x = .open || x = .paused

/-- BOPEN. DEDUCED, log entry 51. -/
def execBopen (f : HFrame) (s : State) : Out :=
  let b := f.buf.toNat
  s.hostFrame 0x02 f false (fun t =>
    if t.hostHold then (t.bstat b 4 0x004 0).modLink 6 (fun l => { l with held := addAt l.held 2 1 })
    else if (t.burst b).st = .committing then t.modLink 6 (fun l => { l with held := addAt l.held 2 1 })
    else
      let t1 := if (t.burst b).st.isOpen then t.discardBurst b 0x002 else t
      t1.setBurst b { st := .open, addr := f.addr, frames := f.aux.toNat % 256 + 1, expected := 0, data := []
                      desc := (t1.burst b).desc })

/-- The whole burst leaves as host-link writes in address order. -/
def State.commitBurst (s : State) (b : Nat) (x : Burst) : State :=
  (s.setBurst b { x with st := .committing }).hostBytes (0x8000 + b) x.addr.toNat (flitBytes x.data)

/-- BDATA. DEDUCED, log entry 51. -/
def execBdata (f : HFrame) (s : State) : Out :=
  let b := f.buf.toNat
  s.hostFrame 0x03 f true (fun t =>
    let x := t.burst b
    let seq := f.seq.toNat
    if x.st = .none then t.bstat b 0 0 0
    else if seq < x.expected then t
    else if x.st = .committing then t.bstat b 0 0 0
    else if x.expected < seq then t.discardBurst b 0x001
    else
      let y := { x with st := .open, expected := x.expected + 1, data := x.data ++ f.flits }
      if y.expected = y.frames then t.commitBurst b y else t.setBurst b y)

/-- BRES. -/
def execBres (f : HFrame) (s : State) : Out :=
  let b := f.buf.toNat
  s.hostFrame 0x04 f true (fun t => t.bstat b (bstateCode (t.burst b).st) 0 (t.burst b).expected)

/-- BURST_PAUSE: the silence of a burst reaches PAUSE. -/
def execBurstPause (b : BitVec 6) (s : State) : Out :=
  let x := s.burst b.toNat
  .next (if x.st = .open then (s.setBurst b.toNat { x with st := .paused }).bstat b.toNat 2 0 x.expected else s)

/-- BURST_DISCARD: it reaches DISCARD. -/
def execBurstDiscard (b : BitVec 6) (s : State) : Out :=
  .next (if (s.burst b.toNat).st.isOpen then s.discardBurst b.toNat 0x003 else s)

/-- Whether a write of the host link under a tag is still on its way. -/
def hostTag (tag : Nat) (x : Src) : Bool := x = .host (BitVec.ofNat 16 tag)
def State.hostOpen (s : State) (tag : Nat) : Bool :=
  s.reqs.any (fun r => hostTag tag r.src) || s.resend.any (fun r => hostTag tag r.src)
  || s.plinths.any (fun e => e.2.refused.any (fun t => hostTag tag t.req.src))

/-- BURST_COMMIT_DONE: every byte is visible at M, or has been answered with an error. -/
def execBurstCommitDone (b : BitVec 6) (s : State) : Out :=
  let i := b.toNat
  let x := s.burst i
  .next (if x.st ≠ .committing || s.hostOpen (0x8000 + i) then s
    else
      let mine := s.answers.filter (fun a => hostTag (0x8000 + i) a.dst)
      let bad := mine.filter (fun a => a.code ≠ 0)
      let s1 : State := { s with answers := s.answers.filter (fun a => !hostTag (0x8000 + i) a.dst) }
      let s2 := bad.foldl (fun t a => t.hostRefused a.code.toNat) s1
      let s3 := (s2.bstat i 3 0 x.expected).freeBurst i
      match x.desc with
      | some no => s3.burstEnded no ((bad[0]?).elim 0 (fun a => a.code.toNat))
      | none => s3)

/-! ### Bursts to the host (R377) -/

def State.outOf (s : State) (b : BitVec 6) : Option OutBurst := s.host.out.find? (fun o => o.buf = b)
def State.dropOut (s : State) (b : BitVec 6) : State :=
  { s with host := { s.host with out := s.host.out.filter (fun o => o.buf ≠ b) } }

/-- BSTAT: complete ends the burst, none or discarded breaks its descriptor, and any other state names the frame from which it
resumes. -/
def execBstat (f : HFrame) (s : State) : Out :=
  s.hostFrame 0x05 f true (fun t =>
    match t.outOf f.buf with
    | none => t
    | some o =>
      let code := fld f.aux.toNat 15 12
      if code = 3 then (t.dropOut f.buf).burstEnded o.desc 0
      else if code = 0 || code = 4 then (t.dropOut f.buf).burstEnded o.desc codeUnreachable
      else
        let n := o.data.length / 16
        ((List.range n).filter (fun i => f.seq.toNat ≤ i)).foldl (fun u i =>
          u.hsend 0x03 (hframe f.buf.toNat i 0 0 0 ((o.data.drop (16 * i)).take 16))) t)

/-- Whether a frame of a burst still waits to be sent. -/
def State.burstWaits (s : State) (b : BitVec 6) : Bool :=
  (s.link 6).txq.any (fun x => match x with
    | .h f => x.ofBurst && f.f.buf = b
    | _ => false)
/-- BURST_COMPLETE_TIMEOUT: DISCARD has passed since the burst's last frame (R377). -/
def execBurstCompleteTimeout (b : BitVec 6) (s : State) : Out :=
  .next (match s.outOf b with
    | some o => if s.burstWaits b then s else (s.dropOut b).burstEnded o.desc codeUnreachable
    | none => s)

/-- CRST, which holds nothing but its TYPE (R377). -/
def crstFrame : HFrame :=
  let f := hframe 0 0 0 0 0 []
  { f with fcrc := hframeFcrc 0x1E f }
/-- CRST: every open burst is discarded with reason 0x004, and the credits start again. -/
def execCrst (s : State) : Out :=
  s.hostFrame 0x1E crstFrame true (fun t =>
    t.burstsLost.creditsAgain 6)

/-! ### The descriptor ring (R372, R373) -/

/-- A descriptor as it stands in the ring. -/
def State.descAt (s : State) (a no : Nat) : Desc :=
  let w (i : Nat) : Word := s.word (a + 8 * i)
  let len := wf (w 2) 31 0
  let op := wf (w 2) 63 62
  let at_ := (w 0).toNat
  let bad := op = 3 || wf (w 2) 60 48 ≠ 0
    || (op ≠ 2 && (at_ % 256 ≠ 0 || len % 256 ≠ 0 || len = 0 || dramSize < at_ + len))
  { no := no, slot := a, op := BitVec.ofNat 2 op, cv := wb (w 2) 61, cairn := BitVec.ofNat 16 (wf (w 2) 47 32)
    left := if bad || op = 2 then 0 else len, at_ := at_, host := (w 1).toNat
    code := if bad then BitVec.ofNat 16 codeEngine else 0, running := 0, written := false }

/-- The answer to the engine's wait. -/
def State.linkAnswer (s : State) : Option (Ans × State) :=
  match takeFirst (fun a => linkWaits a.dst a.kind) s.answers with
  | some (a, rest) => some (a, { s with answers := rest })
  | none => none

/-- DESCRIPTOR_TAKE: the engine's wait has been answered; it takes one descriptor with a DECREMENT of 1, lists its wait again, and
starts the descriptor. A wait answered Fenced, recovering, is sent again. DEDUCED, log entry 52. -/
def execDescriptorTake (s : State) : Out :=
  .next (match s.linkAnswer with
  | none => s
  | some (a, s1) =>
    if a.code = 0x1001 then s1.linkWait
    else if a.code ≠ 0 then s1
    else if !s.ringOn || 16 ≤ s.host.descs.length then s
    else
      let at_ := s.obj 0x4300 5 + 32 * (s.host.ringIndex % s.obj 0x4300 6)
      match s1.hostRead at_ 32 with
      | none => s
      | some (code, _, s2) =>
        let d0 := s2.descAt at_ s2.host.descNo
        let d : Desc := if code ≠ 0 then d0.broken code else d0
        let s3 : State := { s2 with host := { s2.host with
          descs := s2.host.descs ++ [d], ringIndex := s2.host.ringIndex + 1, descNo := s2.host.descNo + 1 } }
        let s4 := s3.sendNew .link (.decrement 1) (s3.ownAddr (cairnAddr s3.ringCairn 0)) (s3.linkIdent 1) 0 0
        let s5 := s4.linkWait
        if d.op = 2 && d.code = 0 then
          let (v, s6) := s5.takeFree
          s6.hsend 0x07 (hframe 0 0 0 0 (v.toNat % 65536) [BitVec.ofNat 128 d.host])
        else s5.nextBurst d)

/-- Whether a write of the engine to an address is still on its way. -/
def linkWrite (a : Nat) (r : Req) : Bool := r.src = .link && localOf r.addr = a && isWrite { r with acks := none }
def State.linkWriteOpen (s : State) (a : Nat) : Bool :=
  s.reqs.any (linkWrite a) || s.resend.any (linkWrite a)
  || s.plinths.any (fun e => e.2.refused.any (fun t => linkWrite a t.req))

/-- Whether the DBELL of a doorbell descriptor still waits to be sent (R373). -/
def State.dbellWaits (s : State) (d : Desc) : Bool :=
  (s.link 6).txq.any (fun x => match x with
    | .h f => f.ty = 7 && f.f.flits = [BitVec.ofNat 128 d.host]
    | _ => false)

/-- DESCRIPTOR_DONE: DONE and ECODE are written; once that is visible at M the completion cairn is signalled. DEDUCED, log entry 52. -/
def execDescriptorDone (i : Nat) (s : State) : Out :=
  .next (match s.host.descs.find? (fun d => d.no = i) with
  | none => s
  | some d =>
    if d.running ≠ 0 || d.left ≠ 0 || (d.op = 2 && s.dbellWaits d) then s
    else if !d.written then
      (s.sendNew .link (.word (w64 (2 ^ 63 + d.code.toNat))) (s.ownAddr (d.slot + 0x18)) (s.linkIdent 0)
        Config.untranslatedClass 0).modDesc i (fun e => { e with written := true })
    else if s.linkWriteOpen (d.slot + 0x18) then s
    else
      let s1 : State := { s with
        answers := s.answers.filter (fun a => !(a.dst = .link && localOf a.addr = d.slot + 0x18))
        host := { s.host with descs := s.host.descs.filter (fun e => e.no ≠ i) } }
      if d.cv then s1.sendNew .link (.signal 1) (s1.ownAddr (cairnAddr d.cairn.toNat 0)) (s1.linkIdent 0) 0 0 else s1)

/-- The reads, writes and doorbells that wait are tried again, and the engine goes on (R321). DEDUCED, log entry 50. -/
def State.hostAgain (s : State) : State :=
  let ws := s.host.waiting
  let s1 : State := { s with host := { s.host with waiting := [] } }
  (ws.foldl (fun t w => if w.ty = 0 then t.hostReadGo w.f else if w.ty = 1 then t.hostWriteGo w.f else t.doorbell w.f)
    (if s1.host.ringSet.isSome then s1.ringConfig else s1)).engineGo

end Sys2Proof.Machine
end

