-- ==== Sys2Proof/Machine/Memory.lean ====
section
/-! DEFINITION. A core's way to memory: the store path and the cluster cache at a lookup (R216, R220, R221, R227), loads,
stores, PREF, LR and SC, the fences, SIGC, WAITC and NMC as they issue (R125 to R127, R139, R140, R213, R214, R239), and the
sending of queue entries (R126, R284). -/

namespace Sys2Proof.Machine

/-! ### Requests on their way -/

def isDram (pa : Word) : Bool := localOf pa < dramSize

/-- Whether a request carries stores of core `c`. -/
def storeOf (c : Nat) (r : Req) : Bool :=
  isStore r && (match r.src with
    | .storePath _ who => who.any (fun x => x.core = c)
    | .core d => d = c
    | _ => false)
/-- Whether a request is a SIGC of the memory queue of core `c` (R126, R252). -/
def sigcOf (c : Nat) (r : Req) : Bool :=
  r.src == .core c && !wb r.ident 45 && (match r.kind with
    | .signal _ => true
    | .decrement _ => true
    | _ => false)
/-- Whether a release of core `c` waits for a request: a store or SIGC of the core, or a write-back of its cluster (R213, R222). -/
def releaseOf (c : Nat) (r : Req) : Bool :=
  storeOf c r || sigcOf c r || (isStore r && (match r.src with
    | .storePath k [] => !coreBoot c && k = clusterOf c
    | _ => false))

/-- Whether an earlier store of core `c` to an address that `same` selects has not been accepted (R213, R220). -/
def State.storeOpen (s : State) (c : Nat) (same : Word → Bool) : Bool :=
  (s.cluster (clusterOf c)).storePath.any (fun e => e.device && e.contrib.any (fun x => x.core = c) && same e.addr)
  || (s.openReqs ++ s.farReqs).any (fun r => storeOf c r && same r.addr)

/-- Whether a load may be sent: one of a device window, and any load of a boot core, which has no cluster, waits for the
core's earlier stores to its doubleword, or line (R112, R220); one of a cairn for all to that cairn (R265). -/
def State.loadReady (s : State) (c : Nat) (pa : Word) : Bool :=
  let same (g : Nat) : Bool := !s.storeOpen c (fun a => a.toNat / g = pa.toNat / g)
  if isDram pa then !coreBoot c || same 128
  else match regionOf (localOf pa) with
    | .cairn _ _ => same 256
    | _ => same 8
/-- Whether an earlier store of core `c` to a line of DRAM has not left for its home, so that LR and SC wait (R213, R321). DEDUCED, log
entry 26. -/
def State.lineHeld (s : State) (c line : Nat) : Bool :=
  (s.cluster (clusterOf c)).storePath.any (fun e => !e.device && e.addr.toNat / 128 = line && e.contrib.any (fun x => x.core = c))
  || s.resend.any (fun r => storeOf c r && r.addr.toNat / 128 = line)

/-! ### Words of the windows -/

/-- A doubleword in its place within a line. -/
def at8 (a : Nat) (v : Word) : BitVec 1024 := BitVec.ofNat 1024 (v.toNat * 2 ^ (8 * (a % 128)))

/-- A request leaves. A doubleword of the own module's summit window is performed as it leaves (R431, R432). DEDUCED, log
entry 31. -/
def State.depart (s : State) (r : Req) : State :=
  let a := localOf r.addr
  if !s.isLocal r.addr then s.send r
  else
    match regionOf a, r.kind with
    | .summit, .loadWord =>
      let (m, s1) := s.reqMaster r.src
      let (code, w, s2) := s1.windowLoad m (a - summitBase)
      s2.answer (answerOf r code (if code = 0 then at8 a w else 0) none pathSummit false)
    | .summit, .word v =>
      let (m, s1) := s.reqMaster r.src
      let (code, s2) := s1.windowStore m (a - summitBase) v
      if code = 0 && !r.src.acked then s2.noteVisible r.src false (r.t + srcPath r.src pathSummit)
      else s2.answer (answerOf r code 0 none pathSummit false)
    | _, _ => s.send r

/-- The request of a queue entry of core `c`, sent at beat `t`; its answer is known by the entry's number. -/
def entryReq (c : Nat) (e : QEntry) (kind : RKind) (addr ident : Word) (t : Nat) : Req :=
  { id := e.id, src := .core c, kind := kind, addr := addr, cls := e.cls, ident := ident, beat := 0, acks := none, t := t }

/-! ### The store path (R220, R474) -/

/-- The entries of a store path that are in use: those that wait to be sent again are (R321). DEDUCED, log entry 27. -/
def State.pathUse (s : State) (k : Nat) : Nat :=
  (s.cluster k).storePath.length + (s.resend.filter (fun r => match r.src with
    | .storePath j (_ :: _) => j = k
    | _ => false)).length
def pathEntries : Nat := 32

def mergeContrib (c : Nat) (tile : Bool) (low : Word) : List Contrib → List Contrib
  | [] => [{ core := c, tile := tile, low := low }]
  | x :: xs =>
    if x.core = c then { x with tile := tile, low := if low.toNat < x.low.toNat then low else x.low } :: xs
    else x :: mergeContrib c tile low xs

/-- `n` bytes of a core enter the store path: they merge into the entry of their DRAM line or take a free one; `none` where all are in
use. A boot core, which has no store path, sends them. `keep` is false for a tile-store row with CA = 0 (R224); an entry that holds such
bytes beside others allocates: the model's choice. DEDUCED, log entry 27. DESIGN CHOICE, log entry 87. -/
def State.pathPut (s : State) (c : Nat) (e : QEntry) (n v : Nat) (tile keep : Bool) (t : Nat) : Option State :=
  let k := clusterOf c
  let off := e.pa.toNat % 128
  let m : BitVec 128 := BitVec.ofNat 128 (byteMask off n)
  let d : BitVec 1024 := BitVec.ofNat 1024 (v * 2 ^ (8 * off))
  let dev := !isDram e.pa
  let line : Word := w64 (e.pa.toNat / 128 * 128)
  if coreBoot c then
    some (s.depart (entryReq c e (if dev && n = 8 then .word (w64 v) else .write m d false) e.pa (s.coreIdent c 0 false) t))
  else
    let cl := s.cluster k
    let same (x : SEntry) : Bool := !dev && !x.device && x.addr == line
    if cl.storePath.any same then
      some (s.setCluster k { cl with storePath := cl.storePath.map (fun x =>
        if same x then
          { x with data := mergeLine m d x.data, mask := x.mask ||| m, sh := x.sh || e.sh
                   cls := if x.cls.toNat < e.cls.toNat then e.cls else x.cls
                   noAlloc := x.noAlloc && !keep, contrib := mergeContrib c tile e.pa x.contrib }
        else x) })
    else if pathEntries ≤ s.pathUse k then none
    else
      let x : SEntry :=
        { addr := if dev then e.pa else line, device := dev, data := d, mask := m, sh := e.sh, cls := e.cls
          noAlloc := !keep, contrib := mergeContrib c tile e.pa [] }
      some (s.setCluster k { cl with storePath := cl.storePath ++ [x] })

/-- Where an address has its home, as far as the fence of a domain goes. -/
def homeOf (pa : Word) : Nat × Nat × Nat :=
  (devOf pa, match regionOf (localOf pa) with
    | .dram => (1, saddleOfStack (stackOf (localOf pa)))
    | .cairn q _ => (1, saddleOfCairn q)
    | .coreBlock d _ => (2, clusterOf d)
    | .summit => (3, 0)
    | .unassigned => (4, 0))
/-- Whether a reset domain holds the home of a local address. -/
def domHome (d : Dom) (pa : Word) : Bool :=
  match regionOf (localOf pa) with
  | .dram => domSaddle d (saddleOfStack (stackOf (localOf pa)))
  | .cairn q _ => domSaddle d (saddleOfCairn q)
  | .coreBlock x _ => !coreBoot x && domCluster d (clusterOf x)
  | _ => false

/-- The domain of another module that holds the home of `pa`, of width `lv` (R304, R321). -/
def farDom (lv : Nat) (pa : Word) : Dom :=
  match regionOf (localOf pa) with
  | .coreBlock c _ =>
    (match lv with
     | 0 => .cluster (Fin.ofNat 65536 (clusterOf c))
     | 1 => .spur (Fin.ofNat 1024 (spurOf c))
     | 2 => .ridge (Fin.ofNat 16 (ridgeOf c))
     | _ => .module)
  | r => if lv = 3 then .module else .saddle (Fin.ofNat 8 (match r with
      | .cairn q _ => saddleOfCairn q
      | _ => saddleOfStack (stackOf (localOf pa))))
/-- Whether an entry waits behind one that is to be sent again to a home in the same fenced domain; how wide that is on another device,
no answer says (R321). DEDUCED, log entry 27. -/
def State.pathBlocked (s : State) (k : Nat) (e : SEntry) : Bool :=
  s.resend.any (fun r => match r.src with
    | .storePath j (_ :: _) => j = k && (homeOf r.addr = homeOf e.addr || (devOf r.addr = devOf e.addr &&
        (if s.isLocal r.addr then s.recovs.any (fun x => domHome x.dom r.addr && domHome x.dom e.addr)
         else domHome (farDom (Config.farFence r.id % 4) r.addr) e.addr)))
    | _ => false)

/-- What an entry asks of a device window's target: one doubleword, or bytes that no target there accepts. DEDUCED, log entry 46. -/
def SEntry.request (e : SEntry) : RKind :=
  let off := e.addr.toNat % 128
  if e.mask = BitVec.ofNat 128 (byteMask off 8) && off % 8 = 0 then .word (w64 (fld e.data.toNat (8 * off + 63) (8 * off)))
  else .write e.mask e.data false

/-- STORE_PATH_DRAIN: the oldest entry that may leave applies to the cluster cache, or passes on towards its home (R220,
R224). The identity word of a store to a cairn has OP 0b00, also at CONFIG, for which R252 names none. DESIGN CHOICE, log entries 3, 98.
DEDUCED, log entry 27. -/
def execStorePathDrain (k : ClusterId) (s : State) : Out :=
  let cl := s.cluster k
  match takeFirst (fun e => !s.pathBlocked k e) cl.storePath with
  | none => .next s
  | some (e, rest) =>
    let b := Nat.max (s.beat (clusterSpur k)) cl.drainAt
    let s1 := (s.setCluster k { cl with storePath := rest, drainAt := b + 1 }).toBeat (clusterSpur k) b
    let line := e.addr.toNat / 128
    if e.device then
      let ident := e.contrib.foldl (fun _ x => s1.coreIdent x.core 0 false) 0
      let (r, s2) := s1.request (.storePath k e.contrib) e.request e.addr ident 0 b
      .next (s2.depart r)
    else if e.noAlloc && (cl.cfind line).isNone then
      .next (s1.sendWrite k line e.mask e.data e.contrib (e.contrib.all (·.tile)) e.cls b)
    else .next (s1.cacheWrite k line e.mask e.data e.sh (e.cls == 0))

/-! ### Lookup -/

/-- The bytes of a line that a cluster's store path holds, those that wait to be sent again among them (R216, R321).
DEDUCED, log entry 27. -/
def State.pathBytes (s : State) (k line : Nat) : BitVec 128 × BitVec 1024 :=
  let add (acc : BitVec 128 × BitVec 1024) (m : BitVec 128) (d : BitVec 1024) : BitVec 128 × BitVec 1024 :=
    (acc.1 ||| m, mergeLine m d acc.2)
  let again := s.resend.filter (fun r => isStore r && r.addr.toNat / 128 = line && (match r.src with
    | .storePath j _ => j = k
    | _ => false))
  let a1 := again.foldl (fun acc r => add acc r.bytes.1 r.bytes.2) (0, 0)
  ((s.cluster k).storePath.filter (fun e => !e.device && e.addr.toNat / 128 = line)).foldl (fun acc e => add acc e.mask e.data) a1

/-- What a lookup finds: the line's bytes with the path count of their class, or with the beat at which an earlier row of the
transfer brought them, or nothing yet. -/
inductive Look where
  | hit (data : BitVec 1024) (path : Nat)
  | came (data : BitVec 1024) (beat : Nat)
  | waits
  | fired

/-- What an access asks of a lookup: the core, the number its answer is known by, the beat, the page's attributes, and
whether its line is to be installed (R224); for a row, the line where an earlier row has brought it, and the answer that is on its way
to an earlier row with it (R100). -/
structure Want where
  core : Nat
  tag : Nat
  t : Nat
  sh : Bool
  cls : BitVec 2
  install : Bool
  came : Option (Nat × BitVec 1024)
  coming : Option Ans

def Want.wait (w : Want) (m : BitVec 128) (d : BitVec 1024) : MissWait :=
  { core := w.core, tag := w.tag, mask := m, data := d, t := w.t }
def Miss.join (x : Miss) (w : Want) (m : BitVec 128) (d : BitVec 1024) : Miss :=
  { x with sh := x.sh || w.sh, cls := if x.cls.toNat < w.cls.toNat then w.cls else x.cls, install := x.install || w.install
           waits := x.waits ++ [w.wait m d] }
def Want.miss (w : Want) (id line : Nat) (m : BitVec 128) (d : BitVec 1024) : Miss :=
  { id := id, line := line, sh := w.sh, cls := w.cls, install := w.install, old := false, victim := none, waits := [w.wait m d] }
/-- The access joins the miss that `p` selects, or a new one of number `id`. DEDUCED, log entry 29. -/
def joinMiss (p : Miss → Bool) (w : Want) (id line : Nat) (m : BitVec 128) (d : BitVec 1024) (ms : List Miss) : List Miss :=
  if ms.any p then ms.map (fun x => if p x then x.join w m d else x) else ms ++ [w.miss id line m d]

/-- What a dirty victim's write-back adds to a count (R282). -/
def victimPath (wrote : Bool) : Nat := if wrote then pathWrite else 0

/-- A sketch-buffer entry is used up: it becomes Empty, and its plinth hears of it (R227, R229). -/
def State.skUsed (s : State) (k id line : Nat) : State :=
  (s.modCluster k (fun cl => { cl with sketch := cl.sketch.filter (fun e => e.id != id) })).skRelease k line

/-- A line of a Ready entry serves a miss whose fill waits for a victim's write-back `v`: as its home's answer would (R221, R227). -/
def State.skServes (s : State) (k line : Nat) (e : Sketch) (x : Miss) (t : Nat) : State :=
  let a : Ans := { id := e.id, dst := .cluster k, code := 0, data := e.data, sense := none, path := pathSketch, t := t, guarded := false
                   kind := .prefetch false 0, addr := w64 (line * 128), ident := 0, cls := x.cls }
  let s1 := (s.skUsed k e.id line).modCluster k (fun cl => { cl with misses := cl.misses ++ [x] })
  { s1 with answers := s1.answers ++ [a] }

/-- A miss is served with the line that an earlier row of its transfer has brought, or that is on its way to it (R100), from a Ready
sketch-buffer entry, waits for a Pending one, shares a request or makes one (R221, R227). `m` and `d` are the bytes that the lookup found.
DEDUCED, log entry 29. -/
def State.miss (s : State) (k line : Nat) (m : BitVec 128) (d : BitVec 1024) (w : Want) : State × Look :=
  let cl := s.cluster k
  match w.came, w.coming, cl.skFind line with
  | some (b, x), _, _ => (s, .came (mergeLine m d x) b)
  | none, some a, _ => ({ s with answers := s.answers ++ [{ a with id := w.tag, data := mergeLine m d a.data, joined := true }] }, .waits)
  | none, none, some e =>
    if e.st = .ready then
      match (if w.install then s.clearWay k line else (s, none)) with
      | (s1, none) =>
        ((s1.cacheFill k line e.data w.sh (w.cls == 0) w.install).skUsed k e.id line, .hit (mergeLine m d e.data) pathSketch)
      | (s1, some v) => (s1.skServes k line e { w.miss e.id line m d with victim := some v } w.t, .waits)
    else (s.setCluster k { cl with misses := joinMiss (fun x => x.id = e.id && !x.old) w e.id line m d cl.misses }, .waits)
  | none, none, none =>
    let p (x : Miss) : Bool := x.line = line && !x.old && !(cl.sketch.any (fun e => e.id == x.id))
    if cl.misses.any p then (s.setCluster k { cl with misses := joinMiss p w 0 line m d cl.misses }, .waits)
    else
      let (r, s1) := s.request (.cluster k) (.read false) (w64 (line * 128)) 0 w.cls w.t
      ((s1.modCluster k (fun c => { c with misses := c.misses ++ [w.miss r.id line m d] })).send r, .waits)

/-- An access looks for the bytes `need` of a line: in the store path, then in the cluster cache (R216, R221, R223). -/
def State.lookup (s : State) (k line : Nat) (need : BitVec 128) (w : Want) : State × Look :=
  let (pm, pd) := s.pathBytes k line
  let left := need &&& ~~~pm
  if left = 0 then (s, .hit pd pathHit)
  else
    match (s.cluster k).cfind line with
    | none => s.miss k line pm pd w
    | some l =>
      match l.check (wordsOf left) with
      | .fires => (s.fireCluster k 0x2001, .fired)
      | .gone => (s.cleanParity k line).miss k line pm pd w
      | .good =>
        let d := mergeLine pm pd l.data
        if left &&& ~~~l.valid = 0 then (s.modCluster k (fun cl => cl.touch l), .hit d pathHit)
        else s.miss k line (pm ||| l.valid) d w

/-! ### Values arrive -/

/-- The value of a load from the line that holds it (R125). -/
def Pend.extract (p : Pend) (d : BitVec 1024) : Word :=
  let lo := 8 * (p.va.toNat % 128)
  let x := fld d.toNat (lo + 8 * p.bytes - 1) lo
  if p.signed then sext64 (8 * p.bytes) x else w64 x

/-- The value of the result that request `tag` brings is present from spur beat `ready` on. -/
def Core.gotResult (k : Core) (tag ready : Nat) (f : Pend → Word) : Core :=
  { k with pend := k.pend.map (fun p => if p.tag = some tag then { p with tag := none, val := f p, ready := ready } else p) }

/-- The virtual address of row `j` (R99). -/
def Xfer.rowVa (x : Xfer) (j : Nat) : Word := x.base + w64 j * x.stride
/-- The line of row `j`, by its virtual address: of rows of one transfer, two have one line where they have one here (R100, R206).
DEDUCED, log entry 32. -/
def Xfer.rowLine (x : Xfer) (j : Nat) : Nat := (x.rowVa j).toNat / 128
/-- A row of a tile load has arrived, and its line with it. -/
def Core.gotRow (k : Core) (tag beat : Nat) (d : BitVec 1024) : Core :=
  match k.xfer with
  | none => k
  | some x =>
    match x.tags.find? (fun e => e.2 = tag) with
    | none => k
    | some (j, _) =>
      let row : Line := (d >>> (8 * ((x.rowVa j).toNat % 128))).truncate 512
      let lines := if x.lines.any (fun e => e.1 = x.rowLine j) then x.lines else x.lines ++ [(x.rowLine j, beat, d)]
      { k with xfer := some { x with tags := x.tags.filter (fun e => e.2 ≠ tag), got := x.got ++ [(j, beat, row)], lines := lines } }
/-- The line that the row of request `tag` needs, where an earlier row of the transfer has brought it (R100). -/
def Core.rowCame (k : Core) (tag : Nat) : Option (Nat × BitVec 1024) :=
  match k.xfer with
  | none => none
  | some x =>
    match x.tags.find? (fun e => e.2 = tag) with
    | none => none
    | some (j, _) => (x.lines.find? (fun e => e.1 = x.rowLine j)).map (·.2)

/-- The answer that is on its way to another row of the same transfer and line as the row of request `tag` (R100). -/
def State.rowComing (s : State) (c tag : Nat) : Option Ans :=
  match (s.core c).xfer with
  | none => none
  | some x =>
    match x.tags.find? (fun e => e.2 = tag) with
    | none => none
    | some (j, _) => s.answers.find? (fun a => a.dst == .core c && x.tags.any (fun e => e.2 = a.id && e.2 ≠ tag && x.rowLine e.1 = x.rowLine j))

/-- A line answers a load or a row. -/
def Core.gotLine (k : Core) (tag ready : Nat) (d : BitVec 1024) : Core :=
  (k.gotResult tag ready (fun p => p.extract d)).gotRow tag ready d

/-- A load or row of DRAM is served at beat `t`: it needs `n` bytes. -/
def State.serveLine (s : State) (c : Nat) (e : QEntry) (n : Nat) (install : Bool) (t : Nat) : State :=
  if coreBoot c then s.send (entryReq c e (.read false) (w64 (e.pa.toNat / 128 * 128)) 0 t)
  else
    match s.lookup (clusterOf c) (e.pa.toNat / 128) (BitVec.ofNat 128 (byteMask (e.pa.toNat % 128) n))
        { core := c, tag := e.id, t := t, sh := e.sh, cls := e.cls, install := install, came := (s.core c).rowCame e.id
          coming := s.rowComing c e.id } with
    | (s1, .hit d p) => s1.modCore c (fun k => k.gotLine e.id (t + p) d)
    | (s1, .came d b) => s1.modCore c (fun k => k.gotLine e.id (Nat.max b t) d)
    | (s1, _) => s1

/-- A load is served at beat `t` (R126, R216). -/
def State.serveLoad (s : State) (c : Nat) (e : QEntry) (n t : Nat) : State :=
  if isDram e.pa then s.serveLine c e n true t
  else s.depart (entryReq c e (if n = 8 then .loadWord else .read false) e.pa 0 t)

/-- A row of a tile load is served at beat `t` (R101, R126). -/
def State.serveRow (s : State) (c : Nat) (e : QEntry) (ca : Bool) (t : Nat) : State :=
  if isDram e.pa then s.serveLine c e 64 ca t else s.depart (entryReq c e (.read false) (w64 (e.pa.toNat / 128 * 128)) 0 t)

/-! ### Queues -/

def memCap : Nat := 16
def syncCap : Nat := 8

def Core.queue (k : Core) (sync : Bool) : List QEntry := if sync then k.syncQ else k.memQ
def Core.setQueue (k : Core) (sync : Bool) (q : List QEntry) : Core :=
  if sync then { k with syncQ := q } else { k with memQ := q }

/-- The head of a queue leaves at beat `t`; the next entry is sent a beat later at the earliest, and a place is free from then on (R116,
R284). `wait` is what a later entry waits besides, for the acquire of the one that leaves (R213). The next row of a tile load that finds
the queue full, and that of a tile store, which goes behind the queue's entries, waits for that place (R100, R126). -/
def Core.popQ (k : Core) (sync : Bool) (t wait : Nat) : Core :=
  let k0 := k.setQueue sync (((k.queue sync).drop 1).map (fun e => { e with at_ := Nat.max e.at_ (t + 1 + wait) }))
  let k1 := { k0 with
    memAt := if sync then k0.memAt else Nat.max k0.memAt (t + 1 + wait)
    xfer := k0.xfer.map (fun x =>
      if sync then x
      else if x.load then (if memCap ≤ k.memQ.length then { x with q := Nat.max x.q (t + 1) } else x)
      else if k.memQ.length = 1 then { x with q := Nat.max x.q (t + 1 + wait) } else x) }
  match k.frozen with
  | some (.memFull, _) => if !sync && k.clear = 0 then { k1 with clear := t + 1 } else k1
  | some (.syncFull, _) => if sync && k.clear = 0 then { k1 with clear := t + 1 } else k1
  | some (.storePath, _) => if !sync && k.clear = 0 then { k1 with clear := t } else k1
  | _ => k1
def State.pop (s : State) (c : Nat) (sync : Bool) (t wait : Nat) : State := s.modCore c (fun k => k.popQ sync t wait)
/-- The head of a queue is replaced. -/
def State.setHead (s : State) (c : Nat) (sync : Bool) (e : QEntry) : State :=
  s.modCore c (fun k => k.setQueue sync (e :: (k.queue sync).drop 1))

/-- An instruction that needs a queue entry: it freezes on a full queue (R116), else the entry enters at the beat after issue
(R126). `f` is what the core does besides; it knows the entry's number. -/
def State.queueOp (s : State) (c : CoreId) (b : Nat) (sync : Bool) (op : QOp) (pa va : Word) (pg : PageAttr)
    (f : Nat → Core → Core) : Res :=
  let q := (s.core c).queue sync
  if (if sync then syncCap else memCap) ≤ q.length then .freeze (if sync then .syncFull else .memFull)
  else
    let (n, s1) := s.takeId
    let e : QEntry :=
      { id := n, at_ := if sync then b + 1 else Nat.max (b + 1) (s.core c).memAt, op := op, pa := pa, va := va, sh := pg.sh, cls := pg.cls
        sent := false, again := false }
    .done (s1.modCore c (fun k => let k1 := f n k; k1.setQueue sync (k1.queue sync ++ [e]))) .seq

/-- Translation and checks at issue (R127): a cause, a walk, or what `go` does with the address. -/
def withAccess (s : State) (c : Nat) (va : Word) (acc : Acc) (kind : AccKind) (go : Word → PageAttr → Res) : Res :=
  match s.access c va acc kind with
  | .fault code => .raise code va
  | .walk => .freeze (.walk va acc)
  | .ok pa pg => go pa pg

def Core.ea (k : Core) (rs1 : Reg) (imm : BitVec 16) : Word := k.sreg rs1 + imm.signExtend 64
def accKind (n : Nat) : AccKind := if n = 8 then .dword else .scalar
/-- A result that request `tag` brings, due at distance 6 (R115). -/
def Core.awaits (k : Core) (a tag : Nat) (rd : Reg) (va : Word) (n : Nat) (sg : Bool) : Core :=
  { k with pend := addPend { due := a + 6, dst := .sreg rd, tag := some tag, val := 0, va := va, bytes := n, signed := sg } k.pend }

/-! ### Loads and stores (R125) -/

/-- A load of `n` bytes: it is served at issue where its queue is empty (R126). -/
def loadBody (c : CoreId) (n : Nat) (sg : Bool) (rd rs1 : Reg) (imm : BitVec 16) (s : State) (b : Nat) : Res :=
  let k := s.core c
  let va := k.ea rs1 imm
  if va.toNat % n ≠ 0 then .raise causeMisaligned va
  else withAccess s c va .load (accKind n) (fun pa pg =>
    let a := k.active b
    if k.memQ.isEmpty && k.memAt ≤ b && s.loadReady c pa then
      let (id, s1) := s.takeId
      let e : QEntry :=
        { id := id, at_ := b, op := .load n sg, pa := pa, va := va, sh := pg.sh, cls := pg.cls, sent := false, again := false }
      .done ((s1.modCore c (fun k => k.awaits a id rd va n sg)).serveLoad c e n b) .seq
    else s.queueOp c b false (.load n sg) pa va pg (fun id k => k.awaits a id rd va n sg))

/-- A store of `n` bytes. -/
def storeBody (c : CoreId) (n : Nat) (rs2 rs1 : Reg) (imm : BitVec 16) (s : State) (b : Nat) : Res :=
  let k := s.core c
  let va := k.ea rs1 imm
  if va.toNat % n ≠ 0 then .raise causeMisaligned va
  else withAccess s c va .store (accKind n) (fun pa pg =>
    s.queueOp c b false (.store n (w64 ((k.sreg rs2).toNat % 2 ^ (8 * n)))) pa va pg (fun _ k => k))

/-- LD.B (R125). -/
def execLdB (c : CoreId) (rd rs1 : Reg) (imm : BitVec 16) (s : State) : Out :=
  issueOut s c (.ldB c rd rs1 imm) (loadBody c 1 true rd rs1 imm)
/-- LD.BU (R125). -/
def execLdBu (c : CoreId) (rd rs1 : Reg) (imm : BitVec 16) (s : State) : Out :=
  issueOut s c (.ldBu c rd rs1 imm) (loadBody c 1 false rd rs1 imm)
/-- LD.H (R125). -/
def execLdH (c : CoreId) (rd rs1 : Reg) (imm : BitVec 16) (s : State) : Out :=
  issueOut s c (.ldH c rd rs1 imm) (loadBody c 2 true rd rs1 imm)
/-- LD.HU (R125). -/
def execLdHu (c : CoreId) (rd rs1 : Reg) (imm : BitVec 16) (s : State) : Out :=
  issueOut s c (.ldHu c rd rs1 imm) (loadBody c 2 false rd rs1 imm)
/-- LD.W (R125). -/
def execLdW (c : CoreId) (rd rs1 : Reg) (imm : BitVec 16) (s : State) : Out :=
  issueOut s c (.ldW c rd rs1 imm) (loadBody c 4 true rd rs1 imm)
/-- LD.WU (R125). -/
def execLdWu (c : CoreId) (rd rs1 : Reg) (imm : BitVec 16) (s : State) : Out :=
  issueOut s c (.ldWu c rd rs1 imm) (loadBody c 4 false rd rs1 imm)
/-- LD.D (R125). -/
def execLdD (c : CoreId) (rd rs1 : Reg) (imm : BitVec 16) (s : State) : Out :=
  issueOut s c (.ldD c rd rs1 imm) (loadBody c 8 false rd rs1 imm)
/-- ST.B (R125). -/
def execStB (c : CoreId) (rs2 rs1 : Reg) (imm : BitVec 16) (s : State) : Out :=
  issueOut s c (.stB c rs2 rs1 imm) (storeBody c 1 rs2 rs1 imm)
/-- ST.H (R125). -/
def execStH (c : CoreId) (rs2 rs1 : Reg) (imm : BitVec 16) (s : State) : Out :=
  issueOut s c (.stH c rs2 rs1 imm) (storeBody c 2 rs2 rs1 imm)
/-- ST.W (R125). -/
def execStW (c : CoreId) (rs2 rs1 : Reg) (imm : BitVec 16) (s : State) : Out :=
  issueOut s c (.stW c rs2 rs1 imm) (storeBody c 4 rs2 rs1 imm)
/-- ST.D (R125). -/
def execStD (c : CoreId) (rs2 rs1 : Reg) (imm : BitVec 16) (s : State) : Out :=
  issueOut s c (.stD c rs2 rs1 imm) (storeBody c 8 rs2 rs1 imm)

/-- PREF: it raises no exception, and a prefetch that fails a check, or addresses a device window, is discarded (R125,
R225). DEDUCED, log entry 31. -/
def execPref (c : CoreId) (hint rs1 : Reg) (imm : BitVec 16) (s : State) : Out :=
  issueOut s c (.pref c hint rs1 imm) (fun t b =>
    let va := (t.core c).ea rs1 imm
    match t.access c va .pref .pref with
    | .fault _ => .done t .seq
    | .walk => .freeze (.walk va .pref)
    | .ok pa pg =>
      if !isDram pa then .done t .seq else t.queueOp c b false (.pref hint (w64 (pg.pageEnd - 1))) pa va pg (fun _ k => k))

/-! ### LR, SC and the fences -/

/-- The width of LR and SC. DEDUCED, log entry 26. -/
def lrBytes (dbl : Bool) : Nat := if dbl then 8 else 4

/-- LR (its page): the reservation of the issuing core is the granule's from now on (R139, R140). DEDUCED, log entries 24, 26. -/
def execLr (c : CoreId) (rd rs1 : Reg) (aq dbl : Bool) (s : State) : Out :=
  issueOut s c (.lr c rd rs1 aq dbl) (fun t b =>
    let k := t.core c
    let va := k.sreg rs1
    if va.toNat % lrBytes dbl ≠ 0 then .raise causeMisaligned va
    else withAccess t c va .load .lrsc (fun pa pg =>
      t.queueOp c b false (.lr dbl aq) pa va pg (fun id k =>
        { k.awaits (k.active b) id rd va (lrBytes dbl) true with rsv := some (pa.toNat / 128) })))

/-- SC (its page): without the core's reservation it writes 1 and sends nothing. DEDUCED, log entries 24, 26. -/
def execSc (c : CoreId) (rd rs1 rs2 : Reg) (rl dbl : Bool) (s : State) : Out :=
  issueOut s c (.sc c rd rs1 rs2 rl dbl) (fun t b =>
    let k := t.core c
    let va := k.sreg rs1
    if va.toNat % lrBytes dbl ≠ 0 then .raise causeMisaligned va
    else withAccess t c va .store .lrsc (fun pa pg =>
      if k.rsv ≠ some (pa.toNat / 128) then .done (t.setCore c { k.result (k.active b) 6 rd 1 with rsv := none }) .seq
      else t.queueOp c b false (.sc dbl rl (k.sreg rs2)) pa va pg (fun id k =>
        { k.awaits (k.active b) id rd va (lrBytes dbl) false with rsv := none })))

def noPage : PageAttr := { sh := false, cls := 0, pageBase := 0, pageEnd := 0 }

/-- FENCE.L (R214, R215). -/
def execFenceL (c : CoreId) (s : State) : Out :=
  issueOut s c (.fenceL c) (fun t b => t.queueOp c b false (.fence 0) 0 0 noPage (fun _ k => k))
/-- FENCE.M (R214, R215). -/
def execFenceM (c : CoreId) (s : State) : Out :=
  issueOut s c (.fenceM c) (fun t b => t.queueOp c b false (.fence 1) 0 0 noPage (fun _ k => k))
/-- FENCE.G (R214, R215). -/
def execFenceG (c : CoreId) (s : State) : Out :=
  issueOut s c (.fenceG c) (fun t b => t.queueOp c b false (.fence 2) 0 0 noPage (fun _ k => k))
/-- FENCE.I: the core's instruction cache is invalidated; it takes an entry as every fence does (R126, LR and SC page).
DEDUCED, log entry 25. -/
def execFenceI (c : CoreId) (s : State) : Out :=
  issueOut s c (.fenceI c) (fun t b => t.queueOp c b false .fenceI 0 0 noPage (fun _ k => { k with icache := [] }))

/-! ### SIGC and WAITC -/

/-- A cairn instruction: its address must be a cairn's (R245), and it takes an entry of the queue that Q names. -/
def cairnBody (c : CoreId) (q : Bool) (rs1 : Reg) (acc : Acc) (op : QOp) (s : State) (b : Nat) : Res :=
  let va := (s.core c).sreg rs1
  withAccess s c va acc .cairn (fun pa pg => s.queueOp c b q op pa va pg (fun _ k => k))

/-- SIGC.ADD (its page). -/
def execSigcAdd (c : CoreId) (rs1 rs2 : Reg) (q : Bool) (s : State) : Out :=
  issueOut s c (.sigcAdd c rs1 rs2 q) (fun t b => cairnBody c q rs1 .store (.sigc false (cairnN ((t.core c).sreg rs2))) t b)
/-- SIGC.DEC (its page). -/
def execSigcDec (c : CoreId) (rs1 rs2 : Reg) (q : Bool) (s : State) : Out :=
  issueOut s c (.sigcDec c rs1 rs2 q) (fun t b => cairnBody c q rs1 .store (.sigc true (cairnN ((t.core c).sreg rs2))) t b)
/-- WAITC.GE (its page). -/
def execWaitcGe (c : CoreId) (rs1 rs2 : Reg) (q : Bool) (s : State) : Out :=
  issueOut s c (.waitcGe c rs1 rs2 q) (fun t b => cairnBody c q rs1 .load (.waitGe (cairnN ((t.core c).sreg rs2))) t b)
/-- WAITC.BAR (its page). -/
def execWaitcBar (c : CoreId) (rs1 : Reg) (q : Bool) (s : State) : Out :=
  issueOut s c (.waitcBar c rs1 q) (cairnBody c q rs1 .load (.waitBar none))

/-! ### NMC -/

/-- An operand of a near-memory command: its address, the bytes that it covers, its alignment (R239). -/
structure NmcArg where
  va : Word
  ext : Nat
  align : Nat

/-- The operands that an operation uses beside A. The length of DECOMPRESS's source and of GATHER's table stands in memory or
in the page: at issue the bitmaps of the one are checked, and the first address of the other. -/
def nmcArgB (op ty n aux : Nat) (b : Word) : Option NmcArg :=
  let w := nmcElem op ty
  match op with
  | 3 => some ⟨b, 0, w⟩
  | 4 => some ⟨b, n * w, w⟩
  | 5 => if b = 0 then none else some ⟨b, 4 * n, 4⟩
  | 6 => if b = 0 then none else some ⟨b, 4 * n, 4⟩
  | 7 => some ⟨b, (aux + 1) * ((n * w + 127) / 128 * 128), w⟩
  | 8 => some ⟨b, n, 128⟩
  | 9 => some ⟨b, n / 32, 128⟩
  | 11 => none
  | _ => some ⟨b, n, 1⟩
def nmcArgC (op n aux : Nat) (c : Word) : Option NmcArg :=
  match op with
  | 1 => some ⟨c, 16, 16⟩
  | 3 => some ⟨c, 4 * n, 4⟩
  | 4 => some ⟨c, 4 * n, 4⟩
  | 7 => some ⟨c, 65 + aux, 128⟩
  | 8 => some ⟨c, 8, 8⟩
  | _ => none
def nmcArgA (op ty n : Nat) (a : Word) : NmcArg :=
  ⟨a, nmcExtentA op ty n, if op = 2 then 16 else if op = 8 || op = 9 then 128 else nmcElem op ty⟩

/-- What the issue checks find for one operand: an address with its page, a walk, or a cause (R209, R239). `home` is A's
address for B and C. DEDUCED, log entry 43. -/
def State.nmcCheck (s : State) (c : Nat) (n : Nat) (home : Option Word) (x : NmcArg) : XRes :=
  let acc : Acc := if home.isNone then .nmcA else .nmcSrc
  if x.va.toNat % x.align ≠ 0 then .fault causeMisaligned
  else
    match s.access c x.va acc .nmc with
    | .ok pa pg =>
      let lo := localOf pa
      let none_ := n = 0 || x.ext = 0
      let bad := match home with
        | none => !none_ && lo / 65536 ≠ (lo + x.ext - 1) / 65536
        | some h => devOf h ≠ devOf pa || (!none_ && (dramSize < lo + x.ext || pg.pageEnd < pa.toNat + x.ext))
      if bad then .fault causeDataAccess else .ok pa pg
    | r => r

/-- Whether an operand waits for a walk, and the causes of the operands with their addresses. -/
def XRes.walks : XRes → Bool
  | .walk => true
  | _ => false
def lowestCause (xs : List (XRes × Word)) : Option (Nat × Word) :=
  xs.foldl (fun m x =>
    match x.1, m with
    | .fault c, none => some (c, x.2)
    | .fault c, some (d, v) => if c < d then some (c, x.2) else some (d, v)
    | _, _ => m) none

def XRes.addr : XRes → Word
  | .ok pa _ => pa
  | _ => 0
def XRes.page : XRes → PageAttr
  | .ok _ pg => pg
  | _ => noPage

/-- The completion cairn: its address must lie in the cairn window (R242). DEDUCED, log entry 43. -/
def State.nmcCairn (s : State) (c : Nat) (va : Word) : XRes :=
  match s.translate c va .nmcA with
  | .ok pa pg =>
    (match regionOf (localOf pa) with
     | .cairn _ _ => .ok pa pg
     | _ => .fault causeDataAccess)
  | r => r

/-- What NMC finds at issue: a cause with its address, an operand whose translation is walked, or the command with its first
operand's address and page. -/
inductive NmcRes where
  | raise (code : Nat) (va : Word)
  | walk (va : Word) (acc : Acc)
  | ok (cmd : NmcCmd) (va : Word) (pg : PageAttr)

/-- The operands of NMC are read and checked: a misaligned one goes before a walk, and a walk before the other causes (R209,
R239). DEDUCED, log entry 43. -/
def State.nmcIssue (t : State) (c : Nat) (op : BitVec 4) (rg rc : Reg) : NmcRes :=
  let k := t.core c
  let o := op.toNat
  let p := k.sreg (rg + 2)
  let n := wf p 23 0
  let a := nmcArgA o (wf p 31 28) n (k.sreg rg)
  let ra := t.nmcCheck c n none a
  let ob := nmcArgB o (wf p 31 28) n (wf p 63 52) (k.sreg (rg + 1))
  let oc := nmcArgC o n (wf p 63 52) (k.sreg (rg + 3))
  let rb := ob.map (fun x => (t.nmcCheck c n (some ra.addr) x, x.va))
  let rcc := oc.map (fun x => (t.nmcCheck c n (some ra.addr) x, x.va))
  let rq : Option (XRes × Word) := if rc = 0 then none else some (t.nmcCairn c (k.sreg rc), k.sreg rc)
  let all := (ra, a.va) :: (rb.toList ++ rcc.toList ++ rq.toList)
  let low := lowestCause all
  match low, all.find? (fun x => x.1.walks) with
  | some (6, v), _ => .raise causeMisaligned v
  | _, some (_, v) => .walk v (if a.va = v || (rq.elim false (fun x => x.2 = v)) then .nmcA else .nmcSrc)
  | some (code, v), none => .raise code v
  | none, none =>
    let pg := rb.elim noPage (fun x => x.1.page)
    .ok { op := op, a := ra.addr, b := rb.elim 0 (fun x => x.1.addr), p := p, c := rcc.elim 0 (fun x => x.1.addr)
          cairn := rq.map (fun x => x.1.addr), ident := t.coreIdent c 0 false
          bBase := if k.translates then w64 pg.pageBase else w64 (devOf ra.addr * 2 ^ 52)
          bEnd := if k.translates then w64 pg.pageEnd else w64 (devOf ra.addr * 2 ^ 52 + dramSize) } a.va ra.page

/-- NMC (its page): the command takes an entry of the memory queue. -/
def execNmc (c : CoreId) (op : BitVec 4) (rg rc : Reg) (s : State) : Out :=
  issueOut s c (.nmc c op rg rc) (fun t b =>
    match t.nmcIssue c op rg rc with
    | .raise code v => .raise code v
    | .walk v acc => .freeze (.walk v acc)
    | .ok cmd va pg => t.queueOp c b false (.nmc cmd) cmd.a va pg (fun _ k => k))

/-! ### Release and acquire (R213, R214, R222) -/

/-- Whether at beat `t` the value of a load before entry `n` is not present; whether stores of the core stand in the store
path. -/
def State.loadsOpen (s : State) (c n t : Nat) : Bool := (s.core c).pend.any (fun p => p.tag.elim (decide (t < p.ready)) (fun x => x < n))
/-- DEDUCED, log entry 31. -/
def State.coreInPath (s : State) (c : Nat) : Bool :=
  (s.cluster (clusterOf c)).storePath.any (fun e => e.contrib.any (fun x => x.core = c))

/-- How many lines a release of a cluster writes back. DEDUCED, log entry 28. -/
def Cluster.releaseCount (cl : Cluster) : Nat := (cl.clines.filter (fun l => l.sh && l.isDirty)).length
/-- Whether at beat `t` every access before entry `n` is complete, and the release's writes accepted: at M a write for another device is
accepted by the port path to it (R211). DEDUCED, log entries 24, 28. -/
def State.releaseDone (s : State) (c n t : Nat) (g : Bool) : Bool :=
  !s.loadsOpen c n t && !s.openReqs.any (releaseOf c) && !(g && s.farReqs.any (releaseOf c))
/-- The beat from which the core's accepted stores and SIGCs, and its cluster's write-backs, are known to be visible (R278, R281, R284). -/
def State.visibleAt (s : State) (c : Nat) (g : Bool) : Nat :=
  let k := s.core c
  let cl : Cluster := if coreBoot c then {} else s.cluster (clusterOf c)
  Nat.max (Nat.max k.visible cl.visible) (if g then Nat.max k.visibleFar cl.visibleFar else 0)

/-- The head `e` of the memory queue has release semantics: its release actions begin once the core's stores have left the
store path, and `act` follows, at the beat that it is given, when all that it waits for is complete. DEDUCED, log entry 28. -/
def State.afterRelease (s : State) (c : Nat) (e : QEntry) (t : Nat) (g : Bool) (act : State → Nat → State) : State :=
  let k := clusterOf c
  if !e.sent then
    if s.coreInPath c then s
    else if coreBoot c then s.setHead c false { e with sent := true, at_ := t }
    else
      let n := (s.cluster k).releaseCount
      ((s.toBeat (coreDomain c) t).releaseActions k t).setHead c false { e with sent := true, at_ := t + scanBeats + n }
  else
    let x := Nat.max t (s.visibleAt c g)
    if s.releaseDone c e.id x g then act (s.toBeat (coreDomain c) x) x else s

/-- The acquire's actions, and the head of the memory queue leaves. DEDUCED, log entry 28. -/
def State.acquireNow (s : State) (c t : Nat) : State :=
  if coreBoot c then s.pop c false t 0
  else (s.modCluster (clusterOf c) (fun cl => cl.acquireActions)).pop c false t scanBeats

/-! ### Sending (R126) -/

/-- The local copy of a granule is written back and invalidated before LR or SC is sent (R140): what that adds to the path. -/
def State.clearLocal (s : State) (c : Nat) (pa : Word) : State × Nat :=
  if coreBoot c then (s, 0)
  else
    let (s1, wrote) := s.dropLocal (clusterOf c) (pa.toNat / 128)
    (s1, victimPath wrote)

/-- The request of an SC: a word for another device travels with the other half that the LR read (R349). DEDUCED, log entry 26. -/
def State.scReq (s : State) (c : Nat) (e : QEntry) (dbl : Bool) (v : Word) (t : Nat) : Req :=
  let id := s.coreIdent c 0 false
  if dbl || s.isLocal e.pa then entryReq c e (.storeCond dbl v) e.pa id t
  else
    let old := (s.core c).rsvWord
    let w := if wb e.pa 2 then wset old 63 32 v.toNat else wset old 31 0 v.toNat
    entryReq c e (.storeCond true w) (w64 (e.pa.toNat / 8 * 8)) id t

/-- A PREF is sent: its lines up to the end of the page (R225, R226); a boot core has no sketch buffer. DEDUCED, log entry 30. -/
def State.sendPref (s : State) (c : Nat) (e : QEntry) (hint : Reg) (last : Word) : State :=
  let h : BitVec 2 := (hint >>> 2).truncate 2
  let lines := ((List.range (2 ^ (hint.toNat % 4))).map (fun i => e.pa.toNat / 128 + i)).filter (fun l => l * 128 ≤ last.toNat)
  if wb (hint.zeroExtend 64) 4 then
    lines.foldl (fun t l => t.sendNew (if coreBoot c then .core c else .sketch (clusterOf c) true) (.prefetch true h)
      (w64 (l * 128)) 0 e.cls 0) s
  else if coreBoot c then s
  else lines.foldl (fun t l => t.skFetch (clusterOf c) l e.cls h) s

/-- A store at the head meets a full store path: the core freezes (R220). -/
def State.pathFull (s : State) (c : Nat) (e : QEntry) (t : Nat) : State :=
  (s.setHead c false { e with at_ := t + 1 }).modCore c (fun k =>
    if k.frozen.isSome || k.xfer.isSome then k else k.freeze .storePath (Nat.max t k.next))

/-- The head of a queue is sent at beat `t`, if it may be. DEDUCED, log entry 24. -/
def State.sendHead (s : State) (c : Nat) (sync : Bool) (e : QEntry) (t : Nat) : State :=
  let s0 := s.toBeat (coreDomain c) t
  let far := !s.isLocal e.pa
  let leave (x : State) (b : Nat) : State := x.pop c sync b 0
  let held := s.lineHeld c (e.pa.toNat / 128)
  let waits := !sync && s.storeOpen c (fun a => a.toNat / 256 = e.pa.toNat / 256)
  match e.op with
  | .load n _ => if s.loadReady c e.pa then (leave s0 t).serveLoad c e n t else s
  | .store n v =>
    (match s0.pathPut c e n v.toNat false true t with
     | some s1 => leave s1 t
     | none => s0.pathFull c e t)
  | .tileRow _ ca => (leave s0 t).serveRow c e ca t
  | .pref hint last => (leave s0 t).sendPref c e hint last
  | .lr dbl aq =>
    if held then s
    else if !e.sent then
      let (s1, extra) := s0.clearLocal c e.pa
      let s2 := s1.send { entryReq c e (.readReserve dbl) e.pa (s.coreIdent c 0 false) t with beat := extra }
      if aq then s2.setHead c false { e with sent := true } else leave s2 t
    else if s.loadsOpen c (e.id + 1) t then s
    else s0.acquireNow c t
  | .sc dbl rl v =>
    let go (x : State) (b : Nat) : State :=
      let (s1, extra) := x.clearLocal c e.pa
      leave (s1.send { s1.scReq c e dbl v b with beat := extra }) b
    if rl then s.afterRelease c e t far go else if held then s else go s0 t
  | .fence 0 => if s.loadsOpen c e.id t then s else leave s0 t
  | .fence sc => s.afterRelease c e t (sc = 2) (fun x b => x.acquireNow c b)
  | .fenceI => leave s0 t
  | .nmc q => s.afterRelease c e t far (fun x b => leave (x.send (entryReq c e (.nmc q) q.a q.ident b)) b)
  | .sigc dec n =>
    let go (x : State) (b : Nat) : State :=
      leave (x.send (entryReq c e (if dec then .decrement n else .signal n) e.pa (x.coreIdent c dec.toNat sync) b)) b
    if sync then go s0 t else s.afterRelease c e t far go
  | .waitGe n =>
    if e.sent || waits then s
    else (s0.setHead c sync { e with sent := true }).send (entryReq c e (.waitGe n) e.pa (s.coreIdent c 2 sync) t)
  | .waitBar v =>
    if e.sent || waits then s
    else (s0.setHead c sync { e with sent := true }).send (entryReq c e (.waitBar v) e.pa (s.coreIdent c 3 sync) t)

/-- MEMORY_QUEUE_SEND (R126, R284); a WAITC that was answered Fenced has its own command (R269). DEDUCED, log entry 24. -/
def execMemoryQueueSend (c : CoreId) (sync : Bool) (s : State) : Out :=
  match ((s.core c).queue sync).head? with
  | none => .next s
  | some e => .next (if s.running c && !e.again then s.sendHead c sync e (Nat.max (s.beat (coreDomain c)) e.at_) else s)

end Sys2Proof.Machine
end

