-- ==== Sys2Proof/Machine/Operands.lean ====
section
/-! DEFINITION. Operand forms of the vector and tile instructions: palette lines (R84, R86, R87), register groups and
element placement (R151, R152), masks (R153, R154), the vector configuration (R146 to R148) and the collector steps
that decide an instruction's beats (R159 to R165). -/

namespace Sys2Proof.Machine

/-! ### Register groups -/

/-- Line `i` of the group of size `h` at register `n` (R151). -/
def groupKey (n h i : Nat) : Nat := vregKey (n + i % h) (i / h)

/-- `n` elements of `sew` bits of a group, element 0 first (R151). -/
def Core.elems (k : Core) (reg h sew n : Nat) : List Nat :=
  let per := 512 / sew
  (List.range n).map (fun e => unpackAt sew (e % per) (k.line (groupKey reg h (e / per))).toNat)

/-- The elements of a group are written, `4 × h` lines in order; elements that the list lacks are zero. -/
def Core.setElems (k : Core) (reg h sew : Nat) (els : List Nat) : Core :=
  let per := 512 / sew
  (List.range (4 * h)).foldl (fun k' i =>
    k'.setLine (groupKey reg h i) (BitVec.ofNat 512 (packAll sew ((els.drop (i * per)).take per)))) k

/-- A single register as a 2,048-bit number, byte 0 first. -/
def Core.vreg (k : Core) (n : Nat) : Nat :=
  packAll 512 ((List.range 4).map (fun i => (k.line (vregKey n i)).toNat))
def Core.setVreg (k : Core) (n v : Nat) : Core :=
  (List.range 4).foldl (fun k' i => k'.setLine (vregKey n i) (BitVec.ofNat 512 (v >>> (512 * i)))) k

/-! ### Masks -/

def Core.mask (k : Core) (n : Nat) : BitVec 2048 := mget maskDef k.k n
def Core.setMask (k : Core) (n : Nat) (v : BitVec 2048) : Core := { k with k := mset maskDef k.k n v }
/-- The mask whose bit i is the i-th truth value. -/
def maskOf (bs : List Bool) : BitVec 2048 := BitVec.ofNat 2048 (packAll 1 (bs.map Bool.toNat))

/-! ### The configuration -/

/-- A vector configuration in force: VL, the group factor, the element width in bits, FT and VLMAX (R146 to R148). -/
structure VCfg where
  vl : Nat
  g : Nat
  sew : Nat
  ft : Nat
  vlmax : Nat
deriving DecidableEq, Repr

def Core.vc (k : Core) : VCfg :=
  { vl := wf k.vcfg 31 16, g := 2 ^ wf k.vcfg 7 6, sew := 8 * 2 ^ wf k.vcfg 5 4, ft := wf k.vcfg 3 2, vlmax := vlmaxOf k.vcfg }

/-- The floating type of the elements (R147). -/
def VCfg.fmt (v : VCfg) : Option Fmt :=
  match v.sew, v.ft with
  | 8, 0 => some e4m3
  | 8, 1 => some e5m2
  | 16, 0 => some bf16
  | 16, 1 => some fp16
  | 32, 0 => some fp32
  | _, _ => none

/-- "float" of R156: SEW 16 or 32 with its FT. -/
def VCfg.isFloat (v : VCfg) : Bool := v.sew ≠ 8 && v.fmt.isSome
/-- SEW 32, FP32. -/
def VCfg.isF32 (v : VCfg) : Bool := v.sew = 32 && v.ft = 0
/-- The format of a configuration that has one. -/
def VCfg.f (v : VCfg) : Fmt := v.fmt.getD fp32

/-- The rounding mode and SATE4 in force (R35). -/
def Core.rm (k : Core) : RM :=
  match wf k.fctl 10 8 with
  | 1 => .zero
  | 2 => .down
  | 3 => .up
  | _ => .near
def Core.sate4 (k : Core) : Bool := wb k.fctl 11

/-- Whether element `i` is active under mask register `km` (R153). -/
def Core.isActive (k : Core) (vl km i : Nat) : Bool := decide (i < vl) && (km == 0 || (k.mask km).getLsbD i)

/-! ### Collector steps -/

/-- The step classes of R161. -/
inductive VClass where
  | basic | three | pair | widen2 | widen4 | narrow2 | narrow4 | long | scalar | maskOnly | toMx | fromMx
deriving DecidableEq, Repr

/-- A group operand: first register and size. -/
abbrev Grp := Nat × Nat

def Grp.key (g : Grp) (i : Nat) : Nat := groupKey g.1 g.2 i
/-- Whether a group is legal (R152): a multiple of its size, at most 8. -/
def Grp.ok (g : Grp) : Bool := g.1 % g.2 = 0 && g.2 ≤ 8
/-- Whether two groups share a register. -/
def Grp.meets (a b : Grp) : Bool := a.1 < b.1 + b.2 && b.1 < a.1 + a.2

/-- The number of steps before the final step (R161). -/
def VClass.steps (cl : VClass) (g : Nat) : Nat :=
  match cl with
  | .basic => 4 * g
  | .three => 8 * g
  | .pair => 8 * g + 1
  | .widen2 => 8 * g
  | .widen4 => 16 * g
  | .narrow2 => 8 * g
  | .narrow4 => 16 * g
  | .long => 16 * g
  | .scalar => 4 * g
  | .maskOnly => 1
  | .toMx => 4 * g + 4
  | .fromMx => 4 * g + 3

/-- Sources read in step `i` once every `n` steps, line i / n. -/
def readsEvery (n i : Nat) (src : List Grp) : List Nat := if i % n = 0 then src.map (fun s => s.key (i / n)) else []

/-- The lines read in step `i` (R161). In the Three-source class the last source is the destination; in the MX classes
the second is the scale register. -/
def VClass.reads (cl : VClass) (src : List Grp) (i : Nat) : List Nat :=
  match cl with
  | .basic => src.map (fun s => s.key i)
  | .scalar => src.map (fun s => s.key i)
  | .three => if i % 2 = 0 then (src.dropLast).map (fun s => s.key (i / 2)) else (src.drop (src.length - 1)).map (fun s => s.key (i / 2))
  | .pair => if i / 2 < 4 * (src.headD (0, 1)).2 then readsEvery 2 i src else []
  | .widen2 => readsEvery 2 i src
  | .widen4 => readsEvery 4 i src
  | .long => readsEvery 4 i src
  | .narrow2 => src.map (fun s => s.key i)
  | .narrow4 => src.map (fun s => s.key i)
  | .maskOnly => []
  | .toMx => if i < 4 * (src.headD (0, 1)).2 then src.map (fun s => s.key i) else []
  | .fromMx => if i = 0 then src.map (fun s => s.key 0) else if i < 4 then (src.take 1).map (fun s => s.key i) else []

/-- The line written in step `i` (R161). -/
def VClass.write (cl : VClass) (g : Nat) (dst : List Grp) (i : Nat) : Option Nat :=
  let d := dst.head?
  let at_ (n off : Nat) : Option Nat :=
    if n * 1 ≤ i && off ≤ i && (i - off) % n = 0 then d.map (fun s => s.key ((i - off) / n)) else none
  match cl with
  | .basic => if 1 ≤ i then d.map (fun s => s.key (i - 1)) else none
  | .three => at_ 2 2
  | .pair =>
    if i < 2 then none
    else if i % 2 = 0 then d.map (fun s => s.key ((i - 2) / 2)) else (dst.drop 1).head?.map (fun s => s.key ((i - 3) / 2))
  | .widen2 => if 1 ≤ i then d.map (fun s => s.key (i - 1)) else none
  | .widen4 => if 1 ≤ i then d.map (fun s => s.key (i - 1)) else none
  | .narrow2 => at_ 2 2
  | .narrow4 => at_ 4 4
  | .long => at_ 4 4
  | .scalar => none
  | .maskOnly => none
  | .toMx =>
    if i = 4 * g then (dst.drop 1).head?.map (fun s => s.key 0)
    else if 4 * g < i then d.map (fun s => s.key (i - 4 * g - 1)) else none
  | .fromMx => if 4 ≤ i then d.map (fun s => s.key (i - 4)) else none

/-- B: the collector beats before the final step (R160). `prior` is the line that the previous instruction's final
step writes, where step 0 shares its beat. DEDUCED, log entry 33. -/
def VClass.beats (cl : VClass) (g : Nat) (src dst : List Grp) (prior : Option Nat) : Nat :=
  (List.range (cl.steps g)).foldl (fun n i =>
    n + bankLoad (cl.reads src i) (cl.write g dst i) (if i = 0 then prior else none)) 0

end Sys2Proof.Machine
end

