-- ==== Sys2Proof/Machine/Tiles.lean ====
section
/-! DEFINITION. Tile transfers row by row (R99 to R107), the tile configuration with its checks (R95 to R98), and the moves
between tile rows and vector registers (R88, R89). -/

namespace Sys2Proof.Machine

/-- The first beat after the last palette access of every earlier vector instruction (R89). -/
def Core.begins (k : Core) (b : Nat) : Nat := if k.vlast = 0 then b else Nat.max b (k.vlast + 1)

/-! ### The rows of a transfer -/

/-- The beat at which the next row of a load is written, once its data has arrived (R100). -/
def Xfer.writeAt (x : Xfer) : Option Nat := (x.got.find? (fun g => g.1 = x.moved)).map (fun g => oddFrom (Nat.max g.2.1 x.w))
/-- The beat at which the fault of a row is taken: every row before it has moved (R105). -/
def Xfer.faultAt (x : Xfer) : Option Nat :=
  match x.fault with
  | some (j, _, _, _, f) => if j = x.moved then some (Nat.max (if x.load then x.w - 1 else x.w) f) else none
  | none => none
/-- The beat of the next request of a load; of the next palette read of a store (R100, R126). -/
def Core.rowAt (k : Core) (x : Xfer) : Option Nat :=
  if x.fault.isSome || k.frozen.isSome || x.rows ≤ x.next then none
  else if x.load then (if memCap ≤ k.memQ.length then none else some x.q)
  else if x.got.isEmpty && k.memQ.isEmpty then some (oddFrom (Nat.max (Nat.max x.q x.w) k.memAt)) else none

/-- The transfer has moved its last row, and the next instruction issues at beat `e` (R100, R106). -/
def Core.endXfer (k : Core) (e : Nat) : Core :=
  { ({ k with xfer := none, tprog := 0 }.retire .seq) with fcnt := k.fcnt + (e - k.next), next := Nat.max k.next e, noIntr := false }

/-- A row's fault is taken at beat `e` (R105, R202). -/
def Core.rowFault (k : Core) (x : Xfer) (e : Nat) : Core :=
  match x.fault with
  | some (_, code, va, ecode, _) => (k.stopXfer e).raise e code va ecode
  | none => k

/-- The address of the next row is translated and checked (R99, R209). -/
def State.rowAccess (s : State) (c : Nat) (x : Xfer) : XRes :=
  let va := x.rowVa x.next
  if va.toNat % 64 ≠ 0 then .fault causeMisaligned else s.access c va (if x.load then .load else .store) .row

/-- The next row's address fails, or waits for a walk. -/
def Core.rowStops (k : Core) (x : Xfer) : XRes → Option Core
  | .fault code => some { k with xfer := some { x with fault := some (x.next, code, x.rowVa x.next, 0, x.q) } }
  | .walk => some (k.freeze (.walk (x.rowVa x.next) (if x.load then .load else .store)) x.q)
  | .ok _ _ => none

/-- The next row of a load is requested at its beat (R100, R126). -/
def State.rowRequest (s : State) (c : Nat) (x : Xfer) : State :=
  let r := s.rowAccess c x
  match (s.core c).rowStops x r with
  | some k => s.setCore c k
  | none =>
    let (id, s1) := s.takeId
    let e : QEntry := { id := id, at_ := x.q + 1, op := .tileRow x.next x.ca, pa := r.addr, va := x.rowVa x.next, sh := r.page.sh
                        cls := r.page.cls, sent := false, again := false }
    let x1 := { x with next := x.next + 1, q := x.q + 2, tags := x.tags ++ [(x.next, id)] }
    let k := s1.core c
    if k.memQ.isEmpty && k.memAt ≤ x.q then (s1.setCore c { k with xfer := some x1 }).serveRow c e x.ca x.q
    else s1.setCore c { k with xfer := some x1, memQ := k.memQ ++ [{ e with at_ := Nat.max e.at_ k.memAt }] }

/-- The next row of a load is written at beat `w` (R100, R102). -/
def Core.rowWrite (k : Core) (x : Xfer) (w : Nat) : Core :=
  match x.got.find? (fun g => g.1 = x.moved) with
  | none => k
  | some (_, _, row) =>
    let k1 := (k.canvasTo w).setTileRow (x.first + x.moved) row
    if x.moved + 1 = x.rows then k1.endXfer (w + 1)
    else { k1 with xfer := some { x with moved := x.moved + 1, w := w + 2, got := x.got.filter (fun g => g.1 ≠ x.moved) } }

/-- The row that a store has read is offered to the store path at beat `h` (R100, R101). DEDUCED, log entry 32. -/
def State.rowOffer (s : State) (c : Nat) (x : Xfer) (row : Line) (h : Nat) : State :=
  let r := s.rowAccess c x
  let e : QEntry := { id := s.nextId, at_ := h, op := .tileRow x.next x.ca, pa := r.addr, va := x.rowVa x.next, sh := r.page.sh
                      cls := r.page.cls, sent := false, again := false }
  match s.pathPut c e 64 row.toNat true x.ca h with
  | none => s.modCore c (fun k => { k with xfer := some { x with got := [(x.moved, h, row)] } })
  | some s1 => s1.modCore c (fun k =>
      if x.moved + 1 = x.rows then k.endXfer (h + 1)
      else { k with xfer := some { x with moved := x.moved + 1, next := x.next + 1, q := x.q + 2, w := h + 1, got := [] } })

/-- The next row of a store is read from the palette at beat `r` and offered in the beat after it (R100). -/
def State.rowRead (s : State) (c : Nat) (x : Xfer) (r : Nat) : State :=
  match (s.core c).rowStops x (s.rowAccess c x) with
  | some k => s.setCore c k
  | none =>
    let k := (s.core c).canvasTo r
    (s.setCore c k).rowOffer c x (k.tileRow (x.first + x.moved)) (r + 1)

/-- Whether the address of the next row fails (R105). -/
def State.rowFails (s : State) (c : Nat) (x : Xfer) : Bool :=
  x.fault.isNone && (s.core c).frozen.isNone && x.next < x.rows && (match s.rowAccess c x with
    | .fault _ => true
    | _ => false)
/-- The beat of the next request of a load, of the next palette read of a store; of the check that finds a fault, for which neither
needs a place in a queue nor an odd beat (R100, R105). -/
def State.rowDue (s : State) (c : Nat) (x : Xfer) : Option Nat :=
  if s.rowFails c x then (if x.load then some x.q else if x.got.isEmpty then some (Nat.max x.q x.w) else none) else (s.core c).rowAt x
/-- The beat at which a fault is taken that has been found, or that the next row will meet (R105). -/
def State.faultDue (s : State) (c : Nat) (x : Xfer) : Option Nat :=
  if s.rowFails c x && x.next = x.moved && x.got.isEmpty then some (Nat.max (if x.load then x.w - 1 else x.w) x.q) else x.faultAt

/-- The earliest thing that a transfer does next. -/
inductive RowAct where
  | write (w : Nat)
  | fault (e : Nat)
  | next (q : Nat)
def RowAct.beat : RowAct → Nat
  | .write w => w
  | .fault e => e
  | .next q => q
def earlier (a b : Option RowAct) : Option RowAct :=
  match a, b with
  | some x, some y => if y.beat < x.beat then some y else some x
  | some x, none => some x
  | none, y => y
def State.rowAct (s : State) (c : Nat) (x : Xfer) : Option RowAct :=
  earlier (earlier ((s.rowDue c x).map .next) ((if x.load then x.writeAt else none).map .write)) (x.faultAt.map .fault)

/-- The transfer does what it does before beat `b`. `n` bounds the number of acts. DEDUCED, log entry 32. -/
def State.xferTo (s : State) (c b : Nat) : Nat → State
  | 0 => s
  | n + 1 =>
    let k := s.core c
    match k.xfer with
    | none => s
    | some x =>
      match s.rowAct c x with
      | none => s
      | some act =>
        if act.beat < b then
          let s1 := s.toBeat (coreDomain c) act.beat
          State.xferTo (match act with
            | .write w => s1.modCore c (fun k => k.rowWrite x w)
            | .fault e => s1.modCore c (fun k => k.rowFault x e)
            | .next q => if x.load then s1.rowRequest c x else s1.rowRead c x q) c b n
        else s

/-- A bound on the acts of a transfer: each of its rows is requested, and moves or faults. -/
def xferActs : Nat := 80

/-- The transfer does what it does before beat `b`, where its core runs. -/
def State.xferGo (s : State) (c b : Nat) : State := if s.running c then s.xferTo c b xferActs else s

/-- The beat after the transfer's next movement: its next row's, or its next request's where the row has not arrived. -/
def State.rowHorizon (s : State) (c : Nat) (x : Xfer) : Option Nat :=
  match s.faultDue c x, (if x.load then x.writeAt else none), s.rowDue c x with
  | some e, _, _ => some (e + 1)
  | none, some w, _ => some (w + 1)
  | none, none, some q => some (q + 1)
  | none, none, none => none

/-- TILE_ROW_ARRIVAL: the next row of a load moves, with the requests that fall due before it; where its data has not
arrived, the next row is requested (R100, R105). -/
def execTileRowArrival (c : CoreId) (s : State) : Out :=
  let k := s.core c
  match k.xfer with
  | none => .next s
  | some x =>
    match x.load, s.rowHorizon c x with
    | true, some b => .next (if s.running c then s.xferTo c b xferActs else s)
    | _, _ => .next s

/-- TILE_STORE_ROW_ACCEPT: the next row of a store is read and offered, or a row that the store path refused is offered again
(R100). DEDUCED, log entry 32. -/
def execTileStoreRowAccept (c : CoreId) (s : State) : Out :=
  let k := s.core c
  match k.xfer with
  | none => .next s
  | some x =>
    match x.load, x.got, s.rowHorizon c x with
    | false, (_, h, row) :: _, _ =>
      let a := Nat.max (s.beat (coreDomain c)) (h + 1)
      .next (if s.running c && k.memQ.isEmpty then (s.toBeat (coreDomain c) a).rowOffer c x row a else s)
    | false, [], some b => .next (if s.running c then s.xferTo c b 2 else s)
    | _, _, _ => .next s

/-- TLD and TST begin under R89 at row 0, or at NEXT of a stopped transfer of the same register and kind (R99, R103). One that moves no
row ends at its beginning, and the next instruction issues in the beat after it, which R109 does not say. DESIGN CHOICE, log entry 95. -/
def xferBody (c : CoreId) (load : Bool) (tn : BitVec 3) (rs1 rs2 : Reg) (rsel : BitVec 2) (ca : Bool) (s : State) (b : Nat) : Res :=
  let k := s.core c
  let t := k.begins b
  let r := tregOf k.tcfg tn.toNat
  let k1 := { k with fcnt := k.fcnt + (t - b), next := t + 1 }
  if !r.en || (rsel = 1 && !r.sv) || (rsel = 2 && !r.vv) then .raiseAt (s.setCore c k1) t causeTileOperand 0
  else
    let n := if rsel = 0 then r.rows else 1
    let kind := if load then 0 else 1
    let j0 := if wb k.tprog 15 && wf k.tprog 14 12 = tn.toNat && wf k.tprog 11 10 = kind then wf k.tprog 4 0 else 0
    if n ≤ j0 then .begun (s.setCore c (k1.endXfer (t + 1)))
    else
      let x : Xfer :=
        { load := load, tn := tn, base := k.sreg rs1, stride := if rsel = 0 then k.sreg rs2 else 0
          first := if rsel = 0 then r.first else if rsel = 1 then r.srow else r.vrow
          rows := n, ca := ca, next := j0, q := t, moved := j0, w := if load then t + 1 else t, tags := [], got := [], lines := []
          fault := none }
      .begun ((s.setCore c { k1 with xfer := some x }).xferTo c (b + 1) 2)

/-- TLD (R100). DEDUCED, log entry 32. -/
def execTld (c : CoreId) (tn : BitVec 3) (rs1 rs2 : Reg) (rsel : BitVec 2) (ca : Bool) (s : State) : Out :=
  issueOut s c (.tld c tn rs1 rs2 rsel ca) (xferBody c true tn rs1 rs2 rsel ca)
/-- TST (R100). DEDUCED, log entry 32. -/
def execTst (c : CoreId) (tn : BitVec 3) (rs1 rs2 : Reg) (rsel : BitVec 2) (ca : Bool) (s : State) : Out :=
  issueOut s c (.tst c tn rs1 rs2 rsel ca) (xferBody c false tn rs1 rs2 rsel ca)

/-! ### TCFG (R95 to R97) -/

/-- The rows that a register owns: its rows, SROW where SV applies, VROW where VV applies. -/
def TReg.owns (t : TReg) : List Nat :=
  (List.range t.rows).map (t.first + ·) ++ (if t.sv then [t.srow] else []) ++ (if t.vv then [t.vrow] else [])

/-- Whether the use is an accumulator; an A or B operand; and its command kind, TMMA and TMMAP or TMMAQ. -/
def useAcc (u : Nat) : Bool := u = 3 || u = 7
def useAB (u : Nat) : Bool := u = 1 || u = 2 || u = 5 || u = 6
def useKind (u : Nat) : Nat := u / 4

def tregs (blk : BitVec 512) : List (Nat × TReg) := (List.range 8).map (fun n => (n, tregOf blk n))

/-- The first condition of codes 1 to 6 that register `n` meets, with the register reported (R95). -/
def tregCheck (blk : BitVec 512) (n : Nat) : Option (Nat × Nat) :=
  let t := tregOf blk n
  let en := (tregs blk).filter (fun x => x.2.en)
  if !t.en then none
  else if t.rows = 0 || 32 < t.rows then some (1, n)
  else if 128 < t.first + t.rows then some (2, n)
  else if !decide t.owns.Nodup || en.any (fun x => x.1 ≠ n && x.2.owns.any (fun r => t.owns.contains r)) then some (3, n)
  else if 12 ≤ t.ty || t.use = 4 || (useAcc t.use && t.ty ≠ 10 && t.ty ≠ 11) || (useAB t.use && (t.ty = 10 || t.ty = 11)) then
    some (4, n)
  else if isMx t.ty && !t.sv then some (5, n)
  else if useAcc t.use && t.ty = 11 then
    match en.find? (fun x => useAB x.2.use && useKind x.2.use = useKind t.use && x.2.ty ≠ 7) with
    | some x => some (6, Nat.min x.1 n)
    | none => none
  else none

/-- Every command that a core could queue under a block, at its largest M for each N, with ACC = 1 (R96). DEDUCED, log entry 34. -/
def commandsOf (blk : BitVec 512) : List CEnt :=
  let en (us : List Nat) : List Nat := (List.range 8).filter (fun n => (tregOf blk n).en && us.contains (tregOf blk n).use)
  (List.range 3).flatMap (fun kind =>
    let q := kind = 2
    let tcs := (en [if q then 7 else 3]).filter (fun t => t % (if kind = 0 then 2 else if kind = 1 then 4 else 1) = 0)
    tcs.flatMap (fun tc => (en [if q then 5 else 1]).flatMap (fun ta => (en [if q then 6 else 2]).flatMap (fun tb =>
      (if q then [16] else [16, 32]).flatMap (fun n =>
        (if kind = 0 then [0, 1, 2] else [0]).filterMap (fun var =>
          let mmax := if kind = 0 then 32 else 16
          (((List.range mmax).map (mmax - ·)).find? (fun m => operandsOk blk kind tc ta tb m n var)).map (fun m =>
            entryFor blk kind tc ta tb m n var true 0 0 0)))))))

/-- The tile-area rows that a command reaches, with their slot beats (R73). -/
def CEnt.reaches (e : CEnt) : List (Int × Nat) :=
  e.accesses.flatMap (fun (b, x) =>
    match x with
    | .result i => e.accRegs.map (fun q => (b, e.c.getD q 0 + i))
    | y => [(b, e.rowOf y)])

/-- The minimum separation of a command and the next one (R97). -/
def minSep (e f : CEnt) : Nat :=
  if e.quarter then (if f.quarter then 32 else 48) + (if isWide e.aty then 16 else 0)
  else if isWide e.aty then 96 else 64

/-- The rows of two accesses of one command that meet in a bank; of two commands of a run at least `sep` beats apart. -/
def selfClash (e : CEnt) : List Nat :=
  let xs := e.reaches
  xs.zipIdx.flatMap (fun (x, i) => (xs.drop (i + 1)).flatMap (fun y =>
    if x.1 = y.1 && rowBank x.2 = rowBank y.2 then [x.2, y.2] else []))
def pairClash (sep : Nat) (e f : CEnt) : List Nat :=
  e.reaches.flatMap (fun x => f.reaches.flatMap (fun y =>
    if (sep : Int) ≤ x.1 - y.1 && rowBank x.2 = rowBank y.2 then [x.2, y.2] else []))

/-- The clashes of the commands queued or running, in order, with each other and with the new ones (R96). -/
def queuedClash (news : List CEnt) : List CEnt → List Nat
  | [] => []
  | e :: es =>
    let chain := es.foldl (fun (acc : List Nat × Nat × CEnt) f =>
      let d := acc.2.1 + minSep acc.2.2 f
      (acc.1 ++ pairClash d e f, d, f)) ([], 0, e)
    selfClash e ++ chain.1 ++ news.flatMap (fun f => pairClash (chain.2.1 + minSep chain.2.2 f) e f) ++ queuedClash news es

/-- The rows at which the feeder conflict check finds a conflict (R96). DEDUCED, log entry 34. -/
def conflictRows (blk : BitVec 512) (queued : List CEnt) : List Nat :=
  let news := commandsOf blk
  news.flatMap selfClash ++ news.flatMap (fun e => news.flatMap (fun f => pairClash (minSep e f) e f)) ++ queuedClash news queued

/-- The code and register that TCFG reports; `none` for an accepted block (R95). DEDUCED, log entry 33. -/
def tcfgCheck (blk : BitVec 512) (queued : List CEnt) : Option (Nat × Nat) :=
  match (List.range 8).findSome? (tregCheck blk) with
  | some x => some x
  | none =>
    let rows := conflictRows blk queued
    if rows.isEmpty then none
    else
      match (tregs blk).find? (fun x => x.2.en && x.2.owns.any (fun r => rows.contains r)) with
      | some x => some (7, x.1)
      | none => some (7, 0)

/-- The beats of TCFG (TCFG page). -/
def tcfgBeats : Nat := 12

/-- TCFG: the block is read at the first odd beat from its beginning on; the core goes on 12 beats after it (R89, R95). -/
def execTcfg (c : CoreId) (vs : Reg) (s : State) : Out :=
  issueOut s c (.tcfg c vs) (fun t b =>
    let k := t.core c
    let b0 := k.begins b
    let k1 := k.canvasTo (oddFrom b0)
    let blk : BitVec 512 := k1.line (vregKey vs.toNat 0)
    let k2 := { k1 with fcnt := k1.fcnt + (b0 - b) + (tcfgBeats - 1), next := b0 + tcfgBeats }
    match tcfgCheck blk ((k1.running ++ k1.cq).map (fun x => centOf x.entry)) with
    | some (code, reg) => .raiseAt (t.setCore c k2) (b0 + tcfgBeats) causeTileConfig (w64 (code * 16 + reg))
    | none => .done (t.setCore c { k2 with tcfg := blk &&& tcfgKeep }) .seq)

/-! ### TCFGRD, TMVV, TMVT -/

/-- The core freezes until the beat after the final step at `f` (R89); `line` is what that step writes. -/
def Core.ridesTo (k : Core) (b f line : Nat) : Core :=
  { k with vfinal := f, vlast := f, vfinalLine := some line, fcnt := k.fcnt + (f - b), next := f + 1 }

/-- TCFGRD (R90). -/
def execTcfgrd (c : CoreId) (vd : Reg) (s : State) : Out :=
  issueOut s c (.tcfgrd c vd) (fun t b =>
    let k := t.core c
    let f := oddFrom (k.begins b) + 2 * VClass.basic.steps 1
    .done (t.setCore c ((k.setVreg vd.toNat k.tcfg.toNat).ridesTo b f (vregKey vd.toNat 3))) .seq)

/-- A tile move begins under R89: rows from `f` on and the lines of a register group, step by step (R88, R168). -/
def moveBody (c : CoreId) (i : Instr) (toVec : Bool) (v : Reg) (tn : BitVec 3) (rs1 : Reg) (s : State) (b : Nat) : Res :=
  let k := s.core c
  let g := k.vc.g
  let t := tregOf k.tcfg tn.toNat
  let f := (k.sreg rs1).toNat
  let t0 := k.begins b
  if v.toNat % g ≠ 0 then .raise causeIllegal (wordOf i)
  else if !t.en || t.rows < f + 4 * g then
    .raiseAt (s.setCore c { k with fcnt := k.fcnt + (t0 - b), next := t0 + 1 }) t0 causeTileOperand 0
  else
    let rows (j : Nat) : Nat := rowKey (t.first + f + j)
    let lines (j : Nat) : Nat := groupKey v.toNat g j
    let keys (x : Nat → Nat) : List Nat := (List.range (4 * g)).map x
    .begun (s.setCore c { k.clearValid i with
      fcnt := k.fcnt + (t0 - b), next := t0 + 1
      move := some { src := keys (if toVec then rows else lines), dst := keys (if toVec then lines else rows), prev := none
                     at_ := oddFrom t0, last := t0 } })

/-- TMVV (R88). DEDUCED, log entry 33. -/
def execTmvv (c : CoreId) (vd : Reg) (tn : BitVec 3) (rs1 : Reg) (s : State) : Out :=
  issueOut s c (.tmvv c vd tn rs1) (moveBody c (.tmvv c vd tn rs1) true vd tn rs1)
/-- TMVT (R88). DEDUCED, log entry 33. -/
def execTmvt (c : CoreId) (tn : BitVec 3) (vs rs1 : Reg) (s : State) : Out :=
  issueOut s c (.tmvt c tn vs rs1) (moveBody c (.tmvt c tn vs rs1) false vs tn rs1)

end Sys2Proof.Machine
end

