-- ==== Sys2Proof/Machine/Answers.lean ====
section
/-! DEFINITION. Answers that come back: values and lines (R221, R227, R278 to R280), error answers (R173, R202, R236, R474),
WAITC (R269), requests that are sent again (R321), and the per-core blocks as targets (R199 to R201). -/

namespace Sys2Proof.Machine

/-! ### Values -/

/-- The due beat of an answer (R278). DEDUCED, log entry 40. -/
def Ans.due (a : Ans) (c : Nat) : Nat := a.t + pathOf c a.path
/-- The beat at which an answer is delivered, and whether it is late. -/
def State.delivered (s : State) (c : Nat) (a : Ans) (arrival : Nat) (contended : Bool) : Nat × Bool :=
  let (x, late) := s.delivery c a.t (a.due c) arrival a.guarded contended
  (x, late && !a.joined)

/-- What a domain is told at beat `x` starts its generator again where that is stopped; a napping spur's beats stand (R276, R392). -/
def State.hearsAt (s : State) (d x : Nat) : State := if d < 1024 && s.rimHolds d then s else (s.wakes d).toBeat d x

/-- Whether an answer brings a core a value or a row. -/
def Ans.isValue (a : Ans) : Bool :=
  match a.kind with
  | .read _ => true
  | .loadWord => true
  | .readReserve _ => true
  | .storeCond _ _ => true
  | _ => false

/-- A value or a row reaches its core and is present from beat `ready` on. -/
def Core.receive (k : Core) (a : Ans) (ready : Nat) : Core :=
  match a.kind with
  | .storeCond _ _ => k.gotResult a.id ready (fun _ => w64 (a.data.toNat % 2))
  | .readReserve _ =>
    { k.gotLine a.id ready a.data with rsvWord := w64 (fld a.data.toNat (64 * wf a.addr 6 3 + 63) (64 * wf a.addr 6 3)) }
  | _ => k.gotLine a.id ready a.data

/-- ANSWER_DELIVERY: an answer that reached the rim at beat `arrival` is delivered at the later of its due beat and that one
(R278); an uncontended one on a guarded path that is late is counted (R279, R280). -/
def execAnswerDelivery (c : CoreId) (arrival : Nat) (contended : Bool) (s : State) : Out :=
  match takeFirst (fun a => a.dst == .core c && a.code == 0 && a.isValue) s.answers with
  | none => .next s
  | some (a, rest) =>
    let (x, late) := s.delivered c a arrival contended
    .next ((({ s with answers := rest }.wakes (coreDomain c)).settled c).modCore c (fun k => k.receive a x) |>.lateCount c late)

/-! ### Lines -/

/-- The answer `a` is passed on to a waiter with the line `d`. -/
def Ans.toWaiter (a : Ans) (w : MissWait) (d : BitVec 1024) (t path : Nat) (g : Bool) : Ans :=
  { a with id := w.tag, dst := .core w.core, kind := .read false, data := mergeLine w.mask w.data d, sense := none, t := t
           path := path, guarded := g }
/-- Every waiter is answered; a late answer counts once, for the first (R280). -/
def passOn (f : MissWait → Ans) (ws : List MissWait) : List Ans := ws.zipIdx.map (fun (w, i) => { f w with joined := decide (0 < i) })

def State.sendBack (s : State) (as : List Ans) : State := { s with answers := s.answers ++ as }

/-- The misses of a cluster that request `id` brings, and the cluster without them. -/
def Cluster.takeMisses (cl : Cluster) (id : Nat) : List Miss × Cluster :=
  (cl.misses.filter (fun m => m.id == id), { cl with misses := cl.misses.filter (fun m => m.id != id) })

/-- Whether the home has not accepted the write-back that the fill of request `id` waits for (R221). -/
def State.fillWaits (s : State) (k id : Nat) : Bool :=
  (s.cluster k).misses.any (fun m => m.id == id && m.victim.elim false (fun v =>
    (s.openReqs ++ s.farReqs).any (fun r => r.id == v && isStore r)))

/-- The fills of request `id` wait for the write-back of number `v`. -/
def Cluster.waitFor (cl : Cluster) (id v : Nat) : Cluster :=
  { cl with misses := cl.misses.map (fun m => if m.id == id then { m with victim := some v } else m) }

/-- When a waiter asked for a line: one that prefetched data serves, at its own beat; else as its request left. -/
def Ans.askedAt (a : Ans) (w : MissWait) : Nat := if isPrefetch a.request then w.t else a.t

/-- CLUSTER_CACHE_FILL: a line arrives, is merged under the dirty mask and installed, once the home has accepted what a dirty victim
writes back, and its waiters are answered with it (R221, R222, R224); each has the bytes that its own lookup found, and the others from
the line (R216). An error answer goes to each of them. The spur's generator restarts if it is stopped (R276). DEDUCED, log entry 29.
DESIGN CHOICE, log entry 3. -/
def execClusterCacheFill (k : ClusterId) (s : State) : Out :=
  match takeFirst (fun a => a.dst == .cluster k && !s.fillWaits k a.id) s.answers with
  | none => .next s
  | some (a, rest) =>
    let (ms, cl) := (s.cluster k).takeMisses a.id
    let s1 := ({ s with answers := rest }.setCluster k cl).wakes (clusterSpur k)
    let ws := ms.flatMap (·.waits)
    if a.code ≠ 0 then
      .next (s1.sendBack (passOn (fun w => a.toWaiter w a.data a.t a.path a.guarded) ws))
    else
      match ms with
      | [] => .next s1
      | m :: _ =>
        let install := ms.any (fun x => x.install && !x.old)
        match (if install then s.clearWay k m.line else (s, none)) with
        | (s2, some v) => .next (s2.modCluster k (fun x => x.waitFor a.id v))
        | (_, none) =>
          let s2 := s1.cacheFill k m.line a.data (ms.any (·.sh)) (ms.all (·.cls == 0)) install
          let path := a.path + victimPath (ms.any (·.victim.isSome))
          .next (s2.sendBack (passOn (fun w => a.toWaiter w a.data (a.askedAt w) path a.guarded) ws))

/-- The waiters of a sketch-buffer entry whose data will not come take the ordinary miss path (R227). -/
def State.missAgain (s : State) (k : Nat) (m : Miss) : State :=
  let (r, s1) := s.request (.cluster k) (.read false) (w64 (m.line * 128)) 0 m.cls (m.waits.foldl (fun t w => Nat.max t w.t) 0)
  (s1.modCluster k (fun cl => { cl with misses := cl.misses ++ [{ m with id := r.id }] })).send r

/-- Whether a request is an invalidation for cluster `k` (R228). -/
def isInvFor (k : Nat) (r : Req) : Bool :=
  match r.kind with
  | .invalidate _ _ => r.ident.toNat = k
  | _ => false

/-- SKETCH_DATA_ARRIVAL: prefetched data makes a Pending entry Ready, or serves the accesses that wait for it; a dropped or
failed prefetch leaves the entry Empty (R225, R227, R229). What a plinth has sent to a cluster for one line comes in that order (R228).
DEDUCED, log entry 30. -/
def execSketchDataArrival (k : ClusterId) (s : State) : Out :=
  match takeFirst (fun a => a.dst == .sketch k false && isPrefetch a.request
      && !s.reqs.any (fun r => isInvFor k r && r.addr.toNat / 128 = a.addr.toNat / 128 && r.id < a.no)) s.answers with
  | none => .next s
  | some (a, rest) =>
    let (ms, cl) := (s.cluster k).takeMisses a.id
    let s1 := { s with answers := rest }.wakes (clusterSpur k)
    let ok := a.code = 0 && a.sense.isNone
    match cl.sketch.find? (fun e => e.id == a.id && e.st == .pending) with
    | some e =>
      if ok then
        match ms with
        | [] => .next (s1.setCluster k { cl with
            sketch := cl.sketch.map (fun x => if x.id == a.id then { x with st := .ready, data := a.data } else x) })
        | m :: _ =>
          let install := ms.any (fun x => x.install && !x.old)
          match (if install then s1.clearWay k m.line else (s1, none)) with
          | (s2, some v) =>
            .next (((s2.modCluster k (fun x => x.waitFor a.id v)).skUsed k e.id e.line).sendBack
              [{ a with dst := .cluster k, path := pathSketch, guarded := false }])
          | (_, none) =>
            let s2 := (s1.setCluster k cl).cacheFill k e.line a.data (ms.any (·.sh)) (ms.all (·.cls == 0)) install
            .next ((s2.skUsed k e.id e.line).sendBack
              (passOn (fun w => a.toWaiter w a.data w.t pathSketch false) (ms.flatMap (·.waits))))
      else
        let s2 := s1.setCluster k { cl with sketch := cl.sketch.filter (fun x => x.id != a.id) }
        .next (ms.foldl (fun t m => t.missAgain k m) (if a.code = 0 then s2 else s2.skRelease k e.line))
    | none => .next (ms.foldl (fun t m => t.missAgain k m) (s1.setCluster k cl))

/-- SKETCH_INVALIDATE: the entries of the line are marked Invalid, and the plinth is told, behind the data that left before (R228). -/
def execSketchInvalidate (k : ClusterId) (s : State) : Out :=
  match takeFirst (fun r => isInvFor k r && !s.answers.any (fun a => a.dst == .sketch k false && isPrefetch a.request
      && r.addr.toNat / 128 = a.addr.toNat / 128 && a.no ≤ r.id)) s.reqs with
  | none => .next s
  | some (r, rest) =>
    let line := r.addr.toNat / 128
    let s1 := ({ s with reqs := rest }.wakes (clusterSpur k)).modCluster k (fun cl =>
      { cl with sketch := cl.sketch.map (fun (e : Sketch) => if e.line = line then { e with st := .invalid } else e) })
    .next (match r.src with
      | .engine _ => s1.acked (localOf r.addr / 128) (BitVec.ofNat 12 s1.dev, BitVec.ofNat 16 k.val)
      | _ => s1.answer (answerOf r 0 0 none 0 false))

/-! ### Error answers -/

/-- An asynchronous error answer is recorded, and its interrupt raised (R201, R202). DEDUCED, log entry 21. -/
def Core.asyncError (k : Core) (kind : Nat) (code : BitVec 16) (addr : Word) : Core :=
  if wb k.aerr 63 then { k with aerr := wsetb k.aerr 62 true }
  else { k with aerr := w64 (2 ^ 63 + kind * 2 ^ 60 + code.toNat), aadr := addr }
def State.asyncError (s : State) (c kind : Nat) (code : BitVec 16) (addr : Word) : State :=
  ((s.hears c).modCore c (fun k => k.asyncError kind code addr)).setIp c ipAsync

/-- KIND and ADDR of the record of a request (R201, R202); `none` for a request whose error is not asynchronous. -/
def Ans.asyncKind (a : Ans) : Option (Nat × Word) :=
  match a.kind with
  | .write _ _ tile => some (tile.toNat, a.addr)
  | .word _ => some (0, a.addr)
  | .signal _ => some (2, a.addr)
  | .decrement _ => some (2, a.addr)
  | .nmc q => some (3, q.a)
  | _ => none

/-- ASYNC_ERROR_ANSWER (R202), at its due beat, or at its arrival (R278 to R280). -/
def execAsyncErrorAnswer (c : CoreId) (s : State) (arrival : Nat := 0) (contended : Bool := false) : Out :=
  match takeFirst (fun a => a.dst == .core c && a.code != 0 && a.asyncKind.isSome) s.answers with
  | none => .next s
  | some (a, rest) =>
    let (x, late) := s.delivered c a arrival contended
    let s1 := ({ s with answers := rest }.lateCount c late).hearsAt (coreDomain c) x
    .next (match a.asyncKind with
      | some (kind, addr) => s1.asyncError c kind a.code addr
      | none => s1)

/-- Whether an answer is a store path's. -/
def pathAnswer (k : Nat) (a : Ans) : Bool :=
  match a.dst with
  | .storePath j _ => j = k
  | _ => false

/-- STORE_PATH_ERROR_ANSWER: each core that has merged into the entry is told (R474), at the answer's due beat, or at its arrival (R278
to R280). -/
def execStorePathErrorAnswer (k : ClusterId) (s : State) (arrival : Nat := 0) (contended : Bool := false) : Out :=
  match takeFirst (pathAnswer k) s.answers with
  | none => .next s
  | some (a, rest) =>
    let (x, late) := s.delivered (16 * k) a arrival contended
    let s1 := ({ s with answers := rest }.lateCount (16 * k) late).hearsAt (clusterSpur k) x
    .next (match a.dst with
      | .storePath _ who => who.foldl (fun t x => t.asyncError x.core x.tile.toNat a.code x.low) s1
      | _ => s1)

/-- A load, LR or SC is answered with an error at beat `x`: the freeze ends, its register is not written, and the instruction
that would issue next is the one to return to (R117, R140, R173). -/
def Core.errorAt (k : Core) (a : Ans) (p : Pend) (x : Nat) : Core :=
  let k1 := { k with pend := k.pend.filter (fun q => q.tag ≠ some a.id), rsv := match a.kind with
    | .readReserve _ => none
    | _ => k.rsv }
  match k.frozen, k.xfer with
  | some (_, f), none =>
    let e := sameParity f (Nat.max f x)
    (k1.thaw f e).raise e causeErrorAnswer p.va a.code.toNat
  | _, _ => (({ k1 with frozen := none, clear := 0 }.stopXfer x).cutMove x).raise x causeErrorAnswer p.va a.code.toNat

/-- A row of a load is answered with an error: the transfer ends there, unless an earlier row has failed (R236). -/
def Xfer.errorRow (x : Xfer) (j : Nat) (code : BitVec 16) (t : Nat) : Xfer :=
  let x1 := { x with tags := x.tags.filter (fun e => e.1 ≠ j) }
  match x.fault with
  | some (i, _, _, _, _) => if i < j then x1 else { x1 with fault := some (j, causeErrorAnswer, x.rowVa j, code.toNat, t) }
  | none => { x1 with fault := some (j, causeErrorAnswer, x.rowVa j, code.toNat, t) }

/-- ERROR_ANSWER: an error answer to a load, LR, SC or row of a load is recognised at its arrival (R173, R236); one that
comes while an exception waits for its entry waits too. DEDUCED, log entry 35. -/
def execErrorAnswer (c : CoreId) (s : State) (arrival : Nat := 0) (contended : Bool := false) : Out :=
  let s0 := s.settled c
  if (s0.core c).exc.isSome then .next s0
  else
    match takeFirst (fun a => a.dst == .core c && a.code != 0 && a.isValue) s0.answers with
    | none => .next s0
    | some (a, rest) =>
      let (y, late) := s0.delivered c a arrival contended
      let x := Nat.max (s0.beat (coreDomain c)) y
      let s1 := (((({ s0 with answers := rest }.wakes (coreDomain c)).lateCount c late).toBeat (coreDomain c) x).modCore c
        (fun k => k.moveWhile (fun y => y < x) moveActs)).xferGo c x
      let k := s1.core c
      match k.pend.find? (fun p => p.tag = some a.id), k.xfer with
      | some p, _ => .next ((s1.setCore c (k.errorAt a p x)).settled c)
      | none, some f =>
        (match f.tags.find? (fun e => e.2 = a.id) with
         | some (j, _) => .next (s1.setCore c { k with xfer := some (f.errorRow j a.code x) })
         | none => .next s1)
      | none, none => .next s1

/-! ### WAITC (R269) -/

def Ans.isWait (a : Ans) (sync : Bool) : Bool :=
  (match a.kind with
   | .waitGe _ => true
   | .waitBar _ => true
   | _ => false) && wb a.ident 45 == sync

/-- The interval after which a request answered 0x1001 is sent again (R269, R321). -/
def resendBeats : Nat := 4096

/-- The entry of a WAITC that was answered Fenced, a BAR with an arrival's sense as a pure wait (R269). -/
def QEntry.fencedWait (e : QEntry) (sense : Option Bool) (now : Nat) : QEntry :=
  { e with sent := false, again := true, at_ := now + resendBeats, op := match e.op, sense with
    | .waitBar _, some b => .waitBar (some b)
    | o, _ => o }

/-- WAITC_ANSWER: the WAITC leaves its queue, with its acquire where Q = 0 (R214); one answered Fenced stays and is sent
again; any other error is reported (R269). An answer to a WAITC that is no longer there is discarded. DEDUCED, log entry 42. -/
def execWaitcAnswer (c : CoreId) (sync : Bool) (s : State) (arrival : Nat := 0) (contended : Bool := false) : Out :=
  match takeFirst (fun a => a.dst == .core c && a.isWait sync) s.answers with
  | none => .next s
  | some (a, rest) =>
    let (x, late) := s.delivered c a arrival contended
    let s1 := ({ s with answers := rest }.wakes (coreDomain c)).lateCount c late
    match ((s1.core c).queue sync).head? with
    | none => .next s1
    | some e =>
      if e.id ≠ a.id then .next s1
      else
        let now := Nat.max (s1.beat (coreDomain c)) x
        let s2 := s1.toBeat (coreDomain c) now
        if a.code = 0 then .next (if sync then s2.pop c sync now 0 else s2.acquireNow c now)
        else if a.code.toNat = codeFenced then .next (s2.setHead c sync (e.fencedWait a.sense now))
        else .next ((s2.asyncError c 2 a.code a.addr).pop c sync now 0)

/-- WAITC_RESEND (R269). DEDUCED, log entry 42. -/
def execWaitcResend (c : CoreId) (sync : Bool) (s : State) : Out :=
  match ((s.core c).queue sync).head? with
  | none => .next s
  | some e =>
    .next (if s.running c && e.again then
      s.sendHead c sync { e with again := false } (Nat.max (s.beat (coreDomain c)) e.at_) else s)

/-! ### Requests that are sent again -/

/-- Whether a request is resent with those of cluster `k`: its own, and those of no cluster (R321). DEDUCED, log entry 42. -/
def resentWith (k : Nat) (r : Req) : Bool :=
  match r.src with
  | .core c => coreBoot c || clusterOf c = k
  | .cluster j => j = k
  | .storePath j _ => j = k
  | .sketch j _ => j = k
  | _ => true

/-- REQUEST_RESEND (R321). DEDUCED, log entry 42. -/
def execRequestResend (k : ClusterId) (s : State) : Out :=
  let rs := s.resend.filter (resentWith k)
  let s1 := { s with resend := s.resend.filter (fun r => !resentWith k r) }
  .next ((rs.foldl (fun t r => t.depart { r with t := match r.src with
    | .core c => t.beat (coreDomain c)
    | _ => t.beat (clusterSpur k) }) s1).hostAgain.summitGo)

/-! ### Per-core blocks -/

/-- The path to a per-core block: a boot core's has 20 beats of its own in place of the spur and rim parts, from which `pathOf` has still
to be taken (R282). -/
def devicePath (r : Req) : Nat :=
  match r.src with
  | .core c => if coreBoot c then 84 + 12 + 20 + 22 else pathDevice
  | _ => pathDevice

/-- The first request for the block of core `c`. -/
def blockReq (s : State) (c : Nat) : Option (Req × List Req) :=
  takeFirst (fun r => match r.kind, regionOf (localOf r.addr) with
    | .invalidate _ _, _ => false
    | _, .coreBlock d _ => d = c
    | _, _ => false) s.reqs

/-- IWORD_STORE: a store reaches a word of the block (R200, R202, R392). DEDUCED, log entry 46. -/
def execIwordStore (c : CoreId) (s : State) : Out :=
  match blockReq s c with
  | none => .next s
  | some (r, rest) =>
    let a := localOf r.addr
    let path := devicePath r
    let reply (t : State) (code : Nat) : State :=
      if code = 0 && !r.src.acked then t.noteVisible r.src false (r.t + srcPath r.src path) else t.answer (answerOf r code 0 none path false)
    let go (v : Option Word) : State :=
      if s.rimKeeps c then s.spurSource (spurOf c) 3
      else
        let t : State := { s with reqs := rest }.wakes (coreDomain c)
        let err := t.targetError a (r.who t.dev) .write
        match v with
        | some w => if err ≠ 0 then reply t err else reply (t.blockStore c (a % 64) w) 0
        | none => reply t codeNoAddress
    match r.kind with
    | .word v => .next (go (some v))
    | .write _ _ _ => .next (go none)
    | _ => .next s

/-- IWORD_LOAD: a load of a word of the block is answered; the owner's load of IWORD clears it (R200). -/
def execIwordLoad (c : CoreId) (s : State) : Out :=
  match blockReq s c with
  | none => .next s
  | some (r, rest) =>
    let a := localOf r.addr
    if isStore r then .next s
    else if s.rimKeeps c then .next (s.spurSource (spurOf c) 3)
    else
      let t : State := { s with reqs := rest }.wakes (coreDomain c)
      let err := if r.kind = .loadWord then t.targetError a (r.who t.dev) .read else codeNoAddress
      if err ≠ 0 then .next (t.answer (answerOf r err 0 none (devicePath r) false))
      else
        let (w, t1) := t.blockLoad c (a % 64) (r.src == .core c)
        .next (t1.answer (answerOf r 0 (at8 a w) none (devicePath r) false))

end Sys2Proof.Machine
end

