-- ==== Sys2Proof/Machine/Scalar.lean ====
section
/-! DEFINITION. Scalar arithmetic (R122 to R124) and the CRC, parity and bit operations (R141 and their page). -/

namespace Sys2Proof.Machine

/-- A scalar instruction that writes `f` of the core's registers to `rd` at distance `d` (R115). -/
def alu (c : CoreId) (rd : Reg) (d : Nat) (f : Core → Word) : State → Nat → Res :=
  coreBody c (fun k a => k.result a d rd (f k))

/-- The shift amount of a register form: s[rs2][5:0] (R123). -/
def shamt (v : Word) : Nat := wf v 5 0

/-- The immediates of R122. -/
def immS (i : BitVec 16) : Word := i.signExtend 64
def immZ (i : BitVec 16) : Word := i.zeroExtend 64
def immU (i : BitVec 21) : Word := i.signExtend 64 <<< 16

/-- High 64 bits of a product of integers (R124). -/
def mulHigh (a b : Int) : Word := BitVec.ofInt 64 (a * b / 2 ^ 64)

/-- The operand width of W: 8, 16, 32 or 64 bits. -/
def bitWidth (w : BitVec 2) : Nat := 8 * 2 ^ w.toNat

/-- One CRC step over the low bits of `d` (CRC page). -/
def crcStep32 (w : BitVec 2) (c d : Word) : Word := w64 (crcBits poly32c (bitWidth w) (wf c 31 0) d.toNat)
def crcStep64 (w : BitVec 2) (c d : Word) : Word := w64 (crcBits poly64 (bitWidth w) c.toNat d.toNat)

/-- The low bits of an operand. -/
def lowBits (w : BitVec 2) (v : Word) : Nat := v.toNat % 2 ^ bitWidth w

/-- ADD (R123). -/
def execAdd (c : CoreId) (rd rs1 rs2 : Reg) (s : State) : Out :=
  issueOut s c (.add c rd rs1 rs2) (alu c rd 2 (fun k => k.sreg rs1 + k.sreg rs2))

/-- SUB (R123). -/
def execSub (c : CoreId) (rd rs1 rs2 : Reg) (s : State) : Out :=
  issueOut s c (.sub c rd rs1 rs2) (alu c rd 2 (fun k => k.sreg rs1 - k.sreg rs2))

/-- AND (R123). -/
def execAnd (c : CoreId) (rd rs1 rs2 : Reg) (s : State) : Out :=
  issueOut s c (.and c rd rs1 rs2) (alu c rd 2 (fun k => k.sreg rs1 &&& k.sreg rs2))

/-- OR (R123). -/
def execOr (c : CoreId) (rd rs1 rs2 : Reg) (s : State) : Out :=
  issueOut s c (.or c rd rs1 rs2) (alu c rd 2 (fun k => k.sreg rs1 ||| k.sreg rs2))

/-- XOR (R123). -/
def execXor (c : CoreId) (rd rs1 rs2 : Reg) (s : State) : Out :=
  issueOut s c (.xor c rd rs1 rs2) (alu c rd 2 (fun k => k.sreg rs1 ^^^ k.sreg rs2))

/-- SLL (R123). -/
def execSll (c : CoreId) (rd rs1 rs2 : Reg) (s : State) : Out :=
  issueOut s c (.sll c rd rs1 rs2) (alu c rd 2 (fun k => k.sreg rs1 <<< shamt (k.sreg rs2)))

/-- SRL (R123). -/
def execSrl (c : CoreId) (rd rs1 rs2 : Reg) (s : State) : Out :=
  issueOut s c (.srl c rd rs1 rs2) (alu c rd 2 (fun k => k.sreg rs1 >>> shamt (k.sreg rs2)))

/-- SRA (R123). -/
def execSra (c : CoreId) (rd rs1 rs2 : Reg) (s : State) : Out :=
  issueOut s c (.sra c rd rs1 rs2) (alu c rd 2 (fun k => (k.sreg rs1).sshiftRight (shamt (k.sreg rs2))))

/-- SLT (R123). -/
def execSlt (c : CoreId) (rd rs1 rs2 : Reg) (s : State) : Out :=
  issueOut s c (.slt c rd rs1 rs2) (alu c rd 2 (fun k => b64 ((k.sreg rs1).slt (k.sreg rs2))))

/-- SLTU (R123). -/
def execSltu (c : CoreId) (rd rs1 rs2 : Reg) (s : State) : Out :=
  issueOut s c (.sltu c rd rs1 rs2) (alu c rd 2 (fun k => b64 ((k.sreg rs1).ult (k.sreg rs2))))

/-- MIN (R123). -/
def execMin (c : CoreId) (rd rs1 rs2 : Reg) (s : State) : Out :=
  issueOut s c (.min c rd rs1 rs2) (alu c rd 2 (fun k => if (k.sreg rs1).slt (k.sreg rs2) then k.sreg rs1 else k.sreg rs2))

/-- MAX (R123). -/
def execMax (c : CoreId) (rd rs1 rs2 : Reg) (s : State) : Out :=
  issueOut s c (.max c rd rs1 rs2) (alu c rd 2 (fun k => if (k.sreg rs1).slt (k.sreg rs2) then k.sreg rs2 else k.sreg rs1))

/-- MINU (R123). -/
def execMinu (c : CoreId) (rd rs1 rs2 : Reg) (s : State) : Out :=
  issueOut s c (.minu c rd rs1 rs2) (alu c rd 2 (fun k => if (k.sreg rs1).ult (k.sreg rs2) then k.sreg rs1 else k.sreg rs2))

/-- MAXU (R123). -/
def execMaxu (c : CoreId) (rd rs1 rs2 : Reg) (s : State) : Out :=
  issueOut s c (.maxu c rd rs1 rs2) (alu c rd 2 (fun k => if (k.sreg rs1).ult (k.sreg rs2) then k.sreg rs2 else k.sreg rs1))

/-- ADDI (R122). -/
def execAddi (c : CoreId) (rd rs1 : Reg) (imm : BitVec 16) (s : State) : Out :=
  issueOut s c (.addi c rd rs1 imm) (alu c rd 2 (fun k => k.sreg rs1 + immS imm))

/-- SLTI (R122). -/
def execSlti (c : CoreId) (rd rs1 : Reg) (imm : BitVec 16) (s : State) : Out :=
  issueOut s c (.slti c rd rs1 imm) (alu c rd 2 (fun k => b64 ((k.sreg rs1).slt (immS imm))))

/-- SLTIU (R122). -/
def execSltiu (c : CoreId) (rd rs1 : Reg) (imm : BitVec 16) (s : State) : Out :=
  issueOut s c (.sltiu c rd rs1 imm) (alu c rd 2 (fun k => b64 ((k.sreg rs1).ult (immS imm))))

/-- ANDI (R122). -/
def execAndi (c : CoreId) (rd rs1 : Reg) (imm : BitVec 16) (s : State) : Out :=
  issueOut s c (.andi c rd rs1 imm) (alu c rd 2 (fun k => k.sreg rs1 &&& immZ imm))

/-- ORI (R122). -/
def execOri (c : CoreId) (rd rs1 : Reg) (imm : BitVec 16) (s : State) : Out :=
  issueOut s c (.ori c rd rs1 imm) (alu c rd 2 (fun k => k.sreg rs1 ||| immZ imm))

/-- XORI (R122). -/
def execXori (c : CoreId) (rd rs1 : Reg) (imm : BitVec 16) (s : State) : Out :=
  issueOut s c (.xori c rd rs1 imm) (alu c rd 2 (fun k => k.sreg rs1 ^^^ immZ imm))

/-- SLLI (R122). -/
def execSlli (c : CoreId) (rd rs1 : Reg) (sh : BitVec 6) (s : State) : Out :=
  issueOut s c (.slli c rd rs1 sh) (alu c rd 2 (fun k => k.sreg rs1 <<< sh.toNat))

/-- SRLI (R122). -/
def execSrli (c : CoreId) (rd rs1 : Reg) (sh : BitVec 6) (s : State) : Out :=
  issueOut s c (.srli c rd rs1 sh) (alu c rd 2 (fun k => k.sreg rs1 >>> sh.toNat))

/-- SRAI (R122). -/
def execSrai (c : CoreId) (rd rs1 : Reg) (sh : BitVec 6) (s : State) : Out :=
  issueOut s c (.srai c rd rs1 sh) (alu c rd 2 (fun k => (k.sreg rs1).sshiftRight sh.toNat))

/-- LUI (R122). -/
def execLui (c : CoreId) (rd : Reg) (imm : BitVec 21) (s : State) : Out :=
  issueOut s c (.lui c rd imm) (alu c rd 2 (fun _ => immU imm))

/-- AUIPC (R122): PC is the address of the AUIPC. -/
def execAuipc (c : CoreId) (rd : Reg) (imm : BitVec 21) (s : State) : Out :=
  issueOut s c (.auipc c rd imm) (alu c rd 2 (fun k => k.pc.zeroExtend 64 + immU imm))

/-- MUL (R124). -/
def execMul (c : CoreId) (rd rs1 rs2 : Reg) (s : State) : Out :=
  issueOut s c (.mul c rd rs1 rs2) (alu c rd 4 (fun k => k.sreg rs1 * k.sreg rs2))

/-- MULH (R124). -/
def execMulh (c : CoreId) (rd rs1 rs2 : Reg) (s : State) : Out :=
  issueOut s c (.mulh c rd rs1 rs2) (alu c rd 4 (fun k => mulHigh (k.sreg rs1).toInt (k.sreg rs2).toInt))

/-- MULHU (R124). -/
def execMulhu (c : CoreId) (rd rs1 rs2 : Reg) (s : State) : Out :=
  issueOut s c (.mulhu c rd rs1 rs2) (alu c rd 4 (fun k => mulHigh (k.sreg rs1).toNat (k.sreg rs2).toNat))

/-- MULHSU (R124). -/
def execMulhsu (c : CoreId) (rd rs1 rs2 : Reg) (s : State) : Out :=
  issueOut s c (.mulhsu c rd rs1 rs2) (alu c rd 4 (fun k => mulHigh (k.sreg rs1).toInt (k.sreg rs2).toNat))

/-- CRC32C.w (R141). -/
def execCrc32c (c : CoreId) (rd rs1 rs2 : Reg) (w : BitVec 2) (s : State) : Out :=
  issueOut s c (.crc32c c rd rs1 rs2 w) (alu c rd 4 (fun k => crcStep32 w (k.sreg rs1) (k.sreg rs2)))

/-- CRC64.w (R141). -/
def execCrc64 (c : CoreId) (rd rs1 rs2 : Reg) (w : BitVec 2) (s : State) : Out :=
  issueOut s c (.crc64 c rd rs1 rs2 w) (alu c rd 4 (fun k => crcStep64 w (k.sreg rs1) (k.sreg rs2)))

/-- PARITY.w (R120). -/
def execParity (c : CoreId) (rd rs1 : Reg) (w : BitVec 2) (s : State) : Out :=
  issueOut s c (.parity c rd rs1 w) (alu c rd 2 (fun k => w64 (popN 64 (lowBits w (k.sreg rs1)) % 2)))

/-- BREV.w (R120). -/
def execBrev (c : CoreId) (rd rs1 : Reg) (w : BitVec 2) (s : State) : Out :=
  issueOut s c (.brev c rd rs1 w) (alu c rd 2 (fun k => w64 (revN (bitWidth w) (lowBits w (k.sreg rs1)))))

/-- CLZ.w (R120). -/
def execClz (c : CoreId) (rd rs1 : Reg) (w : BitVec 2) (s : State) : Out :=
  issueOut s c (.clz c rd rs1 w) (alu c rd 2 (fun k => w64 (clzN (bitWidth w) (lowBits w (k.sreg rs1)))))

/-- CTZ.w (R120). -/
def execCtz (c : CoreId) (rd rs1 : Reg) (w : BitVec 2) (s : State) : Out :=
  issueOut s c (.ctz c rd rs1 w) (alu c rd 2 (fun k => w64 (ctzN (bitWidth w) (lowBits w (k.sreg rs1)))))

/-- POPC.w (R120). -/
def execPopc (c : CoreId) (rd rs1 : Reg) (w : BitVec 2) (s : State) : Out :=
  issueOut s c (.popc c rd rs1 w) (alu c rd 2 (fun k => w64 (popN 64 (lowBits w (k.sreg rs1)))))

end Sys2Proof.Machine
end

