-- ==== Sys2Proof/Machine/Branch.lean ====
section
/-! DEFINITION. Branches, jumps and the hardware loop (R128 to R130, R135 to R138), system registers (R131 to R134),
SYSCALL, SRET, SRET.SKIP and NOINT (R190), and the words that stand for no instruction (R121, R143). -/

namespace Sys2Proof.Machine

/-- A branch: both sources are read at issue, and the target is PC + sext(off16) × 4 (R128). DEDUCED, log entries 16, 17. -/
def branch (c : CoreId) (rs1 rs2 : Reg) (off : BitVec 16) (cond : Word → Word → Bool) (s : State) (_b : Nat) : Res :=
  let k := s.core c
  .done s (if cond (k.sreg rs1) (k.sreg rs2) then .taken (k.pc + (off.signExtend 48 <<< 2)) else .seq)

/-- BEQ (R128). -/
def execBeq (c : CoreId) (rs1 rs2 : Reg) (off : BitVec 16) (s : State) : Out :=
  issueOut s c (.beq c rs1 rs2 off) (branch c rs1 rs2 off (fun a b => a == b))

/-- BNE (R128). -/
def execBne (c : CoreId) (rs1 rs2 : Reg) (off : BitVec 16) (s : State) : Out :=
  issueOut s c (.bne c rs1 rs2 off) (branch c rs1 rs2 off (fun a b => a != b))

/-- BLT (R128). -/
def execBlt (c : CoreId) (rs1 rs2 : Reg) (off : BitVec 16) (s : State) : Out :=
  issueOut s c (.blt c rs1 rs2 off) (branch c rs1 rs2 off (fun a b => a.slt b))

/-- BGE (R128). -/
def execBge (c : CoreId) (rs1 rs2 : Reg) (off : BitVec 16) (s : State) : Out :=
  issueOut s c (.bge c rs1 rs2 off) (branch c rs1 rs2 off (fun a b => !a.slt b))

/-- BLTU (R128). -/
def execBltu (c : CoreId) (rs1 rs2 : Reg) (off : BitVec 16) (s : State) : Out :=
  issueOut s c (.bltu c rs1 rs2 off) (branch c rs1 rs2 off (fun a b => a.ult b))

/-- BGEU (R128). -/
def execBgeu (c : CoreId) (rs1 rs2 : Reg) (off : BitVec 16) (s : State) : Out :=
  issueOut s c (.bgeu c rs1 rs2 off) (branch c rs1 rs2 off (fun a b => !a.ult b))

/-- JAL (R128): s31 = PC + 8. DEDUCED, log entry 16. -/
def execJal (c : CoreId) (off : BitVec 26) (s : State) : Out :=
  issueOut s c (.jal c off) (fun t b =>
    let k := t.core c
    .done (t.setCore c (k.result (k.active b) 2 31 ((k.pc + 8).zeroExtend 64))) (.taken (k.pc + (off.signExtend 48 <<< 2))))

/-- JALR (R128): a target whose bits [1:0] are not zero raises the misaligned-access exception. DEDUCED, log entry 16. -/
def execJalr (c : CoreId) (rd rs1 : Reg) (imm : BitVec 16) (s : State) : Out :=
  issueOut s c (.jalr c rd rs1 imm) (fun t b =>
    let k := t.core c
    let target := k.sreg rs1 + immS imm
    if wf target 1 0 ≠ 0 then .raise causeMisaligned target
    else .done (t.setCore c (k.result (k.active b) 2 rd ((k.pc + 8).zeroExtend 64))) (.taken (target.truncate 48)))

/-- LOOP: the loop registers take their values at once, and a count of 0 skips the body (LOOP page). DEDUCED, log entries 16, 19. -/
def execLoop (c : CoreId) (rs1 : Reg) (lenm1 : BitVec 11) (s : State) : Out :=
  issueOut s c (.loop c rs1 lenm1) (fun t b =>
    let k := t.core c
    let a := k.active b
    let cnt := wf (k.sreg rs1) 31 0
    let last := k.pc + BitVec.ofNat 48 (4 * (lenm1.toNat + 1))
    .done (t.setCore c { k with
      lbeg := (k.pc + 4).zeroExtend 64, lend := last.zeroExtend 64, lcnt := w64 (k.level * 2 ^ 32 + cnt)
      loopSeen := k.loopSeen.filter (fun e => a < e.1) ++ [(a + 2, k.lcnt, k.lbeg, k.lend)], shadow := a + 2 })
      (if cnt = 0 then .skip (last + 4) else .seq))

/-! ### System registers -/

/-- Whether the level may perform the access (R131); `none` for a register that nothing writes. -/
def sysAllowed (level sr : Nat) (write : Bool) : Bool :=
  sysReadLevel sr ≤ level &&
  (if write then
    match sysWriteLevel sr with
    | none => false
    | some l => l ≤ level
   else true)

/-- The four instructions of major 0x2A: the old value to rd at distance 2, the new one in force from t + 3
(SYSR, SYSW, SYSS, SYSC page). `new` forms the value from the old one and s[rs1]; `clr` the W1C bits written with 1;
`mode` says whether the write is mode-changing. -/
def sysAccess (c : CoreId) (i : Instr) (rd rs1 : Reg) (sr : BitVec 12) (write : Bool) (new clr : Word → Word → Word)
    (mode : Word → Bool) (s : State) (b : Nat) : Res :=
  let k := s.core c
  if !sysAllowed k.level sr.toNat write then .raise causePrivilege (wordOf i)
  else
    let a := k.active b
    let old := s.sysRead c b sr.toNat
    let v := k.sreg rs1
    let k1 := k.result a 2 rd old
    if !write then .done (s.setCore c k1) .seq
    else
      let p : Pend := { due := a + 3, dst := .sys sr (clr old v) (BitVec.ofNat 2 k.level), tag := none, val := new old v }
      .done (s.setCore c { k1 with
        pend := addPend p k1.pend, shadow := if mode v then a + 2 else k1.shadow }) .seq

/-- SYSR (R131). -/
def execSysr (c : CoreId) (rd : Reg) (sr : BitVec 12) (s : State) : Out :=
  issueOut s c (.sysr c rd sr) (sysAccess c (.sysr c rd sr) rd 0 sr false (fun o _ => o) (fun _ _ => 0) (fun _ => false))

/-- SYSW (R131): every write of FCTL is mode-changing (R36). -/
def execSysw (c : CoreId) (rd rs1 : Reg) (sr : BitVec 12) (s : State) : Out :=
  issueOut s c (.sysw c rd rs1 sr) (sysAccess c (.sysw c rd rs1 sr) rd rs1 sr true (fun _ v => v) (fun _ v => v)
    (fun _ => modeChanging sr.toNat || sr = 3))

/-- SYSS (R131): a write of FCTL is mode-changing if s[rs1] has a bit set in [11:8] (R36). -/
def execSyss (c : CoreId) (rd rs1 : Reg) (sr : BitVec 12) (s : State) : Out :=
  issueOut s c (.syss c rd rs1 sr) (sysAccess c (.syss c rd rs1 sr) rd rs1 sr true (fun o v => o ||| v) (fun _ v => v)
    (fun v => modeChanging sr.toNat || (sr = 3 && wf v 11 8 ≠ 0)))

/-- SYSC (R131): it leaves W1C fields unchanged. -/
def execSysc (c : CoreId) (rd rs1 : Reg) (sr : BitVec 12) (s : State) : Out :=
  issueOut s c (.sysc c rd rs1 sr) (sysAccess c (.sysc c rd rs1 sr) rd rs1 sr true (fun o v => o &&& ~~~v) (fun _ _ => 0)
    (fun v => modeChanging sr.toNat || (sr = 3 && wf v 11 8 ≠ 0)))

/-! ### SYSCALL, SRET, NOINT -/

/-- SYSCALL raises its exception at its issue beat (SYSCALL page). -/
def execSyscall (c : CoreId) (s : State) : Out :=
  issueOut s c (.syscall c) (fun _ _ => .raise causeSyscall 0)

/-- What SRET and SRET.SKIP share: STAT from the save set with its own IP, every scalar result of the handler in
effect, the reservation and the NOINT window gone, and the next issue at the later of t + 7 and the second beat after
the last vector instruction's final step (SRET page). DEDUCED, log entry 18. -/
def State.leaveHandler (s : State) (c : CoreId) (b : Nat) (f : SaveSet → Core → Core) : State :=
  let k := s.core c
  let save := if k.level = 3 then k.saveM else k.saveS
  let a := k.active b
  (s.landAll c (a + 6)).modCore c (fun k1 =>
    f save { k1 with
      stat := (save.st &&& ~~~(w64 0xFF0000000003)) ||| keep 0xFF0000000000 k1.stat |||
        (if coreBoot c then 3 else keep 3 save.st)
      rsv := none
      noint := none
      noIntr := false
      next := Nat.max (b + 7) (k1.vfinal + 2) })

/-- SRET (its page): the instruction at the saved pc runs again, as a delay slot where DS is set. DEDUCED, log entry 18. -/
def execSret (c : CoreId) (s : State) : Out :=
  issueOut s c (.sret c) (fun t b =>
    if (t.core c).level = 0 then .raise causePrivilege (wordOf (.sret c))
    else .begun (t.leaveHandler c b (fun save k => { k with
      tprog := keep 0xFC1F (w64 (wf save.aux 63 48))
      pc := BitVec.ofNat 48 (wf save.pc 47 0)
      slot := if wb save.aux 0 then some (BitVec.ofNat 48 (wf save.aux 47 2 * 4)) else none })))

/-- SRET.SKIP (its page): the instruction at the saved pc counts as completed. -/
def execSretSkip (c : CoreId) (s : State) : Out :=
  issueOut s c (.sretSkip c) (fun t b =>
    if (t.core c).level = 0 then .raise causePrivilege (wordOf (.sretSkip c))
    else .begun (t.leaveHandler c b (fun save k =>
      let lp := wb save.aux 1
      let count := wf k.lcnt 31 0
      let left := if lp && count != 0 then count - 1 else count
      { k with
        tprog := 0
        lcnt := wset k.lcnt 31 0 left
        slot := none
        pc := if wb save.aux 0 then BitVec.ofNat 48 (wf save.aux 47 2 * 4)
          else if lp && left != 0 then BitVec.ofNat 48 k.lbeg.toNat
          else if lp then BitVec.ofNat 48 (k.lend.toNat + 4)
          else BitVec.ofNat 48 (wf save.pc 47 0 + 4) })))

/-- Whether a NOINT window covers active beat `a`. -/
def Core.inNoint (k : Core) (a : Nat) : Bool :=
  match k.noint with
  | some e => a ≤ e
  | none => false

/-- NOINT: a window of active beats t + 1 to t + n; an open window is left as it is (NOINT page). -/
def execNoint (c : CoreId) (nm1 : BitVec 8) (s : State) : Out :=
  issueOut s c (.noint c nm1) (fun t b =>
    let k := t.core c
    let a := k.active b
    if k.level = 0 then .raise causePrivilege (wordOf (.noint c nm1))
    else .done (t.setCore c (if k.inNoint a then k else { k with noint := some (a + nm1.toNat + 1) })) .seq)

/-! ### Words that are no instruction -/

/-- A word of major 0x3D or 0x3E (R143); any other word is not this event. -/
def execUnclaimedCoprocessor (c : CoreId) (word : BitVec 32) (s : State) : Out :=
  if wfld word.toNat 31 26 = 0x3D || wfld word.toNat 31 26 = 0x3E then
    issueOut s c (.unclaimedCoprocessor c word) (fun _ _ => .raise causeUnclaimed (word.zeroExtend 64))
  else .next s

/-- A word that R121 makes illegal; a word that decodes is not this event. Issue knows it, as it knows an unclaimed
word, by its 32 bits alone. -/
def execIllegalInstruction (c : CoreId) (word : BitVec 32) (s : State) : Out :=
  if (decodeWord c word.toNat).isNone then
    issueOut s c (.unclaimedCoprocessor c word) (fun _ _ => .raise causeIllegal (word.zeroExtend 64))
  else .next s

end Sys2Proof.Machine
end

