-- ==== Sys2Proof/Machine/Canvas.lean ====
section
/-! DEFINITION. The canvas commands of a core (R59 to R64, R82, R83), TFENCE, the run of a queued command at its slot,
and the commit of slot maps (R65 to R71). -/

namespace Sys2Proof.Machine

/-- The start of the core's last command that is queued or running, which the next command's slot must follow (R60). -/
def Core.lastStart (k : Core) : Nat := (k.running ++ k.cq).foldl (fun m c => Nat.max m c.start) 0

/-- Issue of a canvas command of a kind: 0 TMMA, 1 TMMAP, 2 TMMAQ (R59 to R62, R83). -/
def canvasBody (c : CoreId) (kind : Nat) (tc ta tb : BitVec 3) (acc : Bool) (var : BitVec 2) (mm1 nm1 : Reg)
    (s : State) (b : Nat) : Res :=
  let k := s.core c
  let m := mm1.toNat + 1
  let n := nm1.toNat + 1
  let two := isWide (tregOf k.tcfg ta.toNat).ty
  let cl := s.cluster (clusterOf c)
  let lead := if kind = 2 then 18 else 34
  if 4 ≤ k.cq.length then .freeze .canvasFull
  else if !operandsOk k.tcfg kind tc.toNat ta.toNat tb.toNat m n var.toNat then .raise causeTileOperand 0
  else match bindSlot cl.maps cl.mapsFrom (c.val % 16) (kind = 2) two (Nat.max (b + lead) (k.lastStart + 1)) with
    | none => .raise causeNoSlot 0
    | some (start, slot, qtr) =>
      let e := entryFor k.tcfg kind tc.toNat ta.toNat tb.toNat m n var.toNat acc (c.val % 16) slot qtr
      .done (s.setCore c { k with cq := k.cq ++ [{ entry := centPack e, start := start, done := b, got := [] }] }) .seq

/-- TMMA (R60). -/
def execTmma (c : CoreId) (tc ta tb : BitVec 3) (acc : Bool) (var : BitVec 2) (mm1 nm1 : Reg) (s : State) : Out :=
  issueOut s c (.tmma c tc ta tb acc var mm1 nm1) (canvasBody c 0 tc ta tb acc var mm1 nm1)

/-- TMMAP (R49). -/
def execTmmap (c : CoreId) (tc ta tb : BitVec 3) (acc : Bool) (mm1 nm1 : Reg) (s : State) : Out :=
  issueOut s c (.tmmap c tc ta tb acc mm1 nm1) (canvasBody c 1 tc ta tb acc 0 mm1 nm1)

/-- TMMAQ (R77). -/
def execTmmaq (c : CoreId) (tc ta tb : BitVec 3) (acc : Bool) (mm1 nm1 : Reg) (s : State) : Out :=
  issueOut s c (.tmmaq c tc ta tb acc mm1 nm1) (canvasBody c 2 tc ta tb acc 0 mm1 nm1)

/-- TFENCE: the core is frozen from the next beat on until the beat after the last write of its earlier commands (TFENCE
page). -/
def execTfence (c : CoreId) (s : State) : Out :=
  issueOut s c (.tfence c) (fun t b =>
    match (t.core c).lastWrite with
    | some w => .done (if b < w then t.modCore c (fun k => k.freeze .tfence (b + 1)) else t) .seq
    | none => .done t .seq)

/-- CANVAS_SLOT_RUN: the spur reaches slot beat 0 of the command at the head of the core's queue. The cells exchange their
sets, the command leaves the queue at the end of that beat, and its rows are read and written at the beats of R73 as the
core's time goes on (R54, R55, R59). -/
def execCanvasSlotRun (c : CoreId) (s : State) : Out :=
  match (s.core c).cq with
  | [] => .next s
  | h :: _ =>
    .next (((s.toBeat (coreDomain c) (h.start + 1)).settled c).modCore c (fun k =>
      k.paletteTo (Nat.max (s.beat (coreDomain c)) (h.start + 1))))

/-- CANVAS_MAP_COMMIT: the pending maps are requested for the next frame boundary; an earlier request is replaced (R66,
R70). -/
def execCanvasMapCommit (k : ClusterId) (s : State) : Out :=
  .next (s.modCluster k (fun cl =>
    { cl with commit := some ((s.beat (clusterSpur k) / 512 + 1) * 512, cl.pendingMaps) }))

/-- The queued commands of core number `i` are bound again under new maps that hold from boundary `f` on; the first one
without a slot and every later one are discarded (R71). -/
def rebind (m : Maps) (f i : Nat) : Nat → List CCmd → List CCmd
  | _, [] => []
  | lo, q :: qs =>
    let e := centOf q.entry
    match bindSlot m (some f) i e.quarter (isWide e.aty) (Nat.max lo f) with
    | none => []
    | some (start, slot, qtr) =>
      { entry := centPack { e with slot := slot, qtr := qtr }, start := start, done := f, got := [] } ::
        rebind m f i (start + 1) qs

/-- What an accepted commit does to a core's queue (R59, R71). -/
def Core.recommit (k : Core) (m : Maps) (f i : Nat) : Core :=
  let k1 := k.paletteTo f
  let q := rebind m f i 0 k1.cq
  let full : Bool := match k1.frozen with
    | some (.canvasFull, _) => true
    | _ => false
  if q.length = k1.cq.length then { k1 with cq := q }
  else { k1 with cq := q, cflags := k1.cflags ||| 1, clear := if full then Nat.max k1.clear (f + 1) else k1.clear }

/-- The spur of a cluster has come to beat `b`, and the results of its cores that are due by then have taken effect. -/
def State.clusterTo (s : State) (k b : Nat) : State :=
  (coresOf k).foldl (fun t c => t.settled c) (s.toBeat (clusterSpur k) b)

/-- MAP_COMMIT_APPLY (R70, R71): the request that stands before the boundary; a write in the boundary's own beat comes before what the
commit sets, and a request made by it is for the next one (R6). -/
def execMapCommitApply (k : ClusterId) (s : State) : Out :=
  let s0 := match (s.cluster k).commit with
    | some (f, _) => s.clusterTo k (f - 1)
    | none => s.clusterTo k 0
  match (s0.cluster k).commit with
  | none => .next s0
  | some (f, m) =>
    let s1 := s0.clusterTo k f
    let cl := s1.cluster k
    let later := if cl.commit = some (f, m) then none else cl.commit
    if m.ok then
      .next ((coresOf k).foldl (fun t c => t.modCore c (fun q => q.recommit m f (c % 16)))
        (s1.setCluster k { cl with commit := later, maps := m, mapsFrom := some f }))
    else .next (s1.setCluster k { cl with commit := later, maperr := true })

end Sys2Proof.Machine
end

