-- ==== Sys2Proof/Machine/Entry.lean ====
section
/-! DEFINITION. Entry to a handler (R172, R175, R183 to R189, R192), the ends of freezes (R59, R116 to R118), instruction
fetches that miss (R282) and translation walks (R206 to R210). -/

namespace Sys2Proof.Machine

/-! ### Entry -/

/-- The results due at or before active beat `a` take effect before a handler starts; behind one whose value is absent, the
scalar results wait (R116, R186). DEDUCED, log entry 22. -/
def State.landEntry (s : State) (c a : Nat) : State :=
  match (s.core c).absent a with
  | none => s.landAll c a
  | some due =>
    (s.landAll c (due - 1)).landIf c (fun p => p.due ≤ a && (match p.dst with
      | .sreg _ => false
      | _ => true))

/-- CAUSE of an exception; of an interrupt (R179). -/
def excCause (esc shd : Bool) (tgt : Nat) (e : Exc) : Nat :=
  esc.toNat * 2 ^ 62 + shd.toNat * 2 ^ 61 + tgt * 2 ^ 56 + e.ecode.toNat * 2 ^ 32 + e.code.toNat
def intCause (tgt n : Nat) : Nat := 2 ^ 63 + tgt * 2 ^ 56 + n

/-- A double fault at M (R189): the cluster's reset domain fires, or the boot cores restart. The manual does not say what the
record of a boot core's holds below SEQ. DESIGN CHOICE, log entry 13. DEDUCED, log entry 37. -/
def State.doubleFault (s : State) (c : Nat) : State :=
  if coreBoot c then
    let (v, s1) := s.takeFree
    let s2 := if s1.holder = some .summit then s1.dropSemaphore else s1
    (s2.record (wf v 63 60 % 5) (wf v 47 32) (errorCodes.getD (wf v 15 0 % errorCodes.length) 0)).bootCores
  else (s.modCore c (fun k => { k with exc := none })).fireCluster (clusterOf c) 0x3001

/-- The core enters a handler at level `l`; its save set and STAT are written in the beat before the first handler instruction
(R185, R186). -/
def State.enterAt (s : State) (c l cause : Nat) (faultv : Word) (restart : BitVec 48) (x offset : Nat) : State :=
  let s1 := s.toBeat (coreDomain c) (x + (s.core c).fcnt)
  (s1.landEntry c (x + 7)).modCore c (fun k => k.enter l cause faultv restart x offset)

/-- EXCEPTION_ENTRY (R172, R175, R185, R188): an exception that no shadow defers is taken at the higher of its target level
and the current one, at M by escalation from a live S level, and is a double fault at a live M level. -/
def execExceptionEntry (c : CoreId) (s : State) : Out :=
  match (s.core c).exc with
  | none => .next s
  | some e =>
    if e.deferred || !s.running c then .next s
    else
      let s1 := s.landEntry c e.x
      let k := s1.core c
      let tgt := targetLevel (coreBoot c) e.code.toNat k.level
      let l0 := Nat.max tgt k.level
      let esc := l0 = 1 && k.live 1
      let l := if esc then 3 else l0
      if l = 3 && k.live 3 then .next (s1.doubleFault c)
      else .next (s1.enterAt c l (excCause esc e.shd tgt e) e.faultv e.restart e.x (if esc then 0x100 else 0))

/-- DEFERRED_EXCEPTION: it is recognised at the first beat after the shadow (R192). -/
def execDeferredException (c : CoreId) (s : State) : Out :=
  match (s.core c).exc with
  | none => .next s
  | some e =>
    if !e.deferred then .next s
    else
      let x := (s.core c).shadow + 1
      let s1 := (s.landEntry c x).modCore c (fun k => { k with exc := some { e with deferred := false, shd := true, x := x } })
      .next (s1.toBeat (coreDomain c) (x + (s1.core c).fcnt))

/-- The interrupt that can be taken at beat `b` is: the instruction of that beat does not issue (R183, R184). DEDUCED, log entry 35. -/
def State.takeInterrupt (s : State) (c b : Nat) : State :=
  let k := s.core c
  match k.interrupt (coreBoot c) with
  | none => s
  | some (n, l) => s.enterAt c l (intCause (intTarget (coreBoot c) n) n) 0 k.pc (k.active b) 0x080

/-- An interrupt in a tile transfer at beat `p`: it is taken at that beat, or in the next one where a row moves in `p`; a row's
fault of the same beat goes first (R104, R105). DEDUCED, log entry 32. -/
def State.interruptRow (s : State) (c p : Nat) : State :=
  let moves (t : State) : Bool := match (t.core c).xfer with
    | some x => (if x.load then x.writeAt else if t.rowFails c x then none else t.rowDue c x) = some p
    | none => false
  let s1 := s.xferTo c p xferActs
  let q := if moves s1 then p + 1 else p
  let s2 := s1.xferTo c q xferActs
  match (s2.core c).xfer with
  | none => s2
  | some x =>
    if s2.faultDue c x = some q then s2.xferTo c (q + 1) xferActs
    else (s2.modCore c (fun k => k.stopXfer q)).takeInterrupt c q

/-- An interrupt in a TMVV or TMVT: it is taken between two of its steps, at beat `p` or, where a step is under way, after it
(R168, R183). DEDUCED, log entry 33. -/
def State.interruptMove (s : State) (c p : Nat) : State :=
  let s1 := s.modCore c (fun k => k.moveTo p)
  match (s1.core c).move with
  | none => s1
  | some m => let q := Nat.max p (m.last + 1); (s1.modCore c (fun k => k.stopMove q)).takeInterrupt c q

/-- INTERRUPT_ENTRY (R183): at an eligible boundary, at a row boundary of a tile transfer, or at a step boundary of a tile move. A core
that has been told to stop does that there (R388, R453).
DEDUCED, log entry 35. -/
def execInterruptEntry (c : CoreId) (s : State) : Out :=
  let k := s.core c
  let b := Nat.max (s.beat (coreDomain c)) k.next
  if !s.running c then .next s
  else if !coreBoot c && s.stopAsked (clusterOf c) then .next (s.tryStop c)
  else if k.xfer.isSome then
    .next (if k.atBoundary b && (k.interrupt (coreBoot c)).isSome then s.interruptRow c b else s)
  else if k.move.isSome then
    .next (if k.openAt (k.active k.next) && (k.interrupt (coreBoot c)).isSome then s.interruptMove c (s.beat (coreDomain c)) else s)
  else if (k.absent (k.active b)).isSome then .next s
  else
    let s1 := s.landAll c (k.active b)
    .next (if (s1.core c).boundary b then s1.takeInterrupt c b else s)

/-! ### The ends of freezes -/

/-- The beat at which a core's freeze ends, once that is known (R59, R116, R117, TFENCE page). DEDUCED, log entry 23. -/
def Core.freezeEnd (k : Core) (why : Freeze) (f now : Nat) : Option Nat :=
  match why with
  | .answer =>
    let due := k.pend.filter (fun p => p.due ≤ k.active f)
    if due.any (fun p => p.tag.isSome) then none
    else some (sameParity f (due.foldl (fun m p => Nat.max m p.ready) f))
  | .canvasFull =>
    match ((k.running ++ k.cq).map (·.start)).filter (f ≤ ·) with
    | x :: xs =>
      let left := xs.foldl Nat.min x + 1
      some (if k.clear ≠ 0 then Nat.min k.clear left else left)
    | [] => some (if k.clear ≠ 0 then k.clear else now)
  | .tfence => some (match k.lastWrite with
      | some w => Nat.max f (w + 1)
      | none => Nat.max f now)
  | _ => if k.clear = 0 then none else some (sameParity f (Nat.max f k.clear))

/-- FREEZE_END (R116, R117). A tile transfer whose row waited for a walk requests that row when it ends. DEDUCED, log entry 23. -/
def execFreezeEnd (c : CoreId) (s : State) : Out :=
  let s0 := s.settled c
  let k := s0.core c
  match k.frozen with
  | none => .next s0
  | some (why, f) =>
    match k.freezeEnd why f (s0.beat (coreDomain c)) with
    | none => .next s0
    | some e =>
      if !s0.running c then .next s0
      else
        let k1 := match k.xfer with
          | some x => { k with frozen := none, clear := 0, xfer := some { x with q := Nat.max x.q e } }
          | none => k.thaw f e
        .next ((s0.setCore c k1).toBeat (coreDomain c) e)

/-! ### Instruction fetch -/

/-- 2 KiB of lines of 128 bytes (R15). DESIGN CHOICE, log entry 12. -/
def icacheLines : Nat := 16
def Core.icacheAdd (k : Core) (line : Nat) : Core :=
  if k.icache.length < icacheLines then { k with icache := k.icache ++ [line] }
  else { k with icache := k.icache.set (Config.icacheVictim k.icache % icacheLines) line }

def pathFetchHit : Nat := 8

/-- The instruction at `pa` is looked for in the cluster cache, whose line fills the instruction cache (R223), then read at its home: the
error code of the answer, the path count, the state; nothing where an earlier request stands before it (R282). DEDUCED, log entry 29. -/
def State.fetchLine (s : State) (c : Nat) (pa : Word) (cls : BitVec 2) : Option (Nat × Nat × State) :=
  let far (t : State) : Option (Nat × Nat × State) :=
    (t.readNow (localOf pa) (if coreBoot c then .summit else .core c) cls).map (fun (code, p, t1) => (code, 2 + pathOf c p, t1))
  if coreBoot c then far s
  else
    let k := clusterOf c
    let need : BitVec 128 := BitVec.ofNat 128 (byteMask (pa.toNat % 128) 4)
    match (s.cluster k).cfind (pa.toNat / 128) with
    | none => far s
    | some l =>
      if need &&& ~~~l.valid ≠ 0 then far s
      else match l.check (wordsOf l.valid) with
        | .good => some (0, pathFetchHit, s)
        | .gone => far (s.cleanParity k (pa.toNat / 128))
        | .fires => far (s.fireCluster k 0x2001)

/-- The core's freeze from `f` ends at the first beat of its parity from `x` on with exception `code` at address `va`. -/
def Core.thawFault (k : Core) (f x code : Nat) (va : Word) : Core :=
  let e := sameParity f (Nat.max f x)
  (k.thaw f e).raise e code va 0

/-- ICACHE_FILL: the missing instruction is present, and the freeze can end; an error answer is a fetch access fault (R235,
R282). One answered Fenced is asked for again (R321). DEDUCED, log entry 36. -/
def execIcacheFill (c : CoreId) (s : State) (arrival : Nat := 0) (contended : Bool := false) : Out :=
  let k := s.core c
  match k.frozen, s.access c (w64 k.pc.toNat) .fetch .fetch with
  | some (.icache, f), .ok pa pg =>
    if k.clear ≠ 0 then .next s
    else
      match s.fetchLine c pa pg.cls with
      | none => .next s
      | some (code, p, s1) =>
        let (x, late) := s1.delivery c f (f + p) arrival (!coreBoot c) contended
        let s2 := s1.lateCount c late
        if code = 0 then .next (s2.modCore c (fun q => { q.icacheAdd (localOf pa / 128) with clear := x }))
        else if code = codeFenced then .next s1
        else .next (s2.modCore c (fun q => q.thawFault f x causeFetchAccess (w64 k.pc.toNat)))
  | _, _ => .next s

/-! ### Translation walks (R206 to R210) -/

/-- The outcome of a walk: a leaf, a failure, or a read that is to be made again. -/
inductive Walk where
  | leaf (t : Tlb)
  | fails
  | again
deriving DecidableEq, Repr

/-- The index of an address at level `lv` (R206). -/
def walkIndex (lv : Nat) (va : Word) : Nat := if lv = 1 then wf va 47 37 else if lv = 2 then wf va 36 26 else wf va 25 16

/-- One level after another, `n` of them left, from the table at `base`; `sum` counts the reads' paths. DEDUCED, log entry 36. -/
def State.walkFrom (s : State) (c : Nat) (va : Word) (lv base sum : Nat) : Nat → Walk × Nat × State
  | 0 => (.fails, sum, s)
  | n + 1 =>
    let a := base + 8 * walkIndex lv va
    if dramSize ≤ a then (.fails, sum, s)
    else
      match s.readNow a (if coreBoot c then .summit else .core c) Config.untranslatedClass with
      | none => (.again, sum, s)
      | some (code, p, s1) =>
      if code = codeFenced then (.again, sum, s)
      else if code ≠ 0 then (.fails, sum + p, s1)
      else
        let e := w64 (s1.readMem a 8)
        match pteOf lv e with
        | .bad => (.fails, sum + p, s1)
        | .pointer next => State.walkFrom s1 c va (lv + 1) next (sum + p) n
        | .leaf =>
          (.leaf { vpn := if lv = 2 then wf va 47 26 else wf va 47 16, big := lv = 2
                   asid := BitVec.ofNat 16 (s.core c).asid.toNat, leaf := e }, sum + p, s1)

/-- The translation cache holds 64 entries; a fill replaces the oldest-filled one (R210). -/
def tlbAdd (t : Tlb) (ts : List Tlb) : List Tlb := (if ts.length < 64 then ts else ts.drop 1) ++ [t]

/-- The access whose walk failed ends: a PREF is discarded, a row fails at its place in the transfer, anything else raises its
page fault (R125, R209). -/
def Core.walkFailed (k : Core) (va : Word) (acc : Acc) (f x : Nat) : Core :=
  let e := sameParity f (Nat.max f x)
  match k.xfer, acc with
  | some t, _ => { k with frozen := none, clear := 0, xfer := some { t with fault := some (t.next, acc.pageCause, va, 0, e) } }
  | none, .pref =>
    let k1 := ({ k.thaw f e with tprog := wsetb k.tprog 15 false }).retire .seq
    { k1 with next := Nat.max k1.next (e + 1), noIntr := false }
  | none, .fetch => k.thawFault f x acc.pageCause va
  | none, _ => { k with tprog := wsetb k.tprog 15 false }.thawFault f x acc.pageCause va

/-- TRANSLATION_WALK: the walk of a frozen access completes (R210, R282). A leaf that forbids the access fills the translation cache too,
and the access raises as it issues again: the model's choice. DEDUCED, log entry 36. DESIGN CHOICE, log entry 85. -/
def execTranslationWalk (c : CoreId) (s : State) (arrival : Nat := 0) (contended : Bool := false) : Out :=
  let k := s.core c
  match k.frozen with
  | some (.walk va acc, f) =>
    if k.clear ≠ 0 then .next s
    else
      match s.walkFrom c va 1 (wf k.atb 51 14 * 2 ^ 14) 4 3 with
      | (.leaf t, sum, s1) =>
        let (x, late) := s1.delivery c f (f + sum) arrival (!coreBoot c) contended
        .next ((s1.lateCount c late).modCore c (fun q => { q with tlb := tlbAdd t q.tlb, clear := x }))
      | (.fails, sum, s1) =>
        let (x, late) := s1.delivery c f (f + sum) arrival (!coreBoot c) contended
        .next ((s1.lateCount c late).modCore c (fun q => q.walkFailed va acc f x))
      | (.again, _, s1) => .next s1
  | _ => .next s

end Sys2Proof.Machine
end

