-- ==== Sys2Proof/Machine/Flags.lean ====
section
/-! DEFINITION. The flags of FCTL (R35, R37): those that a vector instruction's active lanes raise, and when they are
set (R163). -/

namespace Sys2Proof.Machine

/-- The flags that any of the lanes raises (R37). -/
def orFlags (fs : List FF) : FF := fs.foldl (· ||| ·) 0

/-- Flags raised by an instruction issued at active beat `a` with B collector beats are set at a + 4 + 2B (R163). -/
def Core.raiseFlags (k : Core) (a beats : Nat) (fl : FF) : Core :=
  if fl = 0 then k
  else { k with pend := addPend { due := a + 4 + 2 * beats, dst := .fflags, tag := none, val := fl.zeroExtend 64 } k.pend }

end Sys2Proof.Machine
end

