-- ==== Sys2Proof/Machine/Vector.lean ====
section
/-! DEFINITION. The long vectors: VSETVL and every operation of R156, with the arithmetic of R157 and R158 and the
timing, faults and configuration of R144 to R169. -/

namespace Sys2Proof.Machine

/-- The groups and the step class of a vector instruction; `apart`: no destination may share a register with a source
or another destination (R152). -/
structure VShape where
  cls : VClass
  src : List Grp
  dst : List Grp
  apart : Bool

def Grp.meetsAny (d : Grp) (gs : List Grp) : Bool := gs.any (fun g => d.meets g)

/-- R152. -/
def VShape.ok (v : VShape) : Bool :=
  v.src.all Grp.ok && v.dst.all Grp.ok &&
  (!v.apart || (v.dst.all (fun d => !Grp.meetsAny d v.src) &&
    (match v.dst with
     | [a, b] => !a.meets b
     | _ => true)))

/-- The beat of the last palette access, for a final step at `f` that writes `line` (R89): that step, or where it writes a mask
or a scalar register the step before; an instruction without palette accesses leaves the earlier one's. -/
def lastAccess (before : Nat) (sh : VShape) (f : Nat) (line : Option Nat) : Nat :=
  if line.isSome then f else if sh.cls = VClass.maskOnly then before else f - 2

/-- What a vector instruction does: the core with its lines and masks written, the flags raised, and a scalar result. -/
structure VOut where
  core : Core
  flags : FF := 0
  rd : Option Word := none

/-- A vector instruction at its issue beat (R155, R156, R159 to R167): illegal words and configurations, the overrun
fault, its lines, its flags and results, and the beat of its final step. -/
def vecBody (c : CoreId) (i : Instr) (major func : Nat) (f : VF) (cfg : VCfg → Bool) (shape : VCfg → VShape)
    (run : Core → VCfg → VOut) (s : State) (b : Nat) : Res :=
  let k := s.core c
  let v := k.vc
  let sh := shape v
  if isBoot c || !vecFieldsLegal major func f || !cfg v || !sh.ok then .raise causeIllegal (wordOf i)
  else
    let c0 := oddFrom b
    if c0 < k.vfinal then .raise causeOverrun 0
    else
      let prior := if c0 = k.vfinal then k.vfinalLine else none
      let beats := sh.cls.beats v.g sh.src sh.dst prior
      let a := k.active b
      let o := run k v
      let k1 := o.core.raiseFlags a beats o.flags
      let k2 := match o.rd with
        | some w => k1.result a (if sh.cls = VClass.maskOnly then 6 else 4 + 2 * beats) f.vd w
        | none => k1
      .done (s.setCore c { k2 with
        vfinal := c0 + 2 * beats, vlast := lastAccess k2.vlast sh (c0 + 2 * beats) (sh.cls.write v.g sh.dst (sh.cls.steps v.g))
        vfinalLine := sh.cls.write v.g sh.dst (sh.cls.steps v.g) }) .seq

/-! ### Lanes -/

/-- The second source: elements of vs2, or the low SEW bits of s[rs2] in every element (R155). -/
def srcB (k : Core) (v : VCfg) (f : VF) : List Nat :=
  if f.x then List.replicate v.vlmax ((k.sreg f.vs2).toNat % 2 ^ v.sew) else k.elems f.vs2.toNat v.g v.sew v.vlmax

/-- Which elements are active (R153). -/
def actives (k : Core) (v : VCfg) (f : VF) : List Bool := (List.range v.vlmax).map (k.isActive v.vl f.km.toNat)

/-- One operation over the lanes; an inactive lane keeps the element of `ds` if `keepD` and is zero otherwise. -/
def lanes (op : Nat → Nat → Nat → Nat × FF) (keepD : Bool) : List Bool → List Nat → List Nat → List Nat → List (Nat × FF)
  | [], _, _, _ => []
  | act :: acts, as, bs, ds =>
    (if act then op (as.headD 0) (bs.headD 0) (ds.headD 0) else (if keepD then ds.headD 0 else 0, 0)) ::
      lanes op keepD acts as.tail bs.tail ds.tail

/-- The groups of a Basic instruction. -/
def basicShape (f : VF) (one reads : Bool) (v : VCfg) : VShape :=
  let vd : Grp := (f.vd.toNat, v.g)
  { cls := .basic, apart := false
    src := (f.vs1.toNat, v.g) :: ((if one || f.x then [] else [(f.vs2.toNat, v.g)]) ++ (if reads then [vd] else []))
    dst := [vd] }

/-- A lane operation on SEW-wide elements with a SEW-wide destination group. -/
def laneRun (f : VF) (one reads : Bool) (op : Core → VCfg → Nat → Nat → Nat → Nat × FF) (k : Core) (v : VCfg) : VOut :=
  let as := k.elems f.vs1.toNat v.g v.sew v.vlmax
  let bs := if one then [] else srcB k v f
  let ds := if reads then k.elems f.vd.toNat v.g v.sew v.vlmax else []
  let rs := lanes (op k v) reads (actives k v f) as bs ds
  { core := k.setElems f.vd.toNat v.g v.sew (rs.map (·.1)), flags := orFlags (rs.map (·.2)) }

def anyCfg (_ : VCfg) : Bool := true

/-- A two-source integer operation (major 0x31). -/
def intOp (c : CoreId) (i : Instr) (func : Nat) (f : VF) (op : Nat → Nat → Nat → Nat) : State → Nat → Res :=
  vecBody c i 0x31 func f anyCfg (basicShape f false false) (laneRun f false false (fun _ v a b _ => (op v.sew a b, 0)))

/-- A one-source integer operation. -/
def intOp1 (c : CoreId) (i : Instr) (major func : Nat) (f : VF) (op : Nat → Nat → Nat) : State → Nat → Res :=
  vecBody c i major func f anyCfg (basicShape f true false) (laneRun f true false (fun _ v a _ _ => (op v.sew a, 0)))

/-- A two-source floating-point operation (major 0x32) with FCTL.RM. -/
def fltOp (c : CoreId) (i : Instr) (func : Nat) (f : VF) (op : Fmt → RM → Nat → Nat → Nat × FF) : State → Nat → Res :=
  vecBody c i 0x32 func f VCfg.isFloat (basicShape f false false)
    (laneRun f false false (fun k v a b _ => op v.f k.rm a b))

/-! ### Integer lanes (R156) -/

def vSub (n a b : Nat) : Nat := (a + 2 ^ n - b) % 2 ^ n
def vMulhS (n a b : Nat) : Nat := ofSint n (sint n a * sint n b / ((2 ^ n : Nat) : Int))
def vSra (n a b : Nat) : Nat := ofSint n (sint n a / ((2 ^ (b % n) : Nat) : Int))
def vMinS (n a b : Nat) : Nat := if sint n a < sint n b then a else b
def vMaxS (n a b : Nat) : Nat := if sint n a < sint n b then b else a

/-- VADD (R156). -/
def execVadd (c : CoreId) (f : VF) (s : State) : Out :=
  issueOut s c (.vadd c f) (intOp c (.vadd c f) 0x00 f (fun n a b => (a + b) % 2 ^ n))

/-- VSUB (R156). -/
def execVsub (c : CoreId) (f : VF) (s : State) : Out :=
  issueOut s c (.vsub c f) (intOp c (.vsub c f) 0x01 f (fun n a b => vSub n a b))

/-- VMUL (R156). -/
def execVmul (c : CoreId) (f : VF) (s : State) : Out :=
  issueOut s c (.vmul c f) (intOp c (.vmul c f) 0x02 f (fun n a b => a * b % 2 ^ n))

/-- VMULH (R156). -/
def execVmulh (c : CoreId) (f : VF) (s : State) : Out :=
  issueOut s c (.vmulh c f) (intOp c (.vmulh c f) 0x03 f (fun n a b => vMulhS n a b))

/-- VMULHU (R156). -/
def execVmulhu (c : CoreId) (f : VF) (s : State) : Out :=
  issueOut s c (.vmulhu c f) (intOp c (.vmulhu c f) 0x04 f (fun n a b => a * b / 2 ^ n))

/-- VAND (R156). -/
def execVand (c : CoreId) (f : VF) (s : State) : Out :=
  issueOut s c (.vand c f) (intOp c (.vand c f) 0x05 f (fun _ a b => a &&& b))

/-- VOR (R156). -/
def execVor (c : CoreId) (f : VF) (s : State) : Out :=
  issueOut s c (.vor c f) (intOp c (.vor c f) 0x06 f (fun _ a b => a ||| b))

/-- VXOR (R156). -/
def execVxor (c : CoreId) (f : VF) (s : State) : Out :=
  issueOut s c (.vxor c f) (intOp c (.vxor c f) 0x07 f (fun _ a b => a ^^^ b))

/-- VSLL (R156). -/
def execVsll (c : CoreId) (f : VF) (s : State) : Out :=
  issueOut s c (.vsll c f) (intOp c (.vsll c f) 0x08 f (fun n a b => a * 2 ^ (b % n) % 2 ^ n))

/-- VSRL (R156). -/
def execVsrl (c : CoreId) (f : VF) (s : State) : Out :=
  issueOut s c (.vsrl c f) (intOp c (.vsrl c f) 0x09 f (fun n a b => a / 2 ^ (b % n)))

/-- VSRA (R156). -/
def execVsra (c : CoreId) (f : VF) (s : State) : Out :=
  issueOut s c (.vsra c f) (intOp c (.vsra c f) 0x0A f (fun n a b => vSra n a b))

/-- VMIN (R156). -/
def execVmin (c : CoreId) (f : VF) (s : State) : Out :=
  issueOut s c (.vmin c f) (intOp c (.vmin c f) 0x0B f (fun n a b => vMinS n a b))

/-- VMAX (R156). -/
def execVmax (c : CoreId) (f : VF) (s : State) : Out :=
  issueOut s c (.vmax c f) (intOp c (.vmax c f) 0x0C f (fun n a b => vMaxS n a b))

/-- VMINU (R156). -/
def execVminu (c : CoreId) (f : VF) (s : State) : Out :=
  issueOut s c (.vminu c f) (intOp c (.vminu c f) 0x0D f (fun _ a b => if a < b then a else b))

/-- VMAXU (R156). -/
def execVmaxu (c : CoreId) (f : VF) (s : State) : Out :=
  issueOut s c (.vmaxu c f) (intOp c (.vmaxu c f) 0x0E f (fun _ a b => if a < b then b else a))

/-- VMV (R156). -/
def execVmv (c : CoreId) (f : VF) (s : State) : Out :=
  issueOut s c (.vmv c f) (intOp1 c (.vmv c f) 0x31 0x0F f (fun _ a => a))

/-- VBCAST: s[rs2] in every active element (R156). -/
def execVbcast (c : CoreId) (f : VF) (s : State) : Out :=
  issueOut s c (.vbcast c f) (vecBody c (.vbcast c f) 0x31 0x10 f anyCfg
    (fun v => { cls := .basic, src := [], dst := [(f.vd.toNat, v.g)], apart := false })
    (fun k v =>
      let rs := lanes (fun _ b _ => (b, 0)) false (actives k v f) [] (srcB k v f) []
      { core := k.setElems f.vd.toNat v.g v.sew (rs.map (·.1)) }))

/-- VSEL: bit i of k_KM chooses a or b, for every i below VL (R156). -/
def selectLanes (k : Core) (v : VCfg) (f : VF) : List Nat → List Nat → List Nat → List Nat
  | [], _, _ => []
  | i :: is, as, bs =>
    (if v.vl ≤ i then 0 else if (k.mask f.km.toNat).getLsbD i then as.headD 0 else bs.headD 0) ::
      selectLanes k v f is as.tail bs.tail

/-- VSEL (R156). -/
def execVsel (c : CoreId) (f : VF) (s : State) : Out :=
  issueOut s c (.vsel c f) (vecBody c (.vsel c f) 0x31 0x11 f anyCfg (basicShape f false false)
    (fun k v =>
      let els := selectLanes k v f (List.range v.vlmax) (k.elems f.vs1.toNat v.g v.sew v.vlmax) (srcB k v f)
      { core := k.setElems f.vd.toNat v.g v.sew els }))

/-! ### Floating-point lanes (R38, R41) -/

/-- VFADD (R38). -/
def execVfadd (c : CoreId) (f : VF) (s : State) : Out :=
  issueOut s c (.vfadd c f) (fltOp c (.vfadd c f) 0x00 f (fun fm rm a b => fAdd fm rm a b))

/-- VFSUB (R38). -/
def execVfsub (c : CoreId) (f : VF) (s : State) : Out :=
  issueOut s c (.vfsub c f) (fltOp c (.vfsub c f) 0x01 f (fun fm rm a b => fSub fm rm a b))

/-- VFMUL (R38). -/
def execVfmul (c : CoreId) (f : VF) (s : State) : Out :=
  issueOut s c (.vfmul c f) (fltOp c (.vfmul c f) 0x02 f (fun fm rm a b => fMul fm rm a b))

/-- The shape of an instruction that reads vd beside its sources: three-source, or Basic with X = 1 (R156, R161). -/
def threeShape (f : VF) (v : VCfg) : VShape :=
  let vd : Grp := (f.vd.toNat, v.g)
  if f.x then basicShape f false true v
  else { cls := .three, src := [(f.vs1.toNat, v.g), (f.vs2.toNat, v.g), vd], dst := [vd], apart := false }

/-- VFMA: a × b + vd rounded once (R38). -/
def execVfma (c : CoreId) (f : VF) (s : State) : Out :=
  issueOut s c (.vfma c f) (vecBody c (.vfma c f) 0x32 0x03 f VCfg.isFloat (threeShape f)
    (laneRun f false true (fun k v a b d => fMa v.f k.rm a b d)))

/-- The Long class (R161). -/
def longShape (f : VF) (one : Bool) (v : VCfg) : VShape :=
  let sh := basicShape f one false v
  { sh with cls := VClass.long }

/-- VFDIV (R38). -/
def execVfdiv (c : CoreId) (f : VF) (s : State) : Out :=
  issueOut s c (.vfdiv c f) (vecBody c (.vfdiv c f) 0x32 0x04 f VCfg.isFloat (longShape f false)
    (laneRun f false false (fun k v a b _ => fDiv v.f k.rm a b)))

/-- VFSQRT (R38). -/
def execVfsqrt (c : CoreId) (f : VF) (s : State) : Out :=
  issueOut s c (.vfsqrt c f) (vecBody c (.vfsqrt c f) 0x32 0x05 f VCfg.isFloat (longShape f true)
    (laneRun f true false (fun k v a _ _ => fSqrt v.f k.rm a)))

/-- VFMIN (R41). -/
def execVfmin (c : CoreId) (f : VF) (s : State) : Out :=
  issueOut s c (.vfmin c f) (fltOp c (.vfmin c f) 0x06 f (fun fm _ a b => fMinMax fm false a b))

/-- VFMAX (R41). -/
def execVfmax (c : CoreId) (f : VF) (s : State) : Out :=
  issueOut s c (.vfmax c f) (fltOp c (.vfmax c f) 0x07 f (fun fm _ a b => fMinMax fm true a b))

/-- VFSGNJ (R156). -/
def execVfsgnj (c : CoreId) (f : VF) (s : State) : Out :=
  issueOut s c (.vfsgnj c f) (fltOp c (.vfsgnj c f) 0x08 f (fun fm _ a b => (fm.pack (fm.neg b) (a % 2 ^ fm.signBit), 0)))

/-- VFSGNJN (R156). -/
def execVfsgnjn (c : CoreId) (f : VF) (s : State) : Out :=
  issueOut s c (.vfsgnjn c f) (fltOp c (.vfsgnjn c f) 0x09 f (fun fm _ a b => (fm.pack (!fm.neg b) (a % 2 ^ fm.signBit), 0)))

/-- VFSGNJX (R156). -/
def execVfsgnjx (c : CoreId) (f : VF) (s : State) : Out :=
  issueOut s c (.vfsgnjx c f) (fltOp c (.vfsgnjx c f) 0x0A f (fun fm _ a b => (fm.pack (fm.neg a != fm.neg b) (a % 2 ^ fm.signBit), 0)))

/-! ### Widening, dot products, pairs -/

/-- Sources of the group's width, a destination of double width (R152). -/
def widenShape (f : VF) (one : Bool) (v : VCfg) : VShape :=
  { cls := .widen2, src := (f.vs1.toNat, v.g) :: (if one || f.x then [] else [(f.vs2.toNat, v.g)])
    dst := [(f.vd.toNat, 2 * v.g)], apart := true }

/-- Lanes into elements of `w` bits in a group of size `h`. -/
def widenRun (f : VF) (one : Bool) (h w : VCfg → Nat) (op : Core → VCfg → Nat → Nat → Nat × FF) (k : Core) (v : VCfg) : VOut :=
  let as := k.elems f.vs1.toNat v.g v.sew v.vlmax
  let bs := if one then [] else srcB k v f
  let rs := lanes (fun a b _ => op k v a b) false (actives k v f) as bs []
  { core := k.setElems f.vd.toNat (h v) (w v) (rs.map (·.1)), flags := orFlags (rs.map (·.2)) }

def intWiden (c : CoreId) (i : Instr) (func : Nat) (f : VF) (op : Nat → Nat → Nat → Nat) : State → Nat → Res :=
  vecBody c i 0x33 func f (fun v => v.sew ≠ 64) (widenShape f false)
    (widenRun f false (fun v => 2 * v.g) (fun v => 2 * v.sew) (fun _ v a b => (op v.sew a b, 0)))

/-- VWMUL (R156). -/
def execVwmul (c : CoreId) (f : VF) (s : State) : Out :=
  issueOut s c (.vwmul c f) (intWiden c (.vwmul c f) 0x00 f (fun n a b => ofSint (2 * n) (sint n a * sint n b)))

/-- VWMULU (R156). -/
def execVwmulu (c : CoreId) (f : VF) (s : State) : Out :=
  issueOut s c (.vwmulu c f) (intWiden c (.vwmulu c f) 0x01 f (fun _ a b => a * b))

/-- VWADD (R156). -/
def execVwadd (c : CoreId) (f : VF) (s : State) : Out :=
  issueOut s c (.vwadd c f) (intWiden c (.vwadd c f) 0x02 f (fun n a b => ofSint (2 * n) (sint n a + sint n b)))

/-- A product of two 16-bit values delivered as FP32 (R156, R33). -/
def fWideMul (fm : Fmt) (rm : RM) (a b : Nat) : Nat × FF :=
  match [a, b].find? fm.isNan with
  | some x => (nanConv fm fp32 x, if fm.isSnan a || fm.isSnan b then fNV else 0)
  | none => fMulTo fm fp32 rm a b

/-- VFWMUL (R156). -/
def execVfwmul (c : CoreId) (f : VF) (s : State) : Out :=
  issueOut s c (.vfwmul c f) (vecBody c (.vfwmul c f) 0x33 0x03 f (fun v => v.sew = 16) (widenShape f false)
    (widenRun f false (fun v => 2 * v.g) (fun _ => 32) (fun k v a b => fWideMul v.f k.rm a b)))

/-- A dot product into 32-bit lanes (R157). -/
def dotOp (c : CoreId) (i : Instr) (func : Nat) (f : VF) (op : Nat → Nat → Nat → Nat) : State → Nat → Res :=
  vecBody c i 0x33 func f (fun v => v.sew = 32) (threeShape f) (laneRun f false true (fun _ _ a b d => (op a b d, 0)))

/-- The sum of VDOT4, saturated once (R157). -/
def dot4 (a b d : Nat) : Nat :=
  sat32 (sint 32 d + ((List.range 4).map (fun j => sint 8 (byteOf a j) * sint 8 (byteOf b j))).foldl (· + ·) 0)

/-- The products of a VFDOT lane: 32 / w elements of `w` bits (R157). -/
def dotProducts (fm : Fmt) (a b : Nat) : List Val :=
  (List.range (32 / fm.width)).map (fun j => (fm.val (unpackAt fm.width j a)).mul (fm.val (unpackAt fm.width j b)))

/-- VDOT4 (R157). -/
def execVdot4 (c : CoreId) (f : VF) (s : State) : Out :=
  issueOut s c (.vdot4 c f) (dotOp c (.vdot4 c f) 0x10 f dot4)

/-- VFDOT4E4M3: the group rule over the lane's products and vd (R46, R157). -/
def execVfdot4E4m3 (c : CoreId) (f : VF) (s : State) : Out :=
  issueOut s c (.vfdot4E4m3 c f) (dotOp c (.vfdot4E4m3 c f) 0x11 f (fun a b d => groupRule (dotProducts e4m3 a b) (some d)))

/-- VFDOT4E5M2: the group rule over the lane's products and vd (R46, R157). -/
def execVfdot4E5m2 (c : CoreId) (f : VF) (s : State) : Out :=
  issueOut s c (.vfdot4E5m2 c f) (dotOp c (.vfdot4E5m2 c f) 0x12 f (fun a b d => groupRule (dotProducts e5m2 a b) (some d)))

/-- VFDOT2BF16: the group rule over the lane's products and vd (R46, R157). -/
def execVfdot2Bf16 (c : CoreId) (f : VF) (s : State) : Out :=
  issueOut s c (.vfdot2Bf16 c f) (dotOp c (.vfdot2Bf16 c f) 0x13 f (fun a b d => groupRule (dotProducts bf16 a b) (some d)))

/-- VFDOT2FP16: the group rule over the lane's products and vd (R46, R157). -/
def execVfdot2Fp16 (c : CoreId) (f : VF) (s : State) : Out :=
  issueOut s c (.vfdot2Fp16 c f) (dotOp c (.vfdot2Fp16 c f) 0x14 f (fun a b d => groupRule (dotProducts fp16 a b) (some d)))

/-- Compensated pairs into two groups (R43 to R45). -/
def pairOp (c : CoreId) (i : Instr) (func : Nat) (f : VF) (op : Nat → Nat → Nat × Nat × FF) : State → Nat → Res :=
  vecBody c i 0x34 func f (fun v => v.isF32 && v.g ≤ 4 && f.vd.toNat % (2 * v.g) = 0)
    (fun v => { cls := .pair, src := [(f.vs1.toNat, v.g), (f.vs2.toNat, v.g)]
                dst := [(f.vd.toNat, v.g), (f.vd.toNat + v.g, v.g)], apart := true })
    (fun k v =>
      let as := k.elems f.vs1.toNat v.g v.sew v.vlmax
      let bs := srcB k v f
      let acts := actives k v f
      let his := lanes (fun a b _ => let (h, _, fl) := op a b; (h, fl)) false acts as bs []
      let los := lanes (fun a b _ => ((op a b).2.1, 0)) false acts as bs []
      { core := (k.setElems f.vd.toNat v.g v.sew (his.map (·.1))).setElems (f.vd.toNat + v.g) v.g v.sew (los.map (·.1))
        flags := orFlags (his.map (·.2)) })

/-- VADDP (R43). -/
def execVaddp (c : CoreId) (f : VF) (s : State) : Out :=
  issueOut s c (.vaddp c f) (pairOp c (.vaddp c f) 0x00 f twoSum)

/-- VMULP (R44). -/
def execVmulp (c : CoreId) (f : VF) (s : State) : Out :=
  issueOut s c (.vmulp c f) (pairOp c (.vmulp c f) 0x01 f twoProd)

/-! ### Conversions (R33, R38 to R40) -/

/-- VCVT.F32.H (R156). -/
def execVcvtF32H (c : CoreId) (f : VF) (s : State) : Out :=
  issueOut s c (.vcvtF32H c f) (vecBody c (.vcvtF32H c f) 0x35 0x00 f (fun v => v.sew = 16) (widenShape f true)
    (widenRun f true (fun v => 2 * v.g) (fun _ => 32) (fun k v a _ => fConv v.f fp32 k.rm k.sate4 a)))

/-- VCVT.F32.Q: VGF at most 2 (R156). -/
def execVcvtF32Q (c : CoreId) (f : VF) (s : State) : Out :=
  issueOut s c (.vcvtF32Q c f) (vecBody c (.vcvtF32Q c f) 0x35 0x02 f (fun v => v.sew = 8 && v.g ≤ 2)
    (fun v => { cls := .widen4, src := [(f.vs1.toNat, v.g)], dst := [(f.vd.toNat, 4 * v.g)], apart := true })
    (widenRun f true (fun v => 4 * v.g) (fun _ => 32) (fun k v a _ => fConv v.f fp32 k.rm k.sate4 a)))

/-- FP32 elements of a group `r` times as wide, into elements of SEW bits. -/
def narrowRun (f : VF) (r : Nat) (k : Core) (v : VCfg) : VOut :=
  let as := k.elems f.vs1.toNat (r * v.g) 32 v.vlmax
  let rs := lanes (fun a _ _ => fConv fp32 v.f k.rm k.sate4 a) false (actives k v f) as [] []
  { core := k.setElems f.vd.toNat v.g v.sew (rs.map (·.1)), flags := orFlags (rs.map (·.2)) }

/-- VCVT.H.F32 (R156). -/
def execVcvtHF32 (c : CoreId) (f : VF) (s : State) : Out :=
  issueOut s c (.vcvtHF32 c f) (vecBody c (.vcvtHF32 c f) 0x35 0x01 f (fun v => v.sew = 16)
    (fun v => { cls := .narrow2, src := [(f.vs1.toNat, 2 * v.g)], dst := [(f.vd.toNat, v.g)], apart := true })
    (narrowRun f 2))

/-- VCVT.Q.F32: VGF at most 2 (R156). -/
def execVcvtQF32 (c : CoreId) (f : VF) (s : State) : Out :=
  issueOut s c (.vcvtQF32 c f) (vecBody c (.vcvtQF32 c f) 0x35 0x03 f (fun v => v.sew = 8 && v.g ≤ 2)
    (fun v => { cls := .narrow4, src := [(f.vs1.toNat, 4 * v.g)], dst := [(f.vd.toNat, v.g)], apart := true })
    (narrowRun f 4))

/-- VCVT.I32.F32 (R38). -/
def execVcvtI32F32 (c : CoreId) (f : VF) (s : State) : Out :=
  issueOut s c (.vcvtI32F32 c f) (vecBody c (.vcvtI32F32 c f) 0x35 0x04 f (fun v => v.sew = 32) (basicShape f true false)
    (laneRun f true false (fun k _ a _ _ => fToI32 k.rm a)))

/-- VCVT.F32.I32 (R38). -/
def execVcvtF32I32 (c : CoreId) (f : VF) (s : State) : Out :=
  issueOut s c (.vcvtF32I32 c f) (vecBody c (.vcvtF32I32 c f) 0x35 0x05 f (fun v => v.sew = 32) (basicShape f true false)
    (laneRun f true false (fun k _ a _ _ => i32ToF k.rm a)))

/-- Blocks of 32 elements converted one after another (R39): scales, elements, flags. -/
def mxBlocks (fm : Fmt) (t : MxElem) : Nat → List Nat → List Nat × List Nat × FF
  | 0, _ => ([], [], 0)
  | n + 1, xs =>
    let (sc, els, fl) := mxBlock fm t (xs.take 32)
    let (scs, rest, fl') := mxBlocks fm t n (xs.drop 32)
    (sc :: scs, els ++ rest, fl ||| fl')

def mxCfg (v : VCfg) : Bool := v.isFloat && v.vlmax ≤ 256

/-- VCVT.F2MX (its page): inactive elements enter as +0. -/
def execVcvtF2mx (c : CoreId) (ty : Fin 6) (f : VF) (s : State) : Out :=
  issueOut s c (.vcvtF2mx c ty f) (vecBody c (.vcvtF2mx c ty f) 0x35 (0x08 + ty.val) f mxCfg
    (fun v => { cls := .toMx, src := [(f.vs1.toNat, v.g)], dst := [(f.vd.toNat, 1), (f.vs2.toNat, 1)], apart := true })
    (fun k v =>
      let t := mxElem ty.val
      let xs := (lanes (fun a _ _ => (a, 0)) false (actives k v f) (k.elems f.vs1.toNat v.g v.sew v.vlmax) [] []).map (·.1)
      let (scs, els, fl) := mxBlocks v.f t (v.vlmax / 32) xs
      { core := (k.setVreg f.vd.toNat (packAll t.bits els)).setLine (vregKey f.vs2.toNat 0) (BitVec.ofNat 512 (packAll 8 scs))
        flags := fl }))

/-- VCVT.MX2F (its page). -/
def execVcvtMx2f (c : CoreId) (ty : Fin 6) (f : VF) (s : State) : Out :=
  issueOut s c (.vcvtMx2f c ty f) (vecBody c (.vcvtMx2f c ty f) 0x35 (0x10 + ty.val) f mxCfg
    (fun v => { cls := .fromMx, src := [(f.vs1.toNat, 1), (f.vs2.toNat, 1)], dst := [(f.vd.toNat, v.g)], apart := true })
    (fun k v =>
      let t := mxElem ty.val
      let ve := k.vreg f.vs1.toNat
      let sc := (k.line (vregKey f.vs2.toNat 0)).toNat
      let els := (List.range v.vlmax).map (fun i => unpackAt t.bits i ve)
      let scs := (List.range v.vlmax).map (fun i => byteOf sc (i / 32))
      let rs := lanes (fun a x _ => mxToFloat t v.f k.rm a x) false (actives k v f) els scs []
      { core := k.setElems f.vd.toNat v.g v.sew (rs.map (·.1)), flags := orFlags (rs.map (·.2)) }))

/-! ### Comparisons and masks -/

/-- A comparison into bit i of kd; every other bit is 0 (R153, R156). -/
def cmpOp (c : CoreId) (i : Instr) (func : Nat) (f : VF) (cfg : VCfg → Bool) (op : VCfg → Nat → Nat → Bool × FF) :
    State → Nat → Res :=
  vecBody c i 0x36 func f cfg (fun v =>
    let sh := basicShape f false false v
    { sh with dst := [] })
    (fun k v =>
      let rs := lanes (fun a b _ => let (r, fl) := op v a b; (r.toNat, fl)) false (actives k v f)
        (k.elems f.vs1.toNat v.g v.sew v.vlmax) (srcB k v f) []
      { core := k.setMask f.vd.toNat (maskOf (rs.map (fun r => r.1 == 1))), flags := orFlags (rs.map (·.2)) })

/-- VCMPEQ (R156). -/
def execVcmpeq (c : CoreId) (f : VF) (s : State) : Out :=
  issueOut s c (.vcmpeq c f) (cmpOp c (.vcmpeq c f) 0x00 f anyCfg (fun _ a b => (a == b, 0)))

/-- VCMPNE (R156). -/
def execVcmpne (c : CoreId) (f : VF) (s : State) : Out :=
  issueOut s c (.vcmpne c f) (cmpOp c (.vcmpne c f) 0x01 f anyCfg (fun _ a b => (a != b, 0)))

/-- VCMPLT (R156). -/
def execVcmplt (c : CoreId) (f : VF) (s : State) : Out :=
  issueOut s c (.vcmplt c f) (cmpOp c (.vcmplt c f) 0x02 f anyCfg (fun v a b => (decide (sint v.sew a < sint v.sew b), 0)))

/-- VCMPLE (R156). -/
def execVcmple (c : CoreId) (f : VF) (s : State) : Out :=
  issueOut s c (.vcmple c f) (cmpOp c (.vcmple c f) 0x03 f anyCfg (fun v a b => (decide (sint v.sew a ≤ sint v.sew b), 0)))

/-- VCMPLTU (R156). -/
def execVcmpltu (c : CoreId) (f : VF) (s : State) : Out :=
  issueOut s c (.vcmpltu c f) (cmpOp c (.vcmpltu c f) 0x04 f anyCfg (fun _ a b => (decide (a < b), 0)))

/-- VCMPLEU (R156). -/
def execVcmpleu (c : CoreId) (f : VF) (s : State) : Out :=
  issueOut s c (.vcmpleu c f) (cmpOp c (.vcmpleu c f) 0x05 f anyCfg (fun _ a b => (decide (a ≤ b), 0)))

/-- VFCMPEQ (R42). -/
def execVfcmpeq (c : CoreId) (f : VF) (s : State) : Out :=
  issueOut s c (.vfcmpeq c f) (cmpOp c (.vfcmpeq c f) 0x08 f VCfg.isFloat (fun v a b => fCmp v.f .eq a b))

/-- VFCMPNE (R42). -/
def execVfcmpne (c : CoreId) (f : VF) (s : State) : Out :=
  issueOut s c (.vfcmpne c f) (cmpOp c (.vfcmpne c f) 0x09 f VCfg.isFloat (fun v a b => fCmp v.f .ne a b))

/-- VFCMPLT (R42). -/
def execVfcmplt (c : CoreId) (f : VF) (s : State) : Out :=
  issueOut s c (.vfcmplt c f) (cmpOp c (.vfcmplt c f) 0x0A f VCfg.isFloat (fun v a b => fCmp v.f .lt a b))

/-- VFCMPLE (R42). -/
def execVfcmple (c : CoreId) (f : VF) (s : State) : Out :=
  issueOut s c (.vfcmple c f) (cmpOp c (.vfcmple c f) 0x0B f VCfg.isFloat (fun v a b => fCmp v.f .le a b))

/-- The Mask only class (R161). -/
def maskShape (_ : VCfg) : VShape := { cls := .maskOnly, src := [], dst := [], apart := false }

/-- An operation on whole mask registers (R156). -/
def maskOp (c : CoreId) (i : Instr) (func : Nat) (f : VF) (op : BitVec 2048 → BitVec 2048 → BitVec 2048) : State → Nat → Res :=
  vecBody c i 0x36 func f anyCfg maskShape
    (fun k _ => { core := k.setMask f.vd.toNat (op (k.mask f.vs1.toNat) (k.mask f.vs2.toNat)) })

/-- KAND (R156). -/
def execKand (c : CoreId) (f : VF) (s : State) : Out :=
  issueOut s c (.kand c f) (maskOp c (.kand c f) 0x10 f (fun a b => a &&& b))

/-- KOR (R156). -/
def execKor (c : CoreId) (f : VF) (s : State) : Out :=
  issueOut s c (.kor c f) (maskOp c (.kor c f) 0x11 f (fun a b => a ||| b))

/-- KXOR (R156). -/
def execKxor (c : CoreId) (f : VF) (s : State) : Out :=
  issueOut s c (.kxor c f) (maskOp c (.kxor c f) 0x12 f (fun a b => a ^^^ b))

/-- KANDN (R156). -/
def execKandn (c : CoreId) (f : VF) (s : State) : Out :=
  issueOut s c (.kandn c f) (maskOp c (.kandn c f) 0x13 f (fun a b => a &&& ~~~b))

/-- KNOT (R156). -/
def execKnot (c : CoreId) (f : VF) (s : State) : Out :=
  issueOut s c (.knot c f) (maskOp c (.knot c f) 0x14 f (fun a _ => ~~~a))

/-- The bits of ka below VL, whatever KM is: the model's choice for KPOPC and KFIRST (R153, R156). DESIGN CHOICE, log entry 91. -/
def maskBelow (k : Core) (v : VCfg) (f : VF) : Nat := (k.mask f.vs1.toNat).toNat % 2 ^ v.vl

/-- KPOPC: the number of set bits of ka below VL (R156). -/
def execKpopc (c : CoreId) (f : VF) (s : State) : Out :=
  issueOut s c (.kpopc c f) (vecBody c (.kpopc c f) 0x36 0x15 f anyCfg maskShape
    (fun k v => { core := k, rd := some (w64 (popN 2048 (maskBelow k v f))) }))

/-- KFIRST: the lowest such bit, or all ones (R156). -/
def execKfirst (c : CoreId) (f : VF) (s : State) : Out :=
  issueOut s c (.kfirst c f) (vecBody c (.kfirst c f) 0x36 0x16 f anyCfg maskShape
    (fun k v => { core := k
                  rd := some (if maskBelow k v f = 0 then BitVec.allOnes 64 else w64 (ctzN 2048 (maskBelow k v f))) }))

/-! ### Reductions (R158) -/

/-- The Scalar result class (R161). -/
def scalarShape (f : VF) (v : VCfg) : VShape :=
  { cls := .scalar, src := [(f.vs1.toNat, v.g)], dst := [], apart := false }

/-- The active elements of vs1, in index order. -/
def activeElems (k : Core) (v : VCfg) (f : VF) : List (Nat × Nat) :=
  ((List.range v.vlmax).zip (k.elems f.vs1.toNat v.g v.sew v.vlmax)).filter (fun p => k.isActive v.vl f.km.toNat p.1)

/-- VREDSUM: s[rs2] plus every active element, sign-extended, modulo 2^64 (R156). -/
def execVredsum (c : CoreId) (f : VF) (s : State) : Out :=
  issueOut s c (.vredsum c f) (vecBody c (.vredsum c f) 0x36 0x18 f anyCfg (scalarShape f)
    (fun k v => { core := k
                  rd := some ((activeElems k v f).foldl (fun acc p => acc + sext64 v.sew p.2) (k.sreg f.vs2)) }))

/-- The grouped exact sum: groups of 32 indices from group `g` on, `n` of them (R158). -/
def redGroups (xs : List (Nat × Nat)) : Nat → Nat → Nat → Nat
  | 0, _, acc => acc
  | n + 1, g, acc =>
    let ts := (xs.filter (fun p => p.1 / 32 = g)).map (fun p => fp32.val p.2)
    redGroups xs n (g + 1) (if ts.isEmpty then acc else groupRule ts (some acc))

/-- VFREDSUM (R158). -/
def execVfredsum (c : CoreId) (f : VF) (s : State) : Out :=
  issueOut s c (.vfredsum c f) (vecBody c (.vfredsum c f) 0x36 0x19 f VCfg.isF32 (scalarShape f)
    (fun k v => { core := k
                  rd := some (w64 (redGroups (activeElems k v f) (v.vlmax / 32) 0 (wf (k.sreg f.vs2) 31 0))) }))

/-- A fold of R41, the accumulator as first operand (R158). -/
def foldOp (c : CoreId) (i : Instr) (func : Nat) (f : VF) (mx : Bool) : State → Nat → Res :=
  vecBody c i 0x36 func f VCfg.isF32 (scalarShape f)
    (fun k v =>
      let r := (activeElems k v f).foldl (fun (acc : Nat × FF) p =>
        let (x, fl) := fMinMax fp32 mx acc.1 p.2
        (x, acc.2 ||| fl)) (wf (k.sreg f.vs2) 31 0, 0)
      { core := k, rd := some (w64 r.1), flags := r.2 })

/-- VFREDMAX (R158). -/
def execVfredmax (c : CoreId) (f : VF) (s : State) : Out :=
  issueOut s c (.vfredmax c f) (foldOp c (.vfredmax c f) 0x1A f true)

/-- VFREDMIN (R158). -/
def execVfredmin (c : CoreId) (f : VF) (s : State) : Out :=
  issueOut s c (.vfredmin c f) (foldOp c (.vfredmin c f) 0x1B f false)

/-- VEXT: element s[rs2] of vs1, sign-extended; 0 at or above VLMAX (R156). -/
def execVext (c : CoreId) (f : VF) (s : State) : Out :=
  issueOut s c (.vext c f) (vecBody c (.vext c f) 0x36 0x1C f anyCfg (scalarShape f)
    (fun k v =>
      let e := (k.sreg f.vs2).toNat
      { core := k
        rd := some (if v.vlmax ≤ e then 0 else sext64 v.sew ((k.elems f.vs1.toNat v.g v.sew v.vlmax).getD e 0)) }))

/-! ### CRC and bit operations in lanes (R141, R156) -/

def crcOp (c : CoreId) (i : Instr) (func : Nat) (f : VF) (sew poly : Nat) : State → Nat → Res :=
  vecBody c i 0x37 func f (fun v => v.sew = sew) (basicShape f true true)
    (laneRun f true true (fun _ _ a _ d => (crcBits poly sew d a, 0)))

/-- VCRC32C (R156). -/
def execVcrc32c (c : CoreId) (f : VF) (s : State) : Out :=
  issueOut s c (.vcrc32c c f) (crcOp c (.vcrc32c c f) 0x00 f 32 poly32c)

/-- VCRC64 (R156). -/
def execVcrc64 (c : CoreId) (f : VF) (s : State) : Out :=
  issueOut s c (.vcrc64 c f) (crcOp c (.vcrc64 c f) 0x01 f 64 poly64)

/-- VPARITY (R156). -/
def execVparity (c : CoreId) (f : VF) (s : State) : Out :=
  issueOut s c (.vparity c f) (intOp1 c (.vparity c f) 0x37 0x02 f (fun n a => popN n a % 2))

/-- VBREV (R156). -/
def execVbrev (c : CoreId) (f : VF) (s : State) : Out :=
  issueOut s c (.vbrev c f) (intOp1 c (.vbrev c f) 0x37 0x03 f (fun n a => revN n a))

/-- VPOPC (R156). -/
def execVpopc (c : CoreId) (f : VF) (s : State) : Out :=
  issueOut s c (.vpopc c f) (intOp1 c (.vpopc c f) 0x37 0x04 f (fun n a => popN n a))

/-- VCLZ (R156). -/
def execVclz (c : CoreId) (f : VF) (s : State) : Out :=
  issueOut s c (.vclz c f) (intOp1 c (.vclz c f) 0x37 0x05 f (fun n a => clzN n a))

/-! ### VSETVL -/

/-- VSETVL: rd at distance 2, VCFG from t + 3, with a mode-change shadow (VSETVL page, R134). -/
def execVsetvl (c : CoreId) (rd rs1 : Reg) (gfl sew ft : BitVec 2) (s : State) : Out :=
  issueOut s c (.vsetvl c rd rs1 gfl sew ft) (coreBody c (fun k a =>
    let vlmax := 2048 * 2 ^ gfl.toNat / (8 * 2 ^ sew.toNat)
    let vl := Nat.min (k.sreg rs1).toNat vlmax
    let v := w64 (vl * 2 ^ 16 + gfl.toNat * 2 ^ 6 + sew.toNat * 2 ^ 4 + ft.toNat * 2 ^ 2)
    let k1 := k.result a 2 rd (w64 vl)
    { k1 with
      pend := addPend { due := a + 3, dst := .sys 2 0 0, tag := none, val := v } k1.pend
      shadow := a + 2 }))

end Sys2Proof.Machine
end

