-- ==== Sys2Proof/Machine/Dispatch.lean ====
section
/-! DEFINITION. The meaning of each command, dispatched by constructor: one arm per constructor of `Instr`. -/

namespace Sys2Proof.Machine

def exec (i : Instr) (s : State) : Host.Outcome State Fault Refusal :=
  match i with
  | .add c rd rs1 rs2 => Sys2Proof.Machine.execAdd c rd rs1 rs2 s
  | .sub c rd rs1 rs2 => Sys2Proof.Machine.execSub c rd rs1 rs2 s
  | .and c rd rs1 rs2 => Sys2Proof.Machine.execAnd c rd rs1 rs2 s
  | .or c rd rs1 rs2 => Sys2Proof.Machine.execOr c rd rs1 rs2 s
  | .xor c rd rs1 rs2 => Sys2Proof.Machine.execXor c rd rs1 rs2 s
  | .sll c rd rs1 rs2 => Sys2Proof.Machine.execSll c rd rs1 rs2 s
  | .srl c rd rs1 rs2 => Sys2Proof.Machine.execSrl c rd rs1 rs2 s
  | .sra c rd rs1 rs2 => Sys2Proof.Machine.execSra c rd rs1 rs2 s
  | .slt c rd rs1 rs2 => Sys2Proof.Machine.execSlt c rd rs1 rs2 s
  | .sltu c rd rs1 rs2 => Sys2Proof.Machine.execSltu c rd rs1 rs2 s
  | .min c rd rs1 rs2 => Sys2Proof.Machine.execMin c rd rs1 rs2 s
  | .max c rd rs1 rs2 => Sys2Proof.Machine.execMax c rd rs1 rs2 s
  | .minu c rd rs1 rs2 => Sys2Proof.Machine.execMinu c rd rs1 rs2 s
  | .maxu c rd rs1 rs2 => Sys2Proof.Machine.execMaxu c rd rs1 rs2 s
  | .addi c rd rs1 imm => Sys2Proof.Machine.execAddi c rd rs1 imm s
  | .slti c rd rs1 imm => Sys2Proof.Machine.execSlti c rd rs1 imm s
  | .sltiu c rd rs1 imm => Sys2Proof.Machine.execSltiu c rd rs1 imm s
  | .andi c rd rs1 imm => Sys2Proof.Machine.execAndi c rd rs1 imm s
  | .ori c rd rs1 imm => Sys2Proof.Machine.execOri c rd rs1 imm s
  | .xori c rd rs1 imm => Sys2Proof.Machine.execXori c rd rs1 imm s
  | .slli c rd rs1 sh => Sys2Proof.Machine.execSlli c rd rs1 sh s
  | .srli c rd rs1 sh => Sys2Proof.Machine.execSrli c rd rs1 sh s
  | .srai c rd rs1 sh => Sys2Proof.Machine.execSrai c rd rs1 sh s
  | .lui c rd imm => Sys2Proof.Machine.execLui c rd imm s
  | .auipc c rd imm => Sys2Proof.Machine.execAuipc c rd imm s
  | .mul c rd rs1 rs2 => Sys2Proof.Machine.execMul c rd rs1 rs2 s
  | .mulh c rd rs1 rs2 => Sys2Proof.Machine.execMulh c rd rs1 rs2 s
  | .mulhu c rd rs1 rs2 => Sys2Proof.Machine.execMulhu c rd rs1 rs2 s
  | .mulhsu c rd rs1 rs2 => Sys2Proof.Machine.execMulhsu c rd rs1 rs2 s
  | .crc32c c rd rs1 rs2 w => Sys2Proof.Machine.execCrc32c c rd rs1 rs2 w s
  | .crc64 c rd rs1 rs2 w => Sys2Proof.Machine.execCrc64 c rd rs1 rs2 w s
  | .parity c rd rs1 w => Sys2Proof.Machine.execParity c rd rs1 w s
  | .brev c rd rs1 w => Sys2Proof.Machine.execBrev c rd rs1 w s
  | .clz c rd rs1 w => Sys2Proof.Machine.execClz c rd rs1 w s
  | .ctz c rd rs1 w => Sys2Proof.Machine.execCtz c rd rs1 w s
  | .popc c rd rs1 w => Sys2Proof.Machine.execPopc c rd rs1 w s
  | .ldB c rd rs1 imm => Sys2Proof.Machine.execLdB c rd rs1 imm s
  | .ldBu c rd rs1 imm => Sys2Proof.Machine.execLdBu c rd rs1 imm s
  | .ldH c rd rs1 imm => Sys2Proof.Machine.execLdH c rd rs1 imm s
  | .ldHu c rd rs1 imm => Sys2Proof.Machine.execLdHu c rd rs1 imm s
  | .ldW c rd rs1 imm => Sys2Proof.Machine.execLdW c rd rs1 imm s
  | .ldWu c rd rs1 imm => Sys2Proof.Machine.execLdWu c rd rs1 imm s
  | .ldD c rd rs1 imm => Sys2Proof.Machine.execLdD c rd rs1 imm s
  | .stB c rs2 rs1 imm => Sys2Proof.Machine.execStB c rs2 rs1 imm s
  | .stH c rs2 rs1 imm => Sys2Proof.Machine.execStH c rs2 rs1 imm s
  | .stW c rs2 rs1 imm => Sys2Proof.Machine.execStW c rs2 rs1 imm s
  | .stD c rs2 rs1 imm => Sys2Proof.Machine.execStD c rs2 rs1 imm s
  | .pref c hint rs1 imm => Sys2Proof.Machine.execPref c hint rs1 imm s
  | .lr c rd rs1 aq dbl => Sys2Proof.Machine.execLr c rd rs1 aq dbl s
  | .sc c rd rs1 rs2 rl dbl => Sys2Proof.Machine.execSc c rd rs1 rs2 rl dbl s
  | .fenceL c => Sys2Proof.Machine.execFenceL c s
  | .fenceM c => Sys2Proof.Machine.execFenceM c s
  | .fenceG c => Sys2Proof.Machine.execFenceG c s
  | .fenceI c => Sys2Proof.Machine.execFenceI c s
  | .beq c rs1 rs2 off => Sys2Proof.Machine.execBeq c rs1 rs2 off s
  | .bne c rs1 rs2 off => Sys2Proof.Machine.execBne c rs1 rs2 off s
  | .blt c rs1 rs2 off => Sys2Proof.Machine.execBlt c rs1 rs2 off s
  | .bge c rs1 rs2 off => Sys2Proof.Machine.execBge c rs1 rs2 off s
  | .bltu c rs1 rs2 off => Sys2Proof.Machine.execBltu c rs1 rs2 off s
  | .bgeu c rs1 rs2 off => Sys2Proof.Machine.execBgeu c rs1 rs2 off s
  | .jal c off => Sys2Proof.Machine.execJal c off s
  | .jalr c rd rs1 imm => Sys2Proof.Machine.execJalr c rd rs1 imm s
  | .loop c rs1 lenm1 => Sys2Proof.Machine.execLoop c rs1 lenm1 s
  | .sysr c rd sr => Sys2Proof.Machine.execSysr c rd sr s
  | .sysw c rd rs1 sr => Sys2Proof.Machine.execSysw c rd rs1 sr s
  | .syss c rd rs1 sr => Sys2Proof.Machine.execSyss c rd rs1 sr s
  | .sysc c rd rs1 sr => Sys2Proof.Machine.execSysc c rd rs1 sr s
  | .syscall c => Sys2Proof.Machine.execSyscall c s
  | .sret c => Sys2Proof.Machine.execSret c s
  | .sretSkip c => Sys2Proof.Machine.execSretSkip c s
  | .noint c nm1 => Sys2Proof.Machine.execNoint c nm1 s
  | .unclaimedCoprocessor c word => Sys2Proof.Machine.execUnclaimedCoprocessor c word s
  | .sigcAdd c rs1 rs2 q => Sys2Proof.Machine.execSigcAdd c rs1 rs2 q s
  | .sigcDec c rs1 rs2 q => Sys2Proof.Machine.execSigcDec c rs1 rs2 q s
  | .waitcGe c rs1 rs2 q => Sys2Proof.Machine.execWaitcGe c rs1 rs2 q s
  | .waitcBar c rs1 q => Sys2Proof.Machine.execWaitcBar c rs1 q s
  | .nmc c op rg rc => Sys2Proof.Machine.execNmc c op rg rc s
  | .tmma c tc ta tb acc var mm1 nm1 => Sys2Proof.Machine.execTmma c tc ta tb acc var mm1 nm1 s
  | .tmmap c tc ta tb acc mm1 nm1 => Sys2Proof.Machine.execTmmap c tc ta tb acc mm1 nm1 s
  | .tmmaq c tc ta tb acc mm1 nm1 => Sys2Proof.Machine.execTmmaq c tc ta tb acc mm1 nm1 s
  | .tfence c => Sys2Proof.Machine.execTfence c s
  | .canvasSlotRun c => Sys2Proof.Machine.execCanvasSlotRun c s
  | .canvasMapCommit k => Sys2Proof.Machine.execCanvasMapCommit k s
  | .mapCommitApply k => Sys2Proof.Machine.execMapCommitApply k s
  | .tcfg c vs => Sys2Proof.Machine.execTcfg c vs s
  | .tcfgrd c vd => Sys2Proof.Machine.execTcfgrd c vd s
  | .tld c tn rs1 rs2 rsel ca => Sys2Proof.Machine.execTld c tn rs1 rs2 rsel ca s
  | .tst c tn rs1 rs2 rsel ca => Sys2Proof.Machine.execTst c tn rs1 rs2 rsel ca s
  | .tileRowArrival c => Sys2Proof.Machine.execTileRowArrival c s
  | .tileStoreRowAccept c => Sys2Proof.Machine.execTileStoreRowAccept c s
  | .tmvv c vd tn rs1 => Sys2Proof.Machine.execTmvv c vd tn rs1 s
  | .tmvt c tn vs rs1 => Sys2Proof.Machine.execTmvt c tn vs rs1 s
  | .vsetvl c rd rs1 gfl sew ft => Sys2Proof.Machine.execVsetvl c rd rs1 gfl sew ft s
  | .vadd c f => Sys2Proof.Machine.execVadd c f s
  | .vsub c f => Sys2Proof.Machine.execVsub c f s
  | .vmul c f => Sys2Proof.Machine.execVmul c f s
  | .vmulh c f => Sys2Proof.Machine.execVmulh c f s
  | .vmulhu c f => Sys2Proof.Machine.execVmulhu c f s
  | .vand c f => Sys2Proof.Machine.execVand c f s
  | .vor c f => Sys2Proof.Machine.execVor c f s
  | .vxor c f => Sys2Proof.Machine.execVxor c f s
  | .vsll c f => Sys2Proof.Machine.execVsll c f s
  | .vsrl c f => Sys2Proof.Machine.execVsrl c f s
  | .vsra c f => Sys2Proof.Machine.execVsra c f s
  | .vmin c f => Sys2Proof.Machine.execVmin c f s
  | .vmax c f => Sys2Proof.Machine.execVmax c f s
  | .vminu c f => Sys2Proof.Machine.execVminu c f s
  | .vmaxu c f => Sys2Proof.Machine.execVmaxu c f s
  | .vmv c f => Sys2Proof.Machine.execVmv c f s
  | .vbcast c f => Sys2Proof.Machine.execVbcast c f s
  | .vsel c f => Sys2Proof.Machine.execVsel c f s
  | .vfadd c f => Sys2Proof.Machine.execVfadd c f s
  | .vfsub c f => Sys2Proof.Machine.execVfsub c f s
  | .vfmul c f => Sys2Proof.Machine.execVfmul c f s
  | .vfma c f => Sys2Proof.Machine.execVfma c f s
  | .vfdiv c f => Sys2Proof.Machine.execVfdiv c f s
  | .vfsqrt c f => Sys2Proof.Machine.execVfsqrt c f s
  | .vfmin c f => Sys2Proof.Machine.execVfmin c f s
  | .vfmax c f => Sys2Proof.Machine.execVfmax c f s
  | .vfsgnj c f => Sys2Proof.Machine.execVfsgnj c f s
  | .vfsgnjn c f => Sys2Proof.Machine.execVfsgnjn c f s
  | .vfsgnjx c f => Sys2Proof.Machine.execVfsgnjx c f s
  | .vwmul c f => Sys2Proof.Machine.execVwmul c f s
  | .vwmulu c f => Sys2Proof.Machine.execVwmulu c f s
  | .vwadd c f => Sys2Proof.Machine.execVwadd c f s
  | .vfwmul c f => Sys2Proof.Machine.execVfwmul c f s
  | .vdot4 c f => Sys2Proof.Machine.execVdot4 c f s
  | .vfdot4E4m3 c f => Sys2Proof.Machine.execVfdot4E4m3 c f s
  | .vfdot4E5m2 c f => Sys2Proof.Machine.execVfdot4E5m2 c f s
  | .vfdot2Bf16 c f => Sys2Proof.Machine.execVfdot2Bf16 c f s
  | .vfdot2Fp16 c f => Sys2Proof.Machine.execVfdot2Fp16 c f s
  | .vaddp c f => Sys2Proof.Machine.execVaddp c f s
  | .vmulp c f => Sys2Proof.Machine.execVmulp c f s
  | .vcvtF32H c f => Sys2Proof.Machine.execVcvtF32H c f s
  | .vcvtHF32 c f => Sys2Proof.Machine.execVcvtHF32 c f s
  | .vcvtF32Q c f => Sys2Proof.Machine.execVcvtF32Q c f s
  | .vcvtQF32 c f => Sys2Proof.Machine.execVcvtQF32 c f s
  | .vcvtI32F32 c f => Sys2Proof.Machine.execVcvtI32F32 c f s
  | .vcvtF32I32 c f => Sys2Proof.Machine.execVcvtF32I32 c f s
  | .vcvtF2mx c ty f => Sys2Proof.Machine.execVcvtF2mx c ty f s
  | .vcvtMx2f c ty f => Sys2Proof.Machine.execVcvtMx2f c ty f s
  | .vcmpeq c f => Sys2Proof.Machine.execVcmpeq c f s
  | .vcmpne c f => Sys2Proof.Machine.execVcmpne c f s
  | .vcmplt c f => Sys2Proof.Machine.execVcmplt c f s
  | .vcmple c f => Sys2Proof.Machine.execVcmple c f s
  | .vcmpltu c f => Sys2Proof.Machine.execVcmpltu c f s
  | .vcmpleu c f => Sys2Proof.Machine.execVcmpleu c f s
  | .vfcmpeq c f => Sys2Proof.Machine.execVfcmpeq c f s
  | .vfcmpne c f => Sys2Proof.Machine.execVfcmpne c f s
  | .vfcmplt c f => Sys2Proof.Machine.execVfcmplt c f s
  | .vfcmple c f => Sys2Proof.Machine.execVfcmple c f s
  | .kand c f => Sys2Proof.Machine.execKand c f s
  | .kor c f => Sys2Proof.Machine.execKor c f s
  | .kxor c f => Sys2Proof.Machine.execKxor c f s
  | .kandn c f => Sys2Proof.Machine.execKandn c f s
  | .knot c f => Sys2Proof.Machine.execKnot c f s
  | .kpopc c f => Sys2Proof.Machine.execKpopc c f s
  | .kfirst c f => Sys2Proof.Machine.execKfirst c f s
  | .vredsum c f => Sys2Proof.Machine.execVredsum c f s
  | .vfredsum c f => Sys2Proof.Machine.execVfredsum c f s
  | .vfredmax c f => Sys2Proof.Machine.execVfredmax c f s
  | .vfredmin c f => Sys2Proof.Machine.execVfredmin c f s
  | .vext c f => Sys2Proof.Machine.execVext c f s
  | .vcrc32c c f => Sys2Proof.Machine.execVcrc32c c f s
  | .vcrc64 c f => Sys2Proof.Machine.execVcrc64 c f s
  | .vparity c f => Sys2Proof.Machine.execVparity c f s
  | .vbrev c f => Sys2Proof.Machine.execVbrev c f s
  | .vpopc c f => Sys2Proof.Machine.execVpopc c f s
  | .vclz c f => Sys2Proof.Machine.execVclz c f s
  | .exceptionEntry c => Sys2Proof.Machine.execExceptionEntry c s
  | .interruptEntry c => Sys2Proof.Machine.execInterruptEntry c s
  | .deferredException c => Sys2Proof.Machine.execDeferredException c s
  | .memoryQueueSend c sync => Sys2Proof.Machine.execMemoryQueueSend c sync s
  | .answerDelivery c arrival contended => Sys2Proof.Machine.execAnswerDelivery c arrival contended s
  | .errorAnswer c arrival contended => Sys2Proof.Machine.execErrorAnswer c s arrival contended
  | .asyncErrorAnswer c arrival contended => Sys2Proof.Machine.execAsyncErrorAnswer c s arrival contended
  | .storePathErrorAnswer k arrival contended => Sys2Proof.Machine.execStorePathErrorAnswer k s arrival contended
  | .waitcAnswer c sync arrival contended => Sys2Proof.Machine.execWaitcAnswer c sync s arrival contended
  | .waitcResend c sync => Sys2Proof.Machine.execWaitcResend c sync s
  | .requestResend k => Sys2Proof.Machine.execRequestResend k s
  | .freezeEnd c => Sys2Proof.Machine.execFreezeEnd c s
  | .icacheFill c arrival contended => Sys2Proof.Machine.execIcacheFill c s arrival contended
  | .translationWalk c arrival contended => Sys2Proof.Machine.execTranslationWalk c s arrival contended
  | .storePathDrain k => Sys2Proof.Machine.execStorePathDrain k s
  | .clusterCacheFill k => Sys2Proof.Machine.execClusterCacheFill k s
  | .sketchDataArrival k => Sys2Proof.Machine.execSketchDataArrival k s
  | .sketchInvalidate k => Sys2Proof.Machine.execSketchInvalidate k s
  | .sketchRelease p => Sys2Proof.Machine.execSketchRelease p s
  | .plinthRead p => Sys2Proof.Machine.execPlinthRead p s
  | .plinthWrite p => Sys2Proof.Machine.execPlinthWrite p s
  | .prefetchRead p => Sys2Proof.Machine.execPrefetchRead p s
  | .dramAccessDone p => Sys2Proof.Machine.execDramAccessDone p s
  | .refresh p bank => Sys2Proof.Machine.execRefresh p bank s
  | .sorterRetry p => Sys2Proof.Machine.execSorterRetry p s
  | .iwordStore c => Sys2Proof.Machine.execIwordStore c s
  | .iwordLoad c => Sys2Proof.Machine.execIwordLoad c s
  | .copy p => Sys2Proof.Machine.execCopy p s
  | .copyd p => Sys2Proof.Machine.execCopyd p s
  | .digest p => Sys2Proof.Machine.execDigest p s
  | .gather p => Sys2Proof.Machine.execGather p s
  | .scatter p => Sys2Proof.Machine.execScatter p s
  | .sort p => Sys2Proof.Machine.execSort p s
  | .merge p => Sys2Proof.Machine.execMerge p s
  | .reduce p => Sys2Proof.Machine.execReduce p s
  | .compress p => Sys2Proof.Machine.execCompress p s
  | .decompress p => Sys2Proof.Machine.execDecompress p s
  | .gfmac p => Sys2Proof.Machine.execGfmac p s
  | .pinrel p => Sys2Proof.Machine.execPinrel p s
  | .nmcCompletionSignal p => Sys2Proof.Machine.execNmcCompletionSignal p s
  | .cairnSignal n => Sys2Proof.Machine.execCairnSignal n s
  | .cairnDecrement n => Sys2Proof.Machine.execCairnDecrement n s
  | .cairnWait n => Sys2Proof.Machine.execCairnWait n s
  | .cairnBarrierArrival n => Sys2Proof.Machine.execCairnBarrierArrival n s
  | .cairnConfigWrite n => Sys2Proof.Machine.execCairnConfigWrite n s
  | .cairnFlagsWrite n => Sys2Proof.Machine.execCairnFlagsWrite n s
  | .pset n => Sys2Proof.Machine.execPset n s
  | .cairnAnswerSend n => Sys2Proof.Machine.execCairnAnswerSend n s
  | .cairnCancel n => Sys2Proof.Machine.execCairnCancel n s
  | .waiterShareRetry n => Sys2Proof.Machine.execWaiterShareRetry n s
  | .bgctlWrite d v => Sys2Proof.Machine.execBgctlWrite d v s
  | .stoppedDomainRestart d => Sys2Proof.Machine.execStoppedDomainRestart d s
  | .rateWindowArmed d slow => Sys2Proof.Machine.execRateWindowArmed d s slow
  | .recoveryTrigger d code same => Sys2Proof.Machine.execRecoveryTrigger d code s same
  | .resetCommand m v => Sys2Proof.Machine.execResetCommand m v s
  | .fencePhaseEnd d => Sys2Proof.Machine.execFencePhaseEnd d s
  | .fenceLimit d => Sys2Proof.Machine.execFenceLimit d s
  | .drainEnd d => Sys2Proof.Machine.execDrainEnd d s
  | .drainLimit d => Sys2Proof.Machine.execDrainLimit d s
  | .resetScrubDone d => Sys2Proof.Machine.execResetScrubDone d s
  | .resetScrubLimit d => Sys2Proof.Machine.execResetScrubLimit d s
  | .reloadDone d => Sys2Proof.Machine.execReloadDone d s
  | .reloadFailure d => Sys2Proof.Machine.execReloadFailure d s
  | .rejoinDone d => Sys2Proof.Machine.execRejoinDone d s
  | .reloadRejoinLimit d => Sys2Proof.Machine.execReloadRejoinLimit d s
  | .dropReport dev record stepNo rollBase via => Sys2Proof.Machine.execDropReport dev record stepNo rollBase s via
  | .rcmdJoin m => Sys2Proof.Machine.execRcmdJoin m s
  | .rcmdLeave m => Sys2Proof.Machine.execRcmdLeave m s
  | .joinRepeat => Sys2Proof.Machine.execJoinRepeat s
  | .leaveTimeout => Sys2Proof.Machine.execLeaveTimeout s
  | .join h dev partners => Sys2Proof.Machine.execJoin h dev partners s
  | .leave dev rollBase via => Sys2Proof.Machine.execLeave dev rollBase s via
  | .route table via => Sys2Proof.Machine.execRoute table s via
  | .routeEpochLimit n => Sys2Proof.Machine.execRouteEpochLimit n s
  | .report dev record stepNo rollBase via => Sys2Proof.Machine.execReport dev record stepNo rollBase s via
  | .notice kind dev drop stepNo record via => Sys2Proof.Machine.execNotice kind dev drop stepNo record s via
  | .memberLost dev rollBase => Sys2Proof.Machine.execMemberLost dev rollBase s
  | .epoch ecur eprev via => Sys2Proof.Machine.execEpoch ecur eprev s via
  | .beacon via => Sys2Proof.Machine.execBeacon s via
  | .beaconTimeout => Sys2Proof.Machine.execBeaconTimeout s
  | .linkdown dev port partners rollBase via => Sys2Proof.Machine.execLinkdown dev port s partners rollBase via
  | .rd p f => Sys2Proof.Machine.execRd p f s
  | .rdx p f => Sys2Proof.Machine.execRdx p f s
  | .prd p f => Sys2Proof.Machine.execPrd p f s
  | .wr p f => Sys2Proof.Machine.execWr p f s
  | .scFrame p f => Sys2Proof.Machine.execScFrame p f s
  | .csig p f => Sys2Proof.Machine.execCsig p f s
  | .cwait p f => Sys2Proof.Machine.execCwait p f s
  | .ccan p f => Sys2Proof.Machine.execCcan p f s
  | .nmcFrame p f => Sys2Proof.Machine.execNmcFrame p f s
  | .inv p f => Sys2Proof.Machine.execInv p f s
  | .srel p f => Sys2Proof.Machine.execSrel p f s
  | .data p f => Sys2Proof.Machine.execData p f s
  | .ack p f => Sys2Proof.Machine.execAck p f s
  | .cans p f => Sys2Proof.Machine.execCans p f s
  | .iack p f => Sys2Proof.Machine.execIack p f s
  | .lctlAck l num cred fcrc => Sys2Proof.Machine.execLctlAck l num cred s fcrc
  | .lctlNak l num fcrc => Sys2Proof.Machine.execLctlNak l num s fcrc
  | .lctlReplayStart l num fcrc => Sys2Proof.Machine.execLctlReplayStart l num s fcrc
  | .lctlIdle l fcrc => Sys2Proof.Machine.execLctlIdle l s fcrc
  | .badFrame l unknown => Sys2Proof.Machine.execBadFrame l s unknown
  | .ackTimer l => Sys2Proof.Machine.execAckTimer l s
  | .portTrainingDone l partner crossing => Sys2Proof.Machine.execPortTrainingDone l partner crossing s
  | .portRetrain l => Sys2Proof.Machine.execPortRetrain l s
  | .portRetrainTimeout l => Sys2Proof.Machine.execPortRetrainTimeout l s
  | .hrd f => Sys2Proof.Machine.execHrd f s
  | .hwr f => Sys2Proof.Machine.execHwr f s
  | .bopen f => Sys2Proof.Machine.execBopen f s
  | .bdata f => Sys2Proof.Machine.execBdata f s
  | .bres f => Sys2Proof.Machine.execBres f s
  | .bstat f => Sys2Proof.Machine.execBstat f s
  | .dbell f => Sys2Proof.Machine.execDbell f s
  | .crst => Sys2Proof.Machine.execCrst s
  | .burstCommitDone b => Sys2Proof.Machine.execBurstCommitDone b s
  | .burstPause b => Sys2Proof.Machine.execBurstPause b s
  | .burstDiscard b => Sys2Proof.Machine.execBurstDiscard b s
  | .descriptorTake => Sys2Proof.Machine.execDescriptorTake s
  | .descriptorDone no => Sys2Proof.Machine.execDescriptorDone no s
  | .ringConfigWrite m sub v => Sys2Proof.Machine.execRingConfigWrite m sub v s
  | .inputSample mV mA => Sys2Proof.Machine.execInputSample mV mA s
  | .inputLoss => Sys2Proof.Machine.execInputLoss s
  | .inputOvervoltage => Sys2Proof.Machine.execInputOvervoltage s
  | .brownoutDrainLimit => Sys2Proof.Machine.execBrownoutDrainLimit s
  | .brownoutClampLimit => Sys2Proof.Machine.execBrownoutClampLimit s
  | .supplyFlagClear m v => Sys2Proof.Machine.execSupplyFlagClear m v s
  | .moduleRequestRun m => Sys2Proof.Machine.execModuleRequestRun m s
  | .moduleRequestHold m => Sys2Proof.Machine.execModuleRequestHold m s
  | .moduleRequestOff m => Sys2Proof.Machine.execModuleRequestOff m s
  | .moduleRequestRestart m => Sys2Proof.Machine.execModuleRequestRestart m s
  | .spurRequestRun m d => Sys2Proof.Machine.execSpurRequestRun m d s
  | .spurRequestDoze m d => Sys2Proof.Machine.execSpurRequestDoze m d s
  | .spurRequestNap m d => Sys2Proof.Machine.execSpurRequestNap m d s
  | .prepWindowEnd => Sys2Proof.Machine.execPrepWindowEnd s
  | .blockAnswer b => Sys2Proof.Machine.execBlockAnswer b s
  | .blockDelayExpiry b => Sys2Proof.Machine.execBlockDelayExpiry b s
  | .clusterQuiesce k => Sys2Proof.Machine.execClusterQuiesce k s
  | .entryLimit => Sys2Proof.Machine.execEntryLimit s
  | .blockShutdown b => Sys2Proof.Machine.execBlockShutdown b s
  | .rimHeldEvent c e => Sys2Proof.Machine.execRimHeldEvent c e s
  | .wakePhaseEnd => Sys2Proof.Machine.execWakePhaseEnd s
  | .spurWake d => Sys2Proof.Machine.execSpurWake d s
  | .clusterRestore k => Sys2Proof.Machine.execClusterRestore k s
  | .autowake => Sys2Proof.Machine.execAutowake s
  | .cadenceTracking m => Sys2Proof.Machine.execCadenceTracking m s
  | .cadenceFixed m => Sys2Proof.Machine.execCadenceFixed m s
  | .startupStepEnd => Sys2Proof.Machine.execStartupStepEnd s
  | .inputQualified => Sys2Proof.Machine.execInputQualified s
  | .release m => Sys2Proof.Machine.execRelease m s
  | .temperatureSample t => Sys2Proof.Machine.execTemperatureSample t s
  | .mgmtOpen d nonce => Sys2Proof.Machine.execMgmtOpen d nonce s
  | .read d => Sys2Proof.Machine.execRead d s
  | .write d => Sys2Proof.Machine.execWrite d s
  | .dictionaryWrite m index sub value => Sys2Proof.Machine.execDictionaryWrite m index sub value s
  | .lock d => Sys2Proof.Machine.execLock d s
  | .renew d => Sys2Proof.Machine.execRenew d s
  | .unlock d => Sys2Proof.Machine.execUnlock d s
  | .close d => Sys2Proof.Machine.execClose d s
  | .leaseExpiry => Sys2Proof.Machine.execLeaseExpiry s
  | .sessionIdleExpiry slot => Sys2Proof.Machine.execSessionIdleExpiry slot s
  | .apply m portB => Sys2Proof.Machine.execApply m portB s
  | .mgmtLinkUp portB => Sys2Proof.Machine.execMgmtLinkUp portB s
  | .neighborSolicitation portB target => Sys2Proof.Machine.execNeighborSolicitation portB target s
  | .echoRequest portB payload => Sys2Proof.Machine.execEchoRequest portB payload s
  | .mailboxClaim m box => Sys2Proof.Machine.execMailboxClaim m box s
  | .mailboxRelease m box => Sys2Proof.Machine.execMailboxRelease m box s
  | .mailboxRead m box cmd => Sys2Proof.Machine.execMailboxRead m box cmd s
  | .mailboxWrite m box cmd => Sys2Proof.Machine.execMailboxWrite m box cmd s
  | .mailboxOpDone box => Sys2Proof.Machine.execMailboxOpDone box s
  | .mailboxClaimExpiry box => Sys2Proof.Machine.execMailboxClaimExpiry box s
  | .store m => Sys2Proof.Machine.execStore m s
  | .storeDone => Sys2Proof.Machine.execStoreDone s
  | .lcreq m target => Sys2Proof.Machine.execLcreq m target s
  | .lifecycleTransitionDone verified => Sys2Proof.Machine.execLifecycleTransitionDone verified s
  | .managementKeyWrite m key => Sys2Proof.Machine.execManagementKeyWrite m key s
  | .updcmd m v => Sys2Proof.Machine.execUpdcmd m v s
  | .firmwareUpdateDone flashOk => Sys2Proof.Machine.execFirmwareUpdateDone flashOk s
  | .attest d => Sys2Proof.Machine.execAttest d s
  | .aread d => Sys2Proof.Machine.execAread d s
  | .reportSigned => Sys2Proof.Machine.execReportSigned s
  | .level1TreeCompute => Sys2Proof.Machine.execLevel1TreeCompute s
  | .dbgrd d => Sys2Proof.Machine.execDbgrd d s
  | .dbgwr d => Sys2Proof.Machine.execDbgwr d s
  | .dbghalt d => Sys2Proof.Machine.execDbghalt d s
  | .dbgrun d => Sys2Proof.Machine.execDbgrun d s
  | .bistStart d => Sys2Proof.Machine.execBistStart d s
  | .bistAbort d => Sys2Proof.Machine.execBistAbort d s
  | .bistItemDone item pass => Sys2Proof.Machine.execBistItemDone item pass s
  | .bwaitExpiry item => Sys2Proof.Machine.execBwaitExpiry item s
  | .bistRunDone => Sys2Proof.Machine.execBistRunDone s
  | .illegalInstruction c word => Sys2Proof.Machine.execIllegalInstruction c word s
  | .summitFault => Sys2Proof.Machine.execSummitFault s
  | .cableMated l => Sys2Proof.Machine.execCableMated l s
  | .mgmtLinkDown portB => Sys2Proof.Machine.execMgmtLinkDown portB s
  | .duplicateAddress portB => Sys2Proof.Machine.execDuplicateAddress portB s
  | .unknownRequestType d => Sys2Proof.Machine.execUnknownRequestType d s
  | .mgmtFrameDiscarded portB => Sys2Proof.Machine.execMgmtFrameDiscarded portB s
  | .loopbackRequest p => Sys2Proof.Machine.execLoopbackRequest p s
  | .loopbackLimit p => Sys2Proof.Machine.execLoopbackLimit p s
  | .burstCompleteTimeout b => Sys2Proof.Machine.execBurstCompleteTimeout b s
  | .joinRefusal via => Sys2Proof.Machine.execJoinRefusal s via
  | .leaveAcknowledgement via => Sys2Proof.Machine.execLeaveAcknowledgement s via

end Sys2Proof.Machine
end

