-- ==== Sys2Proof/Safety.lean ====
section
/-! DEFINITION. The terms in which statements about the module are made: when an instruction issues and completes, the
values the manual gives its result, and the canonical form of the state's tables. -/

namespace Sys2Proof.Machine

/-! ### Issue -/

/-- The beat at which the next instruction of core `c` issues (R113, R116). -/
def State.issueBeat (s : State) (c : Nat) : Nat := Nat.max (s.beat (coreDomain c)) (s.core c).next
/-- The active beat of that issue (R113). -/
def State.issueActive (s : State) (c : Nat) : Nat := (s.core c).active (s.issueBeat c)

/-- The state at the issue beat, before the instruction does anything: time has moved on, every result that is due has
taken effect (R114), and the canvas has read and written what it reads and writes by then (R73). -/
def State.atIssue (s : State) (c : Nat) : State :=
  ((s.toBeat (coreDomain c) (s.issueBeat c)).landAll c (s.issueActive c)).modCore c (fun k => k.canvasTo (s.issueBeat c))

/-- The state as a freeze at that beat begins: the results of the beat itself wait for its end (R118). -/
def State.atFreeze (s : State) (c : Nat) : State :=
  (s.toBeat (coreDomain c) (s.issueBeat c)).heldAt c (s.issueActive c) (s.issueBeat c)

/-- Nothing keeps the core from issuing an instruction: it runs (R404), it is not frozen (R116), no due result is absent, it is
not asked to stop at this boundary (R388, R453), no interrupt is to be taken there (R183), and its instruction is fetched
without a fault (R209, R282). -/
def State.mayIssue (s : State) (c : Nat) : Bool :=
  s.canIssue c && ((s.core c).absent (s.issueActive c)).isNone
    && !(!coreBoot c && s.stopAsked (clusterOf c) && (s.core c).boundary (s.issueBeat c))
    && !((s.core c).boundary (s.issueBeat c) && (((s.atIssue c).core c).interrupt (coreBoot c)).isSome)
    && ((s.atIssue c).fetch c).isNone

/-- Instruction `i` of core `c` issues, and is legal where it stands (R121, R130, R137). -/
def State.issues (s : State) (c : Nat) (i : Instr) : Bool :=
  s.mayIssue c && legalInstr i
    && !(isControl i && (((s.atIssue c).core c).slot.isSome || ((s.atIssue c).core c).atLend))

/-- The core past an instruction that completes at beat `b` and passes control on in sequence: VALID of TPROG cleared (R106),
the loop counted (R136), a taken branch followed after its delay slot (R129), the loop's first instruction after its last
(R135). -/
def Core.past (k : Core) (b : Nat) : Core :=
  { k with
    tprog := wsetb k.tprog 15 false
    lcnt := if k.atLend then wset k.lcnt 31 0 (wf k.lcnt 31 0 - 1) else k.lcnt
    pc := match k.slot with
      | some t => t
      | none => if k.atLend && wf k.lcnt 31 0 ≠ 1 then BitVec.ofNat 48 k.lbeg.toNat else k.pc + 4
    slot := none
    next := Nat.max k.next (b + 1)
    noIntr := false }

/-- The core past a branch, jump or LOOP at beat `b` (R129): a taken one has its delay slot next. -/
def Core.pastControl (k : Core) (b : Nat) (pc : BitVec 48) (slot : Option (BitVec 48)) : Core :=
  { k with tprog := wsetb k.tprog 15 false, pc := pc, slot := slot, next := Nat.max k.next (b + 1), noIntr := true }

/-- The core with the result `v` for register `r` in flight, due `d` active beats after active beat `a` (R114); s0 discards
writes (R111). -/
def Core.withResult (k : Core) (a d : Nat) (r : Reg) (v : Word) : Core :=
  { k with pend := if r = 0 then k.pend else addPend { due := a + d, dst := .sreg r, tag := none, val := v } k.pend }

/-- The core with exception `code` recognised at its pc at beat `b` (R172, R192). -/
def Core.recognised (k : Core) (b code : Nat) (faultv : Word) : Core :=
  { k with
    tprog := wsetb k.tprog 15 false
    exc := some
      { code := BitVec.ofNat 16 code, faultv := faultv, restart := k.pc, ecode := 0, x := k.active b
        deferred := k.active b ≤ k.shadow && k.shadow != 0, shd := false } }

/-! ### Scalar results -/

/-- The bits of the low `n` bits of `x` that are 1, lowest first. -/
def onesIn (n x : Nat) : List Nat := (List.range n).filter (fun i => x.testBit i)

/-- The low bits of the operand of PARITY, BREV, CLZ, CTZ and POPC at width W (R120). -/
def crcWidth (w : BitVec 2) : Nat := [8, 16, 32, 64].getD w.toNat 0

/-- One CRC step of the manual, over the `n` low bits of `d`, bit 0 first (CRC page). -/
def crcRule (poly n c d : Nat) : Nat :=
  (List.range n).foldl (fun c i => c / 2 ^^^ (if (c.testBit 0 ^^ d.testBit i) then poly else 0)) c

/-- What the manual gives the scalar instructions that only compute (R115, R120, R122 to R124, R141): the core, the
destination, the distance and the value, from the scalar registers and the pc. -/
def scalarRule (i : Instr) (x : Reg → Word) (pc : BitVec 48) : Option (CoreId × Reg × Nat × Word) :=
  let u (r : Reg) : Nat := (x r).toNat
  let z (r : Reg) : Int := (x r).toInt
  let amt (r : Reg) : Nat := u r % 64
  match i with
  | .add c rd a b => some (c, rd, 2, w64 (u a + u b))
  | .sub c rd a b => some (c, rd, 2, BitVec.ofInt 64 (u a - u b))
  | .and c rd a b => some (c, rd, 2, x a &&& x b)
  | .or c rd a b => some (c, rd, 2, x a ||| x b)
  | .xor c rd a b => some (c, rd, 2, x a ^^^ x b)
  | .sll c rd a b => some (c, rd, 2, w64 (u a * 2 ^ amt b))
  | .srl c rd a b => some (c, rd, 2, w64 (u a / 2 ^ amt b))
  | .sra c rd a b => some (c, rd, 2, BitVec.ofInt 64 (z a / 2 ^ amt b))
  | .slt c rd a b => some (c, rd, 2, if z a < z b then 1 else 0)
  | .sltu c rd a b => some (c, rd, 2, if u a < u b then 1 else 0)
  | .min c rd a b => some (c, rd, 2, BitVec.ofInt 64 (if z a ≤ z b then z a else z b))
  | .max c rd a b => some (c, rd, 2, BitVec.ofInt 64 (if z a ≤ z b then z b else z a))
  | .minu c rd a b => some (c, rd, 2, w64 (if u a ≤ u b then u a else u b))
  | .maxu c rd a b => some (c, rd, 2, w64 (if u a ≤ u b then u b else u a))
  | .addi c rd a n => some (c, rd, 2, BitVec.ofInt 64 (u a + n.toInt))
  | .slti c rd a n => some (c, rd, 2, if z a < n.toInt then 1 else 0)
  | .sltiu c rd a n => some (c, rd, 2, if u a < (BitVec.ofInt 64 n.toInt).toNat then 1 else 0)
  | .andi c rd a n => some (c, rd, 2, x a &&& w64 n.toNat)
  | .ori c rd a n => some (c, rd, 2, x a ||| w64 n.toNat)
  | .xori c rd a n => some (c, rd, 2, x a ^^^ w64 n.toNat)
  | .slli c rd a n => some (c, rd, 2, w64 (u a * 2 ^ n.toNat))
  | .srli c rd a n => some (c, rd, 2, w64 (u a / 2 ^ n.toNat))
  | .srai c rd a n => some (c, rd, 2, BitVec.ofInt 64 (z a / 2 ^ n.toNat))
  | .lui c rd n => some (c, rd, 2, BitVec.ofInt 64 (n.toInt * 2 ^ 16))
  | .auipc c rd n => some (c, rd, 2, BitVec.ofInt 64 (pc.toNat + n.toInt * 2 ^ 16))
  | .mul c rd a b => some (c, rd, 4, w64 (u a * u b))
  | .mulh c rd a b => some (c, rd, 4, BitVec.ofInt 64 (z a * z b / 2 ^ 64))
  | .mulhu c rd a b => some (c, rd, 4, w64 (u a * u b / 2 ^ 64))
  | .mulhsu c rd a b => some (c, rd, 4, BitVec.ofInt 64 (z a * u b / 2 ^ 64))
  | .crc32c c rd a b w => some (c, rd, 4, w64 (crcRule 0x82F63B78 (crcWidth w) (u a % 2 ^ 32) (u b)))
  | .crc64 c rd a b w => some (c, rd, 4, w64 (crcRule 0xC96C5795D7870F42 (crcWidth w) (u a) (u b)))
  | .parity c rd a w => some (c, rd, 2, w64 ((onesIn (crcWidth w) (u a)).length % 2))
  | .brev c rd a w => some (c, rd, 2, w64 ((onesIn (crcWidth w) (u a)).map (fun i => 2 ^ (crcWidth w - 1 - i))).sum)
  | .clz c rd a w => some (c, rd, 2, w64 (match (onesIn (crcWidth w) (u a)).getLast? with
    | some i => crcWidth w - 1 - i
    | none => crcWidth w))
  | .ctz c rd a w => some (c, rd, 2, w64 ((onesIn (crcWidth w) (u a)).headD (crcWidth w)))
  | .popc c rd a w => some (c, rd, 2, w64 (onesIn (crcWidth w) (u a)).length)
  | _ => none

/-! ### Branches, system registers, handlers -/

/-- The bits [47:0] of an integer, an instruction address. -/
def pcOf (x : Int) : BitVec 48 := BitVec.ofInt 48 x

/-- What the manual gives the branches and jumps (R128): the core, the target of a taken one, and the link register with its
value. -/
def controlRule (i : Instr) (x : Reg → Word) (pc : BitVec 48) :
    Option (CoreId × Option (BitVec 48) × Option (Reg × Word)) :=
  let z (r : Reg) : Int := (x r).toInt
  let u (r : Reg) : Nat := (x r).toNat
  let tgt (off : Int) (taken : Bool) : Option (BitVec 48) := if taken then some (pcOf (pc.toNat + off * 4)) else none
  let link : Word := w64 (pcOf (pc.toNat + 8)).toNat
  match i with
  | .beq c a b off => some (c, tgt off.toInt (u a = u b), none)
  | .bne c a b off => some (c, tgt off.toInt (u a ≠ u b), none)
  | .blt c a b off => some (c, tgt off.toInt (z a < z b), none)
  | .bge c a b off => some (c, tgt off.toInt (z b ≤ z a), none)
  | .bltu c a b off => some (c, tgt off.toInt (u a < u b), none)
  | .bgeu c a b off => some (c, tgt off.toInt (u b ≤ u a), none)
  | .jal c off => some (c, tgt off.toInt true, some (31, link))
  | .jalr c rd a n =>
    if (u a + n.toInt) % 4 = 0 then some (c, some (pcOf (u a + n.toInt)), some (rd, link)) else none
  | _ => none

/-- The core with the result of a link register, if there is one, in flight (R115). -/
def Core.withLink (k : Core) (a : Nat) : Option (Reg × Word) → Core
  | some (r, v) => k.withResult a 2 r v
  | none => k

/-- What an access of R131 gives: the core, the destination, the source, the register, and for a write the new value and the
W1C bits written with 1, from the old value and the source, and whether the write is mode-changing (R36, R134). -/
def sysRule (i : Instr) (old v : Word) : Option (CoreId × Reg × BitVec 12 × Option (Word × Word × Bool)) :=
  let rmFlags : Bool := wf v 11 8 ≠ 0
  let mode (sr : BitVec 12) : Bool := [0x002, 0x008, 0x009, 0x00A, 0x100, 0x180, 0x181].contains sr.toNat
  match i with
  | .sysr c rd sr => some (c, rd, sr, none)
  | .sysw c rd _ sr => some (c, rd, sr, some (v, v, mode sr || sr.toNat = 0x003))
  | .syss c rd _ sr => some (c, rd, sr, some (old ||| v, v, mode sr || (sr.toNat = 0x003 && rmFlags)))
  | .sysc c rd _ sr => some (c, rd, sr, some (old &&& ~~~v, 0, mode sr || (sr.toNat = 0x003 && rmFlags)))
  | _ => none

/-- The source register of an access of R131. -/
def sysSource : Instr → Reg
  | .sysw _ _ r _ => r
  | .syss _ _ r _ => r
  | .sysc _ _ r _ => r
  | _ => 0

/-- The levels that may read, and that may write, a system register (R131): the least level, or none. -/
def sysLevels (sr : Nat) : Nat × Option Nat :=
  if sr = 0x000 ∨ sr = 0x001 ∨ sr = 0x006 ∨ sr = 0x007 then (0, none)
  else if sr = 0x004 then (0, some 1)
  else if sr ≤ 0x00A then (0, some 0)
  else if sr < 0x200 then (1, some 1)
  else (3, some 3)

/-- The write of a system register joins the results in flight, due 3 active beats after active beat `a` (R115); a
mode-changing write shadows the two beats after it (R134). -/
def Core.withSysWrite (k : Core) (a : Nat) (sr : BitVec 12) : Option (Word × Word × Bool) → Core
  | none => k
  | some (v, clr, mode) =>
    { k with
      pend := addPend { due := a + 3, dst := .sys sr clr (BitVec.ofNat 2 k.level), tag := none, val := v } k.pend
      shadow := if mode then a + 2 else k.shadow }

/-- The save set that SRET reads (R187): the one of the level. -/
def Core.saved (k : Core) : SaveSet := if k.level = 3 then k.saveM else k.saveS

/-! ### Memory instructions (R125, R126) -/

/-- The loads: the core, the width in bytes, whether it sign-extends, the destination, the base and the offset. -/
def loadRule : Instr → Option (CoreId × Nat × Bool × Reg × Reg × BitVec 16)
  | .ldB c rd rs1 imm => some (c, 1, true, rd, rs1, imm)
  | .ldBu c rd rs1 imm => some (c, 1, false, rd, rs1, imm)
  | .ldH c rd rs1 imm => some (c, 2, true, rd, rs1, imm)
  | .ldHu c rd rs1 imm => some (c, 2, false, rd, rs1, imm)
  | .ldW c rd rs1 imm => some (c, 4, true, rd, rs1, imm)
  | .ldWu c rd rs1 imm => some (c, 4, false, rd, rs1, imm)
  | .ldD c rd rs1 imm => some (c, 8, false, rd, rs1, imm)
  | _ => none

/-- The stores: the core, the width in bytes, the source, the base and the offset. -/
def storeRule : Instr → Option (CoreId × Nat × Reg × Reg × BitVec 16)
  | .stB c rs2 rs1 imm => some (c, 1, rs2, rs1, imm)
  | .stH c rs2 rs1 imm => some (c, 2, rs2, rs1, imm)
  | .stW c rs2 rs1 imm => some (c, 4, rs2, rs1, imm)
  | .stD c rs2 rs1 imm => some (c, 8, rs2, rs1, imm)
  | _ => none

/-- s[rs1] + imm, modulo 2^64 (R122). -/
def Core.effective (k : Core) (rs1 : Reg) (imm : BitVec 16) : Word := BitVec.ofInt 64 ((k.sreg rs1).toNat + imm.toInt)

/-- A doubleword access, or another scalar one (R198). -/
def widthKind (n : Nat) : AccKind := if n = 8 then .dword else .scalar

/-- A new entry of number `id`, issued at beat `b` by core `k` (R126): one of the memory queue waits for the place that the entry
before it has left, and for the acquire of that entry (R213, R284). -/
def entryOf (k : Core) (sync : Bool) (id b : Nat) (op : QOp) (pa va : Word) (pg : PageAttr) : QEntry :=
  { id := id, at_ := if sync then b + 1 else Nat.max (b + 1) k.memAt, op := op, pa := pa, va := va, sh := pg.sh, cls := pg.cls
    sent := false, again := false }

/-- The core with an entry at the end of its memory queue, or of its sync queue. -/
def Core.queued (k : Core) (sync : Bool) (e : QEntry) : Core :=
  if sync then { k with syncQ := k.syncQ ++ [e] } else { k with memQ := k.memQ ++ [e] }

/-- Whether a queue has a free entry: 16 entries of the memory queue, 8 of the sync queue (R126). -/
def Core.hasPlace (k : Core) (sync : Bool) : Prop := if sync then k.syncQ.length < 8 else k.memQ.length < 16

/-- A result awaited by request `tag`, due at distance 6 (R115). -/
def Core.awaiting (k : Core) (a tag : Nat) (rd : Reg) (va : Word) (n : Nat) (sg : Bool) : Core :=
  { k with pend := addPend { due := a + 6, dst := .sreg rd, tag := some tag, val := 0, va := va, bytes := n, signed := sg } k.pend }

/-- The beat at which what is due at beat `due` and reaches the rim at beat `arrival` is delivered to core `c` (R278, R279): on a guarded
path that is not contended at its due beat, unless a domain that serves the core has become slower since beat `t` of the request. -/
def State.deliveredAt (s : State) (c t due arrival : Nat) (guarded contended : Bool) : Nat :=
  if guarded = true ∧ contended = false ∧ s.slips (coreDomain c) t due = false then due else Nat.max due arrival
/-- Whether that delivery is late (R280). -/
def State.isLate (s : State) (c t due arrival : Nat) (guarded contended : Bool) : Prop :=
  guarded = true ∧ contended = false ∧ s.slips (coreDomain c) t due = true ∧ due < arrival
/-- The due beat of an answer at core `c`: a boot core's path has no spur and rim parts (R278, R282). -/
def dueAt (a : Ans) (c : Nat) : Nat := a.t + if c < 1048576 then a.path else a.path - 22

/-- The state with the number of its next request taken. -/
def State.numbered (s : State) : State := { s with nextId := s.nextId + 1 }

/-- Whether an answer to this source stays in the module: not one for another device's frame, or for the host. -/
def Src.inModule : Src → Bool
  | .remote _ _ _ => false
  | .host _ => false
  | _ => true

/-- How many lines `n` bytes from `a` on touch. -/
def lineCount (a n : Nat) : Nat := (a + n - 1) / 128 - a / 128 + 1

/-- `n` bytes of DRAM that `who` may read at once (R231 to R235, R395): the range and its saddles answer, no line has an error, no earlier
request of a line waits, and every sorter has room and holds no read. -/
def State.readable (s : State) (who : Who) (a n : Nat) : Prop :=
  0 < n ∧ a + n ≤ 0x18000000000 ∧ s.saddlesOff = false ∧ (∀ p, (s.plinth p).slots.length + 4 * lineCount a n ≤ 1024)
    ∧ (∀ p, ∀ x ∈ (s.plinth p).slots, x.write = true)
    ∧ ∀ l, a / 128 ≤ l → l ≤ (a + n - 1) / 128 →
        s.targetError (l * 128) who .read = 0 ∧ s.lineBad l = false ∧ s.lineBusy l = false

/-- `n` bytes of DRAM that `who` may write at once (R228, R233 to R235): the same, and no other device holds a line. -/
def State.writable (s : State) (who : Who) (a n : Nat) : Prop :=
  0 < n ∧ a + n ≤ 0x18000000000 ∧ s.saddlesOff = false ∧ (∀ p, (s.plinth p).slots.length + 4 * lineCount a n ≤ 1024)
    ∧ ∀ l, a / 128 ≤ l → l ≤ (a + n - 1) / 128 →
        s.targetError (l * 128) who .write = 0 ∧ s.lineBusy l = false ∧ s.toldOf [l] = []

/-- No request of the host link is under way, and no frame of the host waits (R321, R369). -/
def State.hostClear (s : State) : Prop :=
  s.host.waiting = [] ∧ (∀ r ∈ s.reqs, r.src.inModule = true) ∧ (∀ r ∈ s.resend, r.src.inModule = true)
    ∧ ∀ p, ∀ x ∈ (s.plinth p).refused, x.req.src.inModule = true

/-- The roll word of device `dev` stands at `a` (R297): the header at `base` has the device in its list of entrants, and the summit can read
what it has to and write the word at once (R321, R361). -/
def State.rollWord (s : State) (base dev a : Nat) : Prop :=
  let b := base % 0x18000000000
  let n := Nat.min 4096 (s.word (b + 8)).toNat
  let list := localOf (s.word (b + 16))
  s.readable .summit b 24 ∧ s.readable .summit list (2 * n) ∧ s.readable .summit a 8 ∧ s.writable .summit a 8
    ∧ (∀ p, (s.plinth p).slots.length ≤ 900)
    ∧ ∃ e, e < n ∧ a = b + 128 * (e + 1) ∧ s.readMem (list + 2 * e) 2 = dev ∧ ∀ i, i < e → s.readMem (list + 2 * i) 2 ≠ dev

/-- A manager frame of kind `kind` that came by `via` is sound and for this summit; nothing stands for the summit itself (R338, R350,
R352). -/
def State.forSummit (s : State) (via : Option MHead) (kind : MgrKind) : Prop :=
  ∀ h, via = some h → s.receives h.port = true ∧ mgrSound h kind = true ∧ h.f.dest.toNat = s.dev

/-- Core `q` has what the core entry at `e` names in local DRAM, its STAT apart, and else the values of a reset (R314, R316). -/
def State.entryLoaded (s : State) (e : Nat) (q : Core) : Prop :=
  let w (off : Nat) : Word := s.word (e + off)
  q.pc = (w 0x008 &&& 0xFFFFFFFFFFFC).truncate 48
    ∧ (∀ n, 1 ≤ n → n ≤ 31 → q.sreg (BitVec.ofNat 5 n) = w (8 * (n + 1)))
    ∧ q.saveS.ivec = w 0x110 &&& 0xFFFFFFFFFE00 ∧ q.saveM.ivec = w 0x118 &&& 0xFFFFFFFFFE00
    ∧ q.saveS.scratch = w 0x120 ∧ q.saveM.scratch = w 0x128
    ∧ q.atb = w 0x130 &&& 0xFFFFFFFFFC001 ∧ q.asid = w 0x138 &&& 0xFFFF
    ∧ (wf (w 0x140) 10 8 < 4 → q.fctl = w 0x140 &&& 0xF1F)
    ∧ (2 ≤ wf (w 0x148) 5 4 ∧ wf (w 0x148) 3 2 = 0 ∨ wf (w 0x148) 5 4 < 2 ∧ wf (w 0x148) 3 2 < 2 →
        q.vcfg = w64 (wf (w 0x148) 7 2 * 4
          + Nat.min (wf (w 0x148) 31 16) (2048 * 2 ^ wf (w 0x148) 7 6 / (8 * 2 ^ wf (w 0x148) 5 4)) * 2 ^ 16))
    ∧ (wf (w 0x150) 33 32 ≠ 2 → q.lcnt = w 0x150 &&& 0x3FFFFFFFF)
    ∧ q.lbeg = w 0x158 &&& 0xFFFFFFFFFFFC ∧ q.lend = w 0x160 &&& 0xFFFFFFFFFFFC
    ∧ q.tcfg = BitVec.ofNat 512 (s.readMem (e + 0x1C0) 64) &&& tcfgKeep
    ∧ q.memQ = [] ∧ q.syncQ = [] ∧ q.cq = [] ∧ q.pend = [] ∧ q.exc = none ∧ q.xfer = none ∧ q.rsv = none ∧ q.fcnt = 0
/-- Core `q` has the rest of what the entry at `e` of a save image names (R389, R393, R398). -/
def State.imageLoaded (s : State) (e : Nat) (q : Core) : Prop :=
  let w (off : Nat) : Word := s.word (e + off)
  s.entryLoaded e q
    ∧ q.saveS.pc = w 0x168 &&& 0xFFFFFFFFFFFC ∧ q.saveM.pc = w 0x190 &&& 0xFFFFFFFFFFFC
    ∧ (wf (w 0x170) 1 0 ≠ 2 → q.saveS.st = w 0x170 &&& 0xFFFF0000C003) ∧ (wf (w 0x198) 1 0 ≠ 2 → q.saveM.st = w 0x198 &&& 0xFFFF0000C003)
    ∧ (wf (w 0x178) 57 56 ≠ 2 → q.saveS.cause = w 0x178 &&& 0xE300FFFF0000FFFF)
    ∧ (wf (w 0x1A0) 57 56 ≠ 2 → q.saveM.cause = w 0x1A0 &&& 0xE300FFFF0000FFFF)
    ∧ q.saveS.faultv = w 0x180 ∧ q.saveM.faultv = w 0x1A8 ∧ q.saveS.aux = w 0x188 ∧ q.saveM.aux = w 0x1B0
    ∧ q.tprog = w 0x1B8 &&& 0xFC1F
/-- The committed slot maps of a cluster are those of the header at `a`, with no commit (R314, R315). -/
def State.mapsLoaded (s : State) (a : Nat) (cl : Cluster) : Prop :=
  cl.commit = none ∧ cl.mapsFrom = none
    ∧ cl.maps = { csmap := s.word a, csctl := s.word (a + 8) &&& 0xFFFFFFFF0004
                  cqmap := (List.range 4).map (fun i => s.word (a + 0x10 + 8 * i))
                  cqctl := (List.range 4).map (fun i => s.word (a + 0x30 + 8 * i) &&& 0xFFFFFFFF0000) }

/-- The core frozen from beat `b` on (R116). -/
def Core.frozenAt (k : Core) (why : Freeze) (b : Nat) : Core := { k with frozen := some (why, b), clear := 0 }

/-- The operand n of SIGC and WAITC: bits [23:0], at most 0xFF_FFFF (SIGC page). -/
def cairnCount (v : Word) : Nat := if 2 ^ 24 ≤ v.toNat then 0xFFFFFF else v.toNat

/-- `n` bytes of a line from byte `off` on, as a value of 64 bits (R125). -/
def lineValue (d : BitVec 1024) (off n : Nat) (sg : Bool) : Word :=
  let x := d.toNat / 2 ^ (8 * off) % 2 ^ (8 * n)
  if sg then BitVec.ofInt 64 (BitVec.ofNat (8 * n) x).toInt else w64 x

/-! ### Vector instructions -/

/-- Instruction `i` of core `c` issues as a vector instruction of a major and func: a ridge-die core (R112), fields and
configuration as R155 and R156 ask, groups as R152 asks, and no overrun (R165). -/
def State.vecIssues (s : State) (c : CoreId) (i : Instr) (major func : Nat) (f : VF) (cfg : Bool) (sh : VShape) : Prop :=
  s.issues c i = true ∧ c.val < 1048576 ∧ vecFieldsLegal major func f = true ∧ cfg = true ∧ sh.ok = true
    ∧ ((s.atIssue c).core c).vfinal ≤ oddFrom (s.issueBeat c)

/-- Core `k1`, the lines and masks of `k` written, past a vector instruction issued at beat `b`, active beat `a`: flags at
a + 4 + 2B, a scalar result at that beat or at a + 6 (R163), the final step after B collector beats (R160, R164), and the last
palette access in that step or, where it writes a mask or a scalar register, in the step before (R89, R161). -/
def Core.vecPast (k k1 : Core) (a b : Nat) (f : VF) (sh : VShape) (fl : FF) (rd : Option Word) : Core :=
  let g := k.vc.g
  let c0 := oddFrom b
  let n := sh.cls.beats g sh.src sh.dst (if c0 = k.vfinal then k.vfinalLine else none)
  let k2 := if fl = 0 then k1 else
    { k1 with pend := addPend { due := a + 4 + 2 * n, dst := .fflags, tag := none, val := w64 fl.toNat } k1.pend }
  let k3 := match rd with
    | some v => k2.withResult a (if sh.cls = VClass.maskOnly then 6 else 4 + 2 * n) f.vd v
    | none => k2
  let line := sh.cls.write g sh.dst (sh.cls.steps g)
  let access := if line.isSome then c0 + 2 * n else if sh.cls = VClass.maskOnly then k.vlast else c0 + 2 * n - 2
  ({ k3 with vfinal := c0 + 2 * n, vlast := access, vfinalLine := line } : Core).past b

/-- Element `i` of the second source (R155). -/
def secondSource (k : Core) (f : VF) (i : Nat) : Nat :=
  if f.x then (k.sreg f.vs2).toNat % 2 ^ k.vc.sew else (k.elems f.vs2.toNat k.vc.g k.vc.sew k.vc.vlmax).getD i 0

/-- The flags that any active element raises (R37, R153). -/
def flagsOf (k : Core) (f : VF) (fl : Nat → FF) : FF :=
  ((List.range k.vc.vlmax).filter (fun i => k.isActive k.vc.vl f.km.toNat i)).foldl (fun acc i => acc ||| fl i) 0

/-- An instruction that computes each element of vd from the same element of its sources. -/
structure LaneRule where
  core : CoreId
  major : Nat
  func : Nat
  f : VF
  one : Bool := false
  reads : Bool := false
  cls : VClass := .basic
  cfg : VCfg → Bool := fun _ => true
  op : Core → Nat → Nat → Nat → Nat → Nat × FF

/-- A signed element of `n` bits; an integer as an element of `n` bits. -/
def sgn (n a : Nat) : Int := (BitVec.ofNat n a).toInt
def bitsOf (n : Nat) (i : Int) : Nat := (BitVec.ofInt n i).toNat

/-- The lane operations of majors 0x31, 0x32, 0x33 and 0x37, and the two conversions with 32-bit integers (R38, R41, R141, R156,
R157). -/
def laneRule (i : Instr) : Option LaneRule :=
  let int (c : CoreId) (func : Nat) (f : VF) (op : Nat → Nat → Nat → Nat) : Option LaneRule :=
    some { core := c, major := 0x31, func := func, f := f, op := fun _ n a b _ => (op n a b, 0) }
  let flt (c : CoreId) (func : Nat) (f : VF) (op : Fmt → RM → Nat → Nat → Nat × FF) : Option LaneRule :=
    some { core := c, major := 0x32, func := func, f := f, cfg := VCfg.isFloat, op := fun k _ a b _ => op k.vc.f k.rm a b }
  let dot (c : CoreId) (func : Nat) (f : VF) (op : Nat → Nat → Nat → Nat) : Option LaneRule :=
    some { core := c, major := 0x33, func := func, f := f, reads := true, cls := if f.x then .basic else .three
           cfg := fun v => v.sew = 32, op := fun _ _ a b d => (op a b d, 0) }
  let fdot (fm : Fmt) (a b d : Nat) : Nat :=
    groupRule ((List.range (32 / fm.width)).map (fun j => (fm.val (unpackAt fm.width j a)).mul (fm.val (unpackAt fm.width j b)))) (some d)
  let bit (c : CoreId) (func : Nat) (f : VF) (op : Nat → Nat → Nat) : Option LaneRule :=
    some { core := c, major := 0x37, func := func, f := f, one := true, op := fun _ n a _ _ => (op n a, 0) }
  let crc (c : CoreId) (func : Nat) (f : VF) (sew poly : Nat) : Option LaneRule :=
    some { core := c, major := 0x37, func := func, f := f, one := true, reads := true, cfg := fun v => v.sew = sew
           op := fun _ n a _ d => (crcRule poly n d a, 0) }
  match i with
  | .vadd c f => int c 0x00 f (fun n a b => bitsOf n (sgn n a + sgn n b))
  | .vsub c f => int c 0x01 f (fun n a b => bitsOf n (sgn n a - sgn n b))
  | .vmul c f => int c 0x02 f (fun n a b => bitsOf n (sgn n a * sgn n b))
  | .vmulh c f => int c 0x03 f (fun n a b => bitsOf n (sgn n a * sgn n b / 2 ^ n))
  | .vmulhu c f => int c 0x04 f (fun n a b => a * b / 2 ^ n)
  | .vand c f => int c 0x05 f (fun _ a b => a &&& b)
  | .vor c f => int c 0x06 f (fun _ a b => a ||| b)
  | .vxor c f => int c 0x07 f (fun _ a b => a ^^^ b)
  | .vsll c f => int c 0x08 f (fun n a b => bitsOf n (a * 2 ^ (b % n)))
  | .vsrl c f => int c 0x09 f (fun n a b => a / 2 ^ (b % n))
  | .vsra c f => int c 0x0A f (fun n a b => bitsOf n (sgn n a / 2 ^ (b % n)))
  | .vmin c f => int c 0x0B f (fun n a b => bitsOf n (if sgn n a ≤ sgn n b then sgn n a else sgn n b))
  | .vmax c f => int c 0x0C f (fun n a b => bitsOf n (if sgn n a ≤ sgn n b then sgn n b else sgn n a))
  | .vminu c f => int c 0x0D f (fun _ a b => if a ≤ b then a else b)
  | .vmaxu c f => int c 0x0E f (fun _ a b => if a ≤ b then b else a)
  | .vmv c f => some { core := c, major := 0x31, func := 0x0F, f := f, one := true, op := fun _ _ a _ _ => (a, 0) }
  | .vfadd c f => flt c 0x00 f fAdd
  | .vfsub c f => flt c 0x01 f fSub
  | .vfmul c f => flt c 0x02 f fMul
  | .vfma c f => some { core := c, major := 0x32, func := 0x03, f := f, reads := true, cls := if f.x then .basic else .three
                        cfg := VCfg.isFloat, op := fun k _ a b d => fMa k.vc.f k.rm a b d }
  | .vfdiv c f => some { core := c, major := 0x32, func := 0x04, f := f, cls := .long, cfg := VCfg.isFloat
                         op := fun k _ a b _ => fDiv k.vc.f k.rm a b }
  | .vfsqrt c f => some { core := c, major := 0x32, func := 0x05, f := f, one := true, cls := .long, cfg := VCfg.isFloat
                          op := fun k _ a _ _ => fSqrt k.vc.f k.rm a }
  | .vfmin c f => flt c 0x06 f (fun fm _ a b => fMinMax fm false a b)
  | .vfmax c f => flt c 0x07 f (fun fm _ a b => fMinMax fm true a b)
  | .vfsgnj c f => flt c 0x08 f (fun fm _ a b => (fm.pack (fm.neg b) (a % 2 ^ fm.signBit), 0))
  | .vfsgnjn c f => flt c 0x09 f (fun fm _ a b => (fm.pack (!fm.neg b) (a % 2 ^ fm.signBit), 0))
  | .vfsgnjx c f => flt c 0x0A f (fun fm _ a b => (fm.pack (fm.neg a != fm.neg b) (a % 2 ^ fm.signBit), 0))
  | .vdot4 c f => dot c 0x10 f (fun a b d =>
      let sum : Int := sgn 32 d + ((List.range 4).map (fun j =>
        sgn 8 (a / 2 ^ (8 * j) % 256) * sgn 8 (b / 2 ^ (8 * j) % 256))).sum
      bitsOf 32 (if sum < -2 ^ 31 then -2 ^ 31 else if 2 ^ 31 ≤ sum then 2 ^ 31 - 1 else sum))
  | .vfdot4E4m3 c f => dot c 0x11 f (fdot e4m3)
  | .vfdot4E5m2 c f => dot c 0x12 f (fdot e5m2)
  | .vfdot2Bf16 c f => dot c 0x13 f (fdot bf16)
  | .vfdot2Fp16 c f => dot c 0x14 f (fdot fp16)
  | .vcvtI32F32 c f => some { core := c, major := 0x35, func := 0x04, f := f, one := true, cfg := fun v => v.sew = 32
                              op := fun k _ a _ _ => fToI32 k.rm a }
  | .vcvtF32I32 c f => some { core := c, major := 0x35, func := 0x05, f := f, one := true, cfg := fun v => v.sew = 32
                              op := fun k _ a _ _ => i32ToF k.rm a }
  | .vcrc32c c f => crc c 0x00 f 32 0x82F63B78
  | .vcrc64 c f => crc c 0x01 f 64 0xC96C5795D7870F42
  | .vparity c f => bit c 0x02 f (fun n a => (onesIn n a).length % 2)
  | .vbrev c f => bit c 0x03 f (fun n a => ((onesIn n a).map (fun i => 2 ^ (n - 1 - i))).sum)
  | .vpopc c f => bit c 0x04 f (fun n a => (onesIn n a).length)
  | .vclz c f => bit c 0x05 f (fun n a => match (onesIn n a).getLast? with
    | some i => n - 1 - i
    | none => n)
  | _ => none

/-- The groups of a lane instruction (R152, R161). -/
def LaneRule.shape (r : LaneRule) (v : VCfg) : VShape :=
  let vd : Grp := (r.f.vd.toNat, v.g)
  { cls := r.cls, apart := false
    src := (r.f.vs1.toNat, v.g) :: ((if r.one || r.f.x then [] else [(r.f.vs2.toNat, v.g)]) ++ (if r.reads then [vd] else []))
    dst := [vd] }

/-- An instruction whose sources and destination differ in their groups or in the width of their elements: the group size and
element width of the source and of the destination (R152, R156). -/
structure ConvRule where
  core : CoreId
  major : Nat
  func : Nat
  f : VF
  one : Bool
  cls : VClass
  sg : Nat
  sw : Nat
  dg : Nat
  dw : Nat
  cfg : Bool
  op : Nat → Nat → Nat × FF

/-- The widening products and sums and the conversions between formats, for a core `k` (R33, R38, R156). -/
def convRule (i : Instr) (k : Core) : Option ConvRule :=
  let v := k.vc
  let wide (c : CoreId) (func : Nat) (f : VF) (op : Int → Int → Int) (s : Nat → Int) : Option ConvRule :=
    some { core := c, major := 0x33, func := func, f := f, one := false, cls := .widen2, sg := v.g, sw := v.sew, dg := 2 * v.g
           dw := 2 * v.sew, cfg := v.sew ≠ 64, op := fun a b => (bitsOf (2 * v.sew) (op (s a) (s b)), 0) }
  match i with
  | .vwmul c f => wide c 0x00 f (· * ·) (sgn v.sew)
  | .vwmulu c f => wide c 0x01 f (· * ·) (fun a => a)
  | .vwadd c f => wide c 0x02 f (· + ·) (sgn v.sew)
  | .vfwmul c f => some { core := c, major := 0x33, func := 0x03, f := f, one := false, cls := .widen2, sg := v.g, sw := v.sew
                          dg := 2 * v.g, dw := 32, cfg := v.sew = 16, op := fWideMul v.f k.rm }
  | .vcvtF32H c f => some { core := c, major := 0x35, func := 0x00, f := f, one := true, cls := .widen2, sg := v.g, sw := v.sew
                            dg := 2 * v.g, dw := 32, cfg := v.sew = 16, op := fun a _ => fConv v.f fp32 k.rm k.sate4 a }
  | .vcvtF32Q c f => some { core := c, major := 0x35, func := 0x02, f := f, one := true, cls := .widen4, sg := v.g, sw := v.sew
                            dg := 4 * v.g, dw := 32, cfg := v.sew = 8 && v.g ≤ 2
                            op := fun a _ => fConv v.f fp32 k.rm k.sate4 a }
  | .vcvtHF32 c f => some { core := c, major := 0x35, func := 0x01, f := f, one := true, cls := .narrow2, sg := 2 * v.g, sw := 32
                            dg := v.g, dw := v.sew, cfg := v.sew = 16, op := fun a _ => fConv fp32 v.f k.rm k.sate4 a }
  | .vcvtQF32 c f => some { core := c, major := 0x35, func := 0x03, f := f, one := true, cls := .narrow4, sg := 4 * v.g, sw := 32
                            dg := v.g, dw := v.sew, cfg := v.sew = 8 && v.g ≤ 2
                            op := fun a _ => fConv fp32 v.f k.rm k.sate4 a }
  | _ => none

/-- The groups of such an instruction: no destination register is a source (R152). -/
def ConvRule.shape (r : ConvRule) (v : VCfg) : VShape :=
  { cls := r.cls, apart := true
    src := (r.f.vs1.toNat, r.sg) :: (if r.one || r.f.x then [] else [(r.f.vs2.toNat, v.g)])
    dst := [(r.f.vd.toNat, r.dg)] }

/-- The comparisons (R42, R156): func, whether the configuration must be a floating one, and the truth value and flags. -/
def compareRule (i : Instr) (v : VCfg) : Option (CoreId × Nat × VF × Bool × (Nat → Nat → Bool × FF)) :=
  let z (a : Nat) : Int := sgn v.sew a
  match i with
  | .vcmpeq c f => some (c, 0x00, f, true, fun a b => (decide (a = b), 0))
  | .vcmpne c f => some (c, 0x01, f, true, fun a b => (decide (a ≠ b), 0))
  | .vcmplt c f => some (c, 0x02, f, true, fun a b => (decide (z a < z b), 0))
  | .vcmple c f => some (c, 0x03, f, true, fun a b => (decide (z a ≤ z b), 0))
  | .vcmpltu c f => some (c, 0x04, f, true, fun a b => (decide (a < b), 0))
  | .vcmpleu c f => some (c, 0x05, f, true, fun a b => (decide (a ≤ b), 0))
  | .vfcmpeq c f => some (c, 0x08, f, v.isFloat, fCmp v.f .eq)
  | .vfcmpne c f => some (c, 0x09, f, v.isFloat, fCmp v.f .ne)
  | .vfcmplt c f => some (c, 0x0A, f, v.isFloat, fCmp v.f .lt)
  | .vfcmple c f => some (c, 0x0B, f, v.isFloat, fCmp v.f .le)
  | _ => none

/-- The operations on whole mask registers (R156), bit by bit. -/
def maskRule : Instr → Option (CoreId × Nat × VF × (Bool → Bool → Bool))
  | .kand c f => some (c, 0x10, f, fun a b => a && b)
  | .kor c f => some (c, 0x11, f, fun a b => a || b)
  | .kxor c f => some (c, 0x12, f, fun a b => a ^^ b)
  | .kandn c f => some (c, 0x13, f, fun a b => a && !b)
  | .knot c f => some (c, 0x14, f, fun a _ => !a)
  | _ => none

/-- The shape of an instruction that writes a scalar register from a vector group; of one that reads masks only. -/
def scalarResultShape (f : VF) (v : VCfg) : VShape :=
  { cls := .scalar, src := [(f.vs1.toNat, v.g)], dst := [], apart := false }
def masksOnlyShape : VShape := { cls := .maskOnly, src := [], dst := [], apart := false }

/-- The bits of mask register ka below VL, lowest first; the indices of the active elements. -/
def maskOnes (k : Core) (f : VF) : List Nat := (List.range k.vc.vl).filter (fun i => (k.mask f.vs1.toNat).getLsbD i)
def activeIndices (k : Core) (f : VF) : List Nat :=
  (List.range k.vc.vlmax).filter (fun i => k.isActive k.vc.vl f.km.toNat i)

/-- The instructions with a scalar destination (R156, R158), for a core `k`: func, the configuration's condition, the shape, the
value and the flags. -/
def scalarResultRule (i : Instr) (k : Core) : Option (CoreId × Nat × VF × Bool × VShape × Word × FF) :=
  let v := k.vc
  let el (f : VF) (j : Nat) : Nat := (k.elems f.vs1.toNat v.g v.sew v.vlmax).getD j 0
  let low (f : VF) : Nat := (k.sreg f.vs2).toNat % 2 ^ 32
  let fold (f : VF) (mx : Bool) : Nat × FF := (activeIndices k f).foldl (fun acc j =>
    ((fMinMax fp32 mx acc.1 (el f j)).1, acc.2 ||| (fMinMax fp32 mx acc.1 (el f j)).2)) (low f, 0)
  match i with
  | .kpopc c f => some (c, 0x15, f, true, masksOnlyShape, w64 (maskOnes k f).length, 0)
  | .kfirst c f => some (c, 0x16, f, true, masksOnlyShape, (maskOnes k f).head?.elim (BitVec.allOnes 64) w64, 0)
  | .vredsum c f => some (c, 0x18, f, true, scalarResultShape f v,
      BitVec.ofInt 64 ((k.sreg f.vs2).toInt + ((activeIndices k f).map (fun j => sgn v.sew (el f j))).sum), 0)
  | .vfredsum c f => some (c, 0x19, f, v.isF32, scalarResultShape f v,
      w64 ((List.range (v.vlmax / 32)).foldl (fun acc g =>
        let ts := ((activeIndices k f).filter (fun j => j / 32 = g)).map (fun j => fp32.val (el f j))
        if ts.isEmpty then acc else groupRule ts (some acc)) (low f)), 0)
  | .vfredmax c f => some (c, 0x1A, f, v.isF32, scalarResultShape f v, w64 (fold f true).1, (fold f true).2)
  | .vfredmin c f => some (c, 0x1B, f, v.isF32, scalarResultShape f v, w64 (fold f false).1, (fold f false).2)
  | .vext c f => some (c, 0x1C, f, true, scalarResultShape f v,
      if v.vlmax ≤ (k.sreg f.vs2).toNat then 0 else BitVec.ofInt 64 (sgn v.sew (el f (k.sreg f.vs2).toNat)), 0)
  | _ => none

/-- The vector format of an instruction other than VSETVL, for a core `k`: the core, major and func, the fields, the configuration's
condition and the shape (R152, R155, R156). -/
def vecForm (i : Instr) (k : Core) : Option (CoreId × Nat × Nat × VF × Bool × VShape) :=
  let v := k.vc
  let grp (r : Reg) : Nat × Nat := (r.toNat, v.g)
  match laneRule i, convRule i k, compareRule i v, maskRule i, scalarResultRule i k with
  | some r, _, _, _, _ => some (r.core, r.major, r.func, r.f, r.cfg v, r.shape v)
  | none, some r, _, _, _ => some (r.core, r.major, r.func, r.f, r.cfg, r.shape v)
  | none, none, some (c, func, f, cfg, _), _, _ =>
    some (c, 0x36, func, f, cfg, { cls := .basic, apart := false, dst := []
                                   src := grp f.vs1 :: (if f.x then [] else [grp f.vs2]) })
  | none, none, none, some (c, func, f, _), _ => some (c, 0x36, func, f, true, masksOnlyShape)
  | none, none, none, none, some (c, func, f, cfg, sh, _, _) => some (c, 0x36, func, f, cfg, sh)
  | none, none, none, none, none =>
    let pair (c : CoreId) (func : Nat) (f : VF) : Option (CoreId × Nat × Nat × VF × Bool × VShape) :=
      some (c, 0x34, func, f, v.isF32 && v.g ≤ 4 && f.vd.toNat % (2 * v.g) = 0,
        { cls := .pair, src := [grp f.vs1, grp f.vs2], dst := [grp f.vd, (f.vd.toNat + v.g, v.g)], apart := true })
    match i with
    | .vbcast c f => some (c, 0x31, 0x10, f, true, { cls := .basic, src := [], dst := [grp f.vd], apart := false })
    | .vsel c f => some (c, 0x31, 0x11, f, true, { cls := .basic, src := grp f.vs1 :: (if f.x then [] else [grp f.vs2])
                                                   dst := [grp f.vd], apart := false })
    | .vaddp c f => pair c 0x00 f
    | .vmulp c f => pair c 0x01 f
    | .vcvtF2mx c ty f => some (c, 0x35, 0x08 + ty.val, f, v.isFloat && v.vlmax ≤ 256,
        { cls := .toMx, src := [grp f.vs1], dst := [(f.vd.toNat, 1), (f.vs2.toNat, 1)], apart := true })
    | .vcvtMx2f c ty f => some (c, 0x35, 0x10 + ty.val, f, v.isFloat && v.vlmax ≤ 256,
        { cls := .fromMx, src := [(f.vs1.toNat, 1), (f.vs2.toNat, 1)], dst := [grp f.vd], apart := true })
    | _ => none

/-! ### Exact values and rounding (R27, R37, R38) -/

/-- The rational number that a finite encoding stands for (R27). -/
def Fmt.num (f : Fmt) (x : Nat) : ℚ :=
  let mag : ℚ :=
    if f.expo x = 0 then f.frac x * 2 ^ (1 - (f.bias : ℤ) - f.fbits)
    else (2 ^ f.fbits + f.frac x) * 2 ^ ((f.expo x : ℤ) - f.bias - f.fbits)
  if f.neg x then -mag else mag
/-- An encoding that stands for a number. -/
def Fmt.finite (f : Fmt) (x : Nat) : Prop := f.isNan x = false ∧ f.isInf x = false

/-- `r` is the encoding nearest to `x`, of two that are as near the even one; a number below zero has its sign. -/
def Fmt.nearest (f : Fmt) (x : ℚ) (r : Nat) : Prop :=
  r < 2 ^ f.width ∧ f.finite r ∧ (x ≠ 0 → f.neg r = decide (x < 0))
    ∧ ∀ y, f.finite y → |x - f.num r| ≤ |x - f.num y| ∧ (|x - f.num r| = |x - f.num y| → f.num y ≠ f.num r → r % 2 = 0)

/-- Whether a number is delivered as an infinity of its sign (R38): to nearest even, from half a last place above the largest finite
value on; in a directed mode, above that value in the mode's direction. -/
def Fmt.toInf (f : Fmt) (rm : RM) (x : ℚ) : Prop :=
  let top := f.num f.maxFinite
  match rm with
  | .near => top + 2 ^ ((f.expAll : ℤ) - f.bias - f.fbits - 2) ≤ |x|
  | .zero => False
  | .down => x < -top
  | .up => top < x

/-- `r` is the number `x` rounded once into a format with infinities, with subnormals (R38). -/
def Fmt.rounds (f : Fmt) (rm : RM) (x : ℚ) (r : Nat) : Prop :=
  (f.toInf rm x → r = f.pack (x < 0) f.inf)
  ∧ (¬f.toInf rm x →
    r < 2 ^ f.width ∧ f.finite r ∧ (x ≠ 0 → f.neg r = decide (x < 0)) ∧
    match rm with
    | .near => f.nearest x r
    | .zero => |f.num r| ≤ |x| ∧ ∀ y, f.finite y → |f.num y| ≤ |x| → |f.num y| ≤ |f.num r|
    | .down => f.num r ≤ x ∧ ∀ y, f.finite y → f.num y ≤ x → f.num y ≤ f.num r
    | .up => x ≤ f.num r ∧ ∀ y, f.finite y → x ≤ f.num y → f.num r ≤ f.num y)

/-- Whether a number overflows: rounded with unbounded exponent it exceeds the largest finite value (R37). -/
def Fmt.over (f : Fmt) (rm : RM) (x : ℚ) : Prop :=
  let past : ℚ := 2 ^ ((f.expAll : ℤ) - f.bias)
  f.toInf rm x ∨ match rm with
    | .near => False
    | .zero => past ≤ |x|
    | .down => past ≤ x
    | .up => x ≤ -past
/-- Whether a number is tiny: rounded with unbounded exponent it stays below the smallest normal value (R37). -/
def Fmt.tiny (f : Fmt) (rm : RM) (x : ℚ) : Prop :=
  let least : ℚ := 2 ^ (1 - (f.bias : ℤ))
  let away : Prop := (rm = .down ∧ x < 0) ∨ (rm = .up ∧ 0 < x)
  (rm = .near → |x| < least * (1 - 2 ^ (-(f.fbits : ℤ) - 2)))
    ∧ (rm ≠ .near → ¬away → |x| < least) ∧ (away → |x| ≤ least * (1 - 2 ^ (-(f.fbits : ℤ) - 1)))
/-- The flags of a finite number `x` that is delivered as `r` (R37). -/
def Fmt.raises (f : Fmt) (rm : RM) (x : ℚ) (r : Nat) (fl : FF) : Prop :=
  let inexact : Prop := ¬(f.finite r ∧ f.num r = x)
  (fl &&& fOF ≠ 0 ↔ f.over rm x) ∧ (fl &&& fNX ≠ 0 ↔ inexact) ∧ (fl &&& fUF ≠ 0 ↔ inexact ∧ f.tiny rm x)
    ∧ fl &&& (fNV ||| fDZ) = 0

/-- The number of a finite value, and whether a value is finite. -/
def Val.num : Val → ℚ
  | .fin n m e => if n then -((m : ℚ) * 2 ^ e) else (m : ℚ) * 2 ^ e
  | _ => 0
def Val.isFin : Val → Bool
  | .fin _ _ _ => true
  | _ => false
/-- A term cut to the window of R46 below a leading bit of weight 2^E: a multiple of 2^(E − 26), toward zero. -/
def cutTerm (E : ℤ) (t : Val) : ℚ :=
  let u : ℚ := 2 ^ (E - 26)
  if t.num < 0 then -(⌊-t.num / u⌋ * u) else ⌊t.num / u⌋ * u
/-- `E` is the weight of the leading bit of the largest term. -/
def leads (E : ℤ) (ts : List Val) : Prop := (∀ t ∈ ts, |t.num| < 2 ^ (E + 1)) ∧ ∃ t ∈ ts, (2 : ℚ) ^ E ≤ |t.num|

/-- The formats of the floating-point tile types (R26). -/
def tileFormats : List (Nat × Fmt) :=
  [(0, e4m3), (1, e5m2), (2, e4m3), (3, e5m2), (4, e3m2), (5, e2m3), (6, e2m1), (8, bf16), (9, fp16)]

/-! ### Canvas, tiles, handlers -/

/-- The canvas commands: the core, the kind (0 TMMA, 1 TMMAP, 2 TMMAQ), the registers, ACC, the variant, M and N (R60, R61). -/
def canvasRule : Instr → Option (CoreId × Nat × Nat × Nat × Nat × Bool × Nat × Nat × Nat)
  | .tmma c tc ta tb acc var mm1 nm1 => some (c, 0, tc.toNat, ta.toNat, tb.toNat, acc, var.toNat, mm1.toNat + 1, nm1.toNat + 1)
  | .tmmap c tc ta tb acc mm1 nm1 => some (c, 1, tc.toNat, ta.toNat, tb.toNat, acc, 0, mm1.toNat + 1, nm1.toNat + 1)
  | .tmmaq c tc ta tb acc mm1 nm1 => some (c, 2, tc.toNat, ta.toNat, tb.toNat, acc, 0, mm1.toNat + 1, nm1.toNat + 1)
  | _ => none

/-- The first slot beat 0 that a command issued at beat `b` can have: 34 beats after issue, 18 for TMMAQ, and after the core's
last command's (R60). -/
def Core.firstSlot (k : Core) (kind b : Nat) : Nat := Nat.max (b + if kind = 2 then 18 else 34) (k.lastStart + 1)

/-- The core held in a tile instruction's freeze from beat `b`: it begins at beat `t` and goes on at beat `e` (R89, R116). -/
def Core.heldTo (k : Core) (b e : Nat) : Core := { k with fcnt := k.fcnt + (e - b - 1), next := e }

/-- The core in a handler at level `l` (R181, R185, R186): the save set written, TPROG cleared, the level and its live bit set, the
pc at the vector. -/
def Core.entered (k : Core) (l cause : Nat) (faultv : Word) (restart : BitVec 48) (x offset : Nat) : Core :=
  let old := if l = 3 then k.saveM else k.saveS
  let target := match k.slot with
    | some t => t.toNat / 4 * 4
    | none => 0
  let set : SaveSet :=
    { old with
      pc := w64 (restart.toNat / 4 * 4), st := k.stat, cause := w64 cause, faultv := faultv
      aux := w64 (k.tprog.toNat % 65536 * 2 ^ 48 + target + (if k.atLend then 2 else 0) + if k.slot.isSome then 1 else 0) }
  { k with
    saveM := if l = 3 then set else k.saveM
    saveS := if l = 3 then k.saveS else set
    tprog := 0
    stat := wsetb (wset k.stat 1 0 l) (if l = 3 then 15 else 14) true
    rsv := none
    noint := none
    noIntr := false
    exc := none
    slot := none
    pc := pcOf (wf old.ivec 47 9 * 512 + offset)
    next := Nat.max k.next (Nat.max (x + 8 + k.fcnt) (k.vfinal + 2)) }

/-- CAUSE (R179): the interrupt, escalation and shadow bits, the target level, the error code and the code. -/
def causeWord (int esc shd : Bool) (target ecode code : Nat) : Nat :=
  (if int then 2 ^ 63 else 0) + (if esc then 2 ^ 62 else 0) + (if shd then 2 ^ 61 else 0) + target * 2 ^ 56 + ecode * 2 ^ 32 + code

/-! ### Cairns, commands, frames -/

/-- The cairn unit of saddle `n` is on and performs request `r` next, at cairn `q` and offset `off`, and accepts the access (R235, R266,
R383). -/
def State.unitTakes (s : State) (n : Nat) (r : Req) (q off : Nat) (write : Bool) : Prop :=
  s.saddlesOff = false ∧ nextAt n s.reqs = some r ∧ cairnOf r = some (q, off)
    ∧ s.targetError (localOf r.addr) (r.who s.dev) (if write then .write else .read) = 0

/-- What waits at the outlet of saddle `n`: request, requester, code and sense (R258). -/
def State.atOutlet (s : State) (n : Nat) : List (Nat × Src × BitVec 16 × Option Bool) :=
  (s.saddle n).outlet.map (fun a => (a.id, a.dst, a.code, a.sense))
/-- The answers without error to some waiters, in list order. -/
def answersTo (ws : List Waiter) : List (Nat × Src × BitVec 16 × Option Bool) := ws.map (fun w => (w.req.id, w.req.src, 0, none))

/-- A cairn with a FLAGS bit set by a request (R250, R252). -/
def Cairn.flagged (k : Cairn) (f : BitVec 4) (ident : Word) : Cairn :=
  { k with flags := k.flags ||| f, flagid := if k.flags = 0 then ident else k.flagid }

/-- The rows of the near-memory operations: the plinth and OP (R238). -/
def nmcRow : Instr → Option (PlinthId × Nat)
  | .copy p => some (p, 0)
  | .copyd p => some (p, 1)
  | .digest p => some (p, 2)
  | .gather p => some (p, 3)
  | .scatter p => some (p, 4)
  | .sort p => some (p, 5)
  | .merge p => some (p, 6)
  | .reduce p => some (p, 7)
  | .compress p => some (p, 8)
  | .decompress p => some (p, 9)
  | .gfmac p => some (p, 10)
  | .pinrel p => some (p, 11)
  | _ => none

/-- The byte that the last of some writes gives an address, if one does. -/
def lastWrite (ws : List (Nat × List Byte)) (x : Nat) : Option Byte :=
  ws.foldl (fun o w => if w.1 ≤ x ∧ x < w.1 + w.2.length then w.2[x - w.1]? else o) none

/-- The request frames and the answers to them (R349): the port, the frame and its TYPE. -/
def frameRow : Instr → Option (PortId × Frame × Nat)
  | .rd p f => some (p, f, 0x00)
  | .rdx p f => some (p, f, 0x01)
  | .prd p f => some (p, f, 0x02)
  | .wr p f => some (p, f, 0x03)
  | .scFrame p f => some (p, f, 0x04)
  | .csig p f => some (p, f, 0x05)
  | .cwait p f => some (p, f, 0x06)
  | .ccan p f => some (p, f, 0x07)
  | .nmcFrame p f => some (p, f, 0x08)
  | .inv p f => some (p, f, 0x09)
  | .srel p f => some (p, f, 0x0A)
  | .data p f => some (p, f, 0x10)
  | .ack p f => some (p, f, 0x11)
  | .cans p f => some (p, f, 0x12)
  | .iack p f => some (p, f, 0x13)
  | _ => none

/-- What the request frames for a line of DRAM or a cairn ask of their target (R349): the kind, the offset of the word in its line,
and the identity word where the frame carries one. -/
def frameAsks : Instr → Option (RKind × Nat × Option Word)
  | .rd _ f => some (.read (f.aux.getLsbD 15), if f.aux.getLsbD 15 then 8 * (f.aux.toNat % 16) else 0, none)
  | .rdx _ f => some (.readReserve true, 8 * (f.aux.toNat % 16), some ((f.flits.getD 0 0).extractLsb' 0 64))
  | .prd _ f => some (.prefetch (f.aux.getLsbD 15) (f.aux.extractLsb' 13 2), 0, none)
  | .wr _ f =>
    if f.aux.getLsbD 15 then some (.word ((f.flits.getD 0 0).extractLsb' 0 64), 8 * (f.aux.toNat % 16), none)
    else if f.aux.getLsbD 14 then some (.write (f.flits.getD 0 0) (flitsLine (f.flits.drop 1)) false, 0, none)
    else some (.write (BitVec.allOnes 128) (flitsLine f.flits) false, 0, none)
  | .scFrame _ f =>
    some (.storeCond true ((f.flits.getD 0 0).extractLsb' 64 64), 8 * (f.aux.toNat % 16), some ((f.flits.getD 0 0).extractLsb' 0 64))
  | .csig _ f =>
    let id : Word := (f.flits.getD 0 0).extractLsb' 0 64
    let n := (f.flits.getD 0 0).toNat / 2 ^ 64 % 2 ^ 24
    some (if wf id 47 46 = 1 then .decrement n else .signal n, 0, some id)
  | .cwait _ f =>
    let id : Word := (f.flits.getD 0 0).extractLsb' 0 64
    let v : Word := (f.flits.getD 0 0).extractLsb' 64 64
    some (if wf id 47 46 = 3 then .waitBar (if wb v 25 then some (wb v 24) else none) else .waitGe (wf v 23 0), 0, some id)
  | .ccan _ f => some (.cancel, 0, some ((f.flits.getD 0 0).extractLsb' 0 64))
  | .srel _ f => some (.sketchRelease f.line.toNat, 0, none)
  | _ => none

/-! ### The dictionary and its sessions -/

/-- A write of `v` to an object by master `m` passes every check (R410 to R414, R426, R428, R443). -/
def State.accepts (s : State) (m : Master) (idx sub v : Nat) : Prop :=
  s.power.off = false ∧ (s.romOnly = true → romServes idx = true) ∧ s.tableAllows m idx true = true
    ∧ ∃ ty r, objDesc idx sub = some (ty, r) ∧ s.rightStatus m r = 0 ∧ valueOk ty (natBytes ty.size v) = true ∧ objInRange idx sub v = true
        ∧ v < 2 ^ (8 * ty.size)

/-- The slot that a datagram's SID names (R420). -/
def slotOf (d : Dgram) : Nat := d.sid.toNat % 16

/-- A datagram is the next request, of type `ty`, of an open session (R418, R421, R423, R440, R443). -/
def State.nextRequest (s : State) (d : Dgram) (ty : Nat) : Prop :=
  s.portServes d.portB = true ∧ s.takesDgram d = true ∧ dgramForm d = true ∧ d.type.toNat = ty ∧ slotOf d ∈ slotsOf d.portB
    ∧ (s.session (slotOf d)).st ≠ 0 ∧ (s.session (slotOf d)).sid = d.sid ∧ dgramTagged d (s.session (slotOf d)).key = true
    ∧ d.seq = (s.session (slotOf d)).lastSeq + 1 ∧ s.fuses.lc ≠ 5 ∧ s.romOnly = false

/-- The state in which such a request is performed: it is counted, and its SEQ is the session's last (R423, R435). -/
def State.taken (s : State) (d : Dgram) : State :=
  (s.count (portIdx d.portB) 0x0B).setSession (slotOf d)
    { s.session (slotOf d) with st := 2, lastSeq := d.seq, iid := d.iid, lastReply := none }

/-- From state `t` the reply leaves, tagged with the session's key, and is kept for a repetition where the session is still open
(R420, R423). -/
def State.replied (t : State) (d : Dgram) (key : List Byte) (status aux : Nat) (data : List Byte) : State :=
  let r := dgramReply d key d.sid status aux data
  let u : State := { t with replies := t.replies ++ [r] }
  if (t.session (slotOf d)).st = 0 then u else u.setSession (slotOf d) { t.session (slotOf d) with lastReply := some r }

/-! ### Commands, by what they are and what they may touch -/

/-- The core whose instruction a command is (R119); words that are no instruction, events and requests are no instruction of a core. -/
def instrCore : Instr → Option CoreId
  | .add c _ _ _ => some c
  | .sub c _ _ _ => some c
  | .and c _ _ _ => some c
  | .or c _ _ _ => some c
  | .xor c _ _ _ => some c
  | .sll c _ _ _ => some c
  | .srl c _ _ _ => some c
  | .sra c _ _ _ => some c
  | .slt c _ _ _ => some c
  | .sltu c _ _ _ => some c
  | .min c _ _ _ => some c
  | .max c _ _ _ => some c
  | .minu c _ _ _ => some c
  | .maxu c _ _ _ => some c
  | .addi c _ _ _ => some c
  | .slti c _ _ _ => some c
  | .sltiu c _ _ _ => some c
  | .andi c _ _ _ => some c
  | .ori c _ _ _ => some c
  | .xori c _ _ _ => some c
  | .slli c _ _ _ => some c
  | .srli c _ _ _ => some c
  | .srai c _ _ _ => some c
  | .lui c _ _ => some c
  | .auipc c _ _ => some c
  | .mul c _ _ _ => some c
  | .mulh c _ _ _ => some c
  | .mulhu c _ _ _ => some c
  | .mulhsu c _ _ _ => some c
  | .crc32c c _ _ _ _ => some c
  | .crc64 c _ _ _ _ => some c
  | .parity c _ _ _ => some c
  | .brev c _ _ _ => some c
  | .clz c _ _ _ => some c
  | .ctz c _ _ _ => some c
  | .popc c _ _ _ => some c
  | .ldB c _ _ _ => some c
  | .ldBu c _ _ _ => some c
  | .ldH c _ _ _ => some c
  | .ldHu c _ _ _ => some c
  | .ldW c _ _ _ => some c
  | .ldWu c _ _ _ => some c
  | .ldD c _ _ _ => some c
  | .stB c _ _ _ => some c
  | .stH c _ _ _ => some c
  | .stW c _ _ _ => some c
  | .stD c _ _ _ => some c
  | .pref c _ _ _ => some c
  | .lr c _ _ _ _ => some c
  | .sc c _ _ _ _ _ => some c
  | .fenceL c => some c
  | .fenceM c => some c
  | .fenceG c => some c
  | .fenceI c => some c
  | .beq c _ _ _ => some c
  | .bne c _ _ _ => some c
  | .blt c _ _ _ => some c
  | .bge c _ _ _ => some c
  | .bltu c _ _ _ => some c
  | .bgeu c _ _ _ => some c
  | .jal c _ => some c
  | .jalr c _ _ _ => some c
  | .loop c _ _ => some c
  | .sysr c _ _ => some c
  | .sysw c _ _ _ => some c
  | .syss c _ _ _ => some c
  | .sysc c _ _ _ => some c
  | .syscall c => some c
  | .sret c => some c
  | .sretSkip c => some c
  | .noint c _ => some c
  | .sigcAdd c _ _ _ => some c
  | .sigcDec c _ _ _ => some c
  | .waitcGe c _ _ _ => some c
  | .waitcBar c _ _ => some c
  | .nmc c _ _ _ => some c
  | .tmma c _ _ _ _ _ _ _ => some c
  | .tmmap c _ _ _ _ _ _ => some c
  | .tmmaq c _ _ _ _ _ _ => some c
  | .tfence c => some c
  | .tcfg c _ => some c
  | .tcfgrd c _ => some c
  | .tld c _ _ _ _ _ => some c
  | .tst c _ _ _ _ _ => some c
  | .tmvv c _ _ _ => some c
  | .tmvt c _ _ _ => some c
  | .vsetvl c _ _ _ _ _ => some c
  | .vadd c _ => some c
  | .vsub c _ => some c
  | .vmul c _ => some c
  | .vmulh c _ => some c
  | .vmulhu c _ => some c
  | .vand c _ => some c
  | .vor c _ => some c
  | .vxor c _ => some c
  | .vsll c _ => some c
  | .vsrl c _ => some c
  | .vsra c _ => some c
  | .vmin c _ => some c
  | .vmax c _ => some c
  | .vminu c _ => some c
  | .vmaxu c _ => some c
  | .vmv c _ => some c
  | .vbcast c _ => some c
  | .vsel c _ => some c
  | .vfadd c _ => some c
  | .vfsub c _ => some c
  | .vfmul c _ => some c
  | .vfma c _ => some c
  | .vfdiv c _ => some c
  | .vfsqrt c _ => some c
  | .vfmin c _ => some c
  | .vfmax c _ => some c
  | .vfsgnj c _ => some c
  | .vfsgnjn c _ => some c
  | .vfsgnjx c _ => some c
  | .vwmul c _ => some c
  | .vwmulu c _ => some c
  | .vwadd c _ => some c
  | .vfwmul c _ => some c
  | .vdot4 c _ => some c
  | .vfdot4E4m3 c _ => some c
  | .vfdot4E5m2 c _ => some c
  | .vfdot2Bf16 c _ => some c
  | .vfdot2Fp16 c _ => some c
  | .vaddp c _ => some c
  | .vmulp c _ => some c
  | .vcvtF32H c _ => some c
  | .vcvtHF32 c _ => some c
  | .vcvtF32Q c _ => some c
  | .vcvtQF32 c _ => some c
  | .vcvtI32F32 c _ => some c
  | .vcvtF32I32 c _ => some c
  | .vcvtF2mx c _ _ => some c
  | .vcvtMx2f c _ _ => some c
  | .vcmpeq c _ => some c
  | .vcmpne c _ => some c
  | .vcmplt c _ => some c
  | .vcmple c _ => some c
  | .vcmpltu c _ => some c
  | .vcmpleu c _ => some c
  | .vfcmpeq c _ => some c
  | .vfcmpne c _ => some c
  | .vfcmplt c _ => some c
  | .vfcmple c _ => some c
  | .kand c _ => some c
  | .kor c _ => some c
  | .kxor c _ => some c
  | .kandn c _ => some c
  | .knot c _ => some c
  | .kpopc c _ => some c
  | .kfirst c _ => some c
  | .vredsum c _ => some c
  | .vfredsum c _ => some c
  | .vfredmax c _ => some c
  | .vfredmin c _ => some c
  | .vext c _ => some c
  | .vcrc32c c _ => some c
  | .vcrc64 c _ => some c
  | .vparity c _ => some c
  | .vbrev c _ => some c
  | .vpopc c _ => some c
  | .vclz c _ => some c
  | _ => none

/-- The commands that may write local DRAM: what sends or takes a store, a line or a near-memory command, what writes into rings or into
the refuge's save area, what may end an entry, whose save images are then invalid (R390), and what may end the refresh of DRAM (R405). -/
def mayWriteMemory : Instr → Bool
  | .ldB _ _ _ _ => true
  | .ldBu _ _ _ _ => true
  | .ldH _ _ _ _ => true
  | .ldHu _ _ _ _ => true
  | .ldW _ _ _ _ => true
  | .ldWu _ _ _ _ => true
  | .ldD _ _ _ _ => true
  | .tld _ _ _ _ _ _ => true
  | .tst _ _ _ _ _ _ => true
  | .tileRowArrival _ => true
  | .tileStoreRowAccept _ => true
  | .exceptionEntry _ => true
  | .interruptEntry _ => true
  | .memoryQueueSend _ _ => true
  | .errorAnswer _ _ _ => true
  | .waitcResend _ _ => true
  | .requestResend _ => true
  | .icacheFill _ _ _ => true
  | .storePathDrain _ => true
  | .clusterCacheFill _ => true
  | .sketchDataArrival _ => true
  | .plinthWrite _ => true
  | .sorterRetry _ => true
  | .copy _ => true
  | .copyd _ => true
  | .digest _ => true
  | .gather _ => true
  | .scatter _ => true
  | .sort _ => true
  | .merge _ => true
  | .reduce _ => true
  | .compress _ => true
  | .decompress _ => true
  | .gfmac _ => true
  | .pinrel _ => true
  | .recoveryTrigger _ _ _ => true
  | .resetCommand _ _ => true
  | .resetScrubLimit _ => true
  | .reloadFailure _ => true
  | .reloadRejoinLimit _ => true
  | .dropReport _ _ _ _ _ => true
  | .rcmdJoin _ => true
  | .rcmdLeave _ => true
  | .join _ _ _ => true
  | .leave _ _ _ => true
  | .report _ _ _ _ _ => true
  | .notice _ _ _ _ _ _ => true
  | .route _ _ => true
  | .routeEpochLimit _ => true
  | .memberLost _ _ => true
  | .beaconTimeout => true
  | .linkdown _ _ _ _ _ => true
  | .rd _ _ => true
  | .rdx _ _ => true
  | .prd _ _ => true
  | .wr _ _ => true
  | .scFrame _ _ => true
  | .csig _ _ => true
  | .cwait _ _ => true
  | .ccan _ _ => true
  | .nmcFrame _ _ => true
  | .inv _ _ => true
  | .srel _ _ => true
  | .data _ _ => true
  | .ack _ _ => true
  | .cans _ _ => true
  | .iack _ _ => true
  | .portTrainingDone _ _ _ => true
  | .portRetrainTimeout _ => true
  | .hwr _ => true
  | .dbell _ => true
  | .ringConfigWrite _ _ _ => true
  | .inputSample _ _ => true
  | .inputLoss => true
  | .inputOvervoltage => true
  | .brownoutClampLimit => true
  | .supplyFlagClear _ _ => true
  | .moduleRequestRun _ => true
  | .moduleRequestHold _ => true
  | .moduleRequestOff _ => true
  | .moduleRequestRestart _ => true
  | .spurRequestRun _ _ => true
  | .spurRequestDoze _ _ => true
  | .spurRequestNap _ _ => true
  | .blockAnswer _ => true
  | .clusterQuiesce _ => true
  | .entryLimit => true
  | .blockShutdown _ => true
  | .cadenceTracking _ => true
  | .cadenceFixed _ => true
  | .startupStepEnd => true
  | .release _ => true
  | .temperatureSample _ => true
  | .write _ => true
  | .dictionaryWrite _ _ _ _ => true
  | .apply _ _ => true
  | .mailboxOpDone _ => true
  | .store _ => true
  | .lcreq _ _ => true
  | .managementKeyWrite _ _ => true
  | .updcmd _ _ => true
  | .dbgwr _ => true
  | .bistStart _ => true
  | .bistAbort _ => true
  | .bistRunDone => true
  | .summitFault => true
  | .clusterRestore _ => true
  | .dbgrd _ => true
  | .iwordLoad _ => true
  | .iwordStore _ => true
  | .rimHeldEvent _ _ => true
  | .spurWake _ => true
  | .wakePhaseEnd => true
  | _ => false

end Sys2Proof.Machine
end

