-- ==== Sys2Proof/Certificates/Slice0/Obligations.lean ====
section
/-! DEFINITION. The statements about the module. -/

open Sys2Proof Sys2Proof.Machine

/-- The scalar instructions that only compute (R111, R114, R115, R120, R122 to R124, R141): each answers a next state in which the value
of the manual is on its way to the destination at its distance and the core has passed on; nothing else changes. The func codes of majors
0x01 and 0x02 are those of R123 and R124, with the fields of R119. -/
def Obligations.ScalarInstructionsComplete : Prop :=
  (∀ (s : State) (i : Instr) (c : CoreId) (rd : Reg) (d : Nat) (v : Word),
    scalarRule i ((s.atIssue c).core c).sreg ((s.atIssue c).core c).pc = some (c, rd, d, v) →
    s.issues c i = true →
    exec i s = .next ((s.atIssue c).modCore c (fun k => (k.withResult (s.issueActive c) d rd v).past (s.issueBeat c))))
  ∧ ∀ (c : CoreId) (d a b : Reg) (f : BitVec 11),
    let word (major : Nat) : Nat := major * 2 ^ 26 + d.toNat * 2 ^ 21 + a.toNat * 2 ^ 16 + b.toNat * 2 ^ 11 + f.toNat
    decodeWord c (word 0x01) = [Instr.add c d a b, .sub c d a b, .and c d a b, .or c d a b, .xor c d a b, .sll c d a b, .srl c d a b,
        .sra c d a b, .slt c d a b, .sltu c d a b, .min c d a b, .max c d a b, .minu c d a b, .maxu c d a b][f.toNat]?
    ∧ decodeWord c (word 0x02) = [Instr.mul c d a b, .mulh c d a b, .mulhu c d a b, .mulhsu c d a b][f.toNat]?

/-- The branches and jumps (R128, R129): each answers a next state with the delay slot next and, where it is taken, the target after it;
JAL and JALR write PC + 8 at distance 2, and a misaligned JALR target raises misaligned access. LOOP (R135 and its page): LBEG, LEND, the
count and the level are set at once, in the shadow of two beats in which SYSR reads them as they were, and a count of 0 goes past the
body.
The model's own readings and choices in it: log entries 16, 17, 19. -/
def Obligations.BranchesJumpsAndLoopsComplete : Prop :=
  (∀ (s : State) (i : Instr) (c : CoreId) (target : Option (BitVec 48)) (link : Option (Reg × Word)),
      controlRule i ((s.atIssue c).core c).sreg ((s.atIssue c).core c).pc = some (c, target, link) →
      s.issues c i = true →
      exec i s = .next ((s.atIssue c).modCore c (fun k =>
        (k.withLink (s.issueActive c) link).pastControl (s.issueBeat c) (k.pc + 4) target)))
  ∧ (∀ (s : State) (c : CoreId) (rs1 : Reg) (lenm1 : BitVec 11),
      s.issues c (.loop c rs1 lenm1) = true →
      let k := (s.atIssue c).core c
      let n := (k.sreg rs1).toNat % 2 ^ 32
      let last := pcOf (k.pc.toNat + 4 * (lenm1.toNat + 1))
      exec (.loop c rs1 lenm1) s = .next ((s.atIssue c).setCore c
        ({ k with
          lbeg := w64 (pcOf (k.pc.toNat + 4)).toNat
          lend := w64 last.toNat
          lcnt := w64 (k.level * 2 ^ 32 + n)
          loopSeen := k.loopSeen.filter (fun (e : Nat × Word × Word × Word) => s.issueActive c < e.1) ++
            [(s.issueActive c + 2, k.lcnt, k.lbeg, k.lend)]
          shadow := s.issueActive c + 2 }.pastControl (s.issueBeat c)
            (if n = 0 then pcOf (last.toNat + 4) else pcOf (k.pc.toNat + 4)) none)))
  ∧ (∀ (s : State) (c : CoreId) (rd rs1 : Reg) (imm : BitVec 16), s.issues c (.jalr c rd rs1 imm) = true →
      let target : Int := (((s.atIssue c).core c).sreg rs1).toNat + imm.toInt
      target % 4 ≠ 0 →
      exec (.jalr c rd rs1 imm) s = .next ((s.atIssue c).modCore c (fun k => k.recognised (s.issueBeat c) 0x06 (BitVec.ofInt 64 target))))
  ∧ (∀ (c : CoreId) (m : Fin 6) (a b : Reg) (off : BitVec 16),
      decodeWord c ((0x20 + m.val) * 2 ^ 26 + a.toNat * 2 ^ 21 + b.toNat * 2 ^ 16 + off.toNat) =
        [Instr.beq c a b off, .bne c a b off, .blt c a b off, .bge c a b off, .bltu c a b off, .bgeu c a b off][m.val]?)
  ∧ (∀ (c : CoreId) (off : BitVec 26), decodeWord c (0x26 * 2 ^ 26 + off.toNat) = some (.jal c off))
  ∧ (∀ (c : CoreId) (rd rs1 : Reg) (imm : BitVec 16),
      decodeWord c (0x27 * 2 ^ 26 + rd.toNat * 2 ^ 21 + rs1.toNat * 2 ^ 16 + imm.toNat) = some (.jalr c rd rs1 imm))

/-- The four accesses to system registers at a level that may make them (R115, R131, R134): the old value is on its way at distance 2 and
the new one at distance 3.
The model's own readings and choices in it: log entry 19. -/
def Obligations.SystemRegisterAccessesComplete : Prop :=
  ∀ (s : State) (i : Instr) (c : CoreId) (rd : Reg) (sr : BitVec 12) (new : Option (Word × Word × Bool)) (old : Word),
    let k := (s.atIssue c).core c
    old = (s.atIssue c).sysRead c (s.issueBeat c) sr.toNat →
    sysRule i old (k.sreg (sysSource i)) = some (c, rd, sr, new) →
    (sysLevels sr.toNat).1 ≤ k.level →
    (new.isSome = true → ∃ l, (sysLevels sr.toNat).2 = some l ∧ l ≤ k.level) →
    s.issues c i = true →
    exec i s = .next ((s.atIssue c).modCore c (fun k =>
      (((k.withResult (s.issueActive c) 2 rd old).withSysWrite (s.issueActive c) sr new).past (s.issueBeat c))))

/-- The instructions that raise an exception by what they are, or by the level or the operands they meet (R121, R128, R131, R143, R190):
the exception is recognised at the pc, with its cause and FAULTV, and nothing else happens.
The model's own readings and choices in it: log entry 16. -/
def Obligations.RaisingInstructions : Prop :=
  ∀ (s : State) (c : CoreId),
    let k := (s.atIssue c).core c
    let raised (code : Nat) (faultv : Word) : Out :=
      .next ((s.atIssue c).modCore c (fun k => k.recognised (s.issueBeat c) code faultv))
    (s.issues c (.syscall c) = true → exec (.syscall c) s = raised 0x0F 0)
    ∧ (∀ w : BitVec 32, (w.toNat / 2 ^ 26 = 0x3D ∨ w.toNat / 2 ^ 26 = 0x3E) → s.mayIssue c = true →
        exec (.unclaimedCoprocessor c w) s = raised 0x04 (w64 w.toNat))
    ∧ (∀ w : BitVec 32, decodeWord c w.toNat = none → s.mayIssue c = true →
        exec (.illegalInstruction c w) s = raised 0x03 (w64 w.toNat))
    ∧ (∀ i, (i = .sret c ∨ i = .sretSkip c ∨ ∃ n, i = .noint c n) → s.issues c i = true → k.level = 0 →
        exec i s = raised 0x05 (wordOf i))
    ∧ (∀ i rd sr new, sysRule i ((s.atIssue c).sysRead c (s.issueBeat c) sr.toNat) (k.sreg (sysSource i)) = some (c, rd, sr, new) →
        s.issues c i = true →
        (k.level < (sysLevels sr.toNat).1 ∨ (new.isSome = true ∧ ∀ l, (sysLevels sr.toNat).2 = some l → k.level < l)) →
        exec i s = raised 0x05 (wordOf i))
    ∧ (∀ rd rs1 imm, s.issues c (.jalr c rd rs1 imm) = true → ((k.sreg rs1).toNat + imm.toInt) % 4 ≠ 0 →
        exec (.jalr c rd rs1 imm) s = raised 0x06 (BitVec.ofInt 64 ((k.sreg rs1).toNat + imm.toInt)))

/-- SRET, SRET.SKIP and NOINT at level S or M (R106, R140, R170, R181, R183, R190 and the pages of SRET, SRET.SKIP and NOINT).
The model's own readings and choices in it: log entries 16, 18. -/
def Obligations.HandlerReturnAndNointComplete : Prop :=
  ∀ (s : State) (c : CoreId),
    let k := (s.atIssue c).core c
    let a := s.issueActive c
    let save := k.saved
    let left := (s.atIssue c).landAll c (a + 6)
    let count := wf (left.core c).lcnt 31 0
    let counts := wb save.aux 1 = true ∧ count ≠ 0
    let rest := if counts then count - 1 else count
    let back (q : Core) : Core :=
      { q with
        stat := (save.st &&& ~~~(w64 0xFF0000000003)) ||| (q.stat &&& w64 0xFF0000000000) |||
          (if c.val < 1048576 then save.st &&& 3 else 3)
        rsv := none, noint := none, noIntr := false, next := Nat.max (s.issueBeat c + 7) (q.vfinal + 2) }
    (s.issues c (.sret c) = true → k.level ≠ 0 →
      exec (.sret c) s = .next (left.modCore c (fun q =>
        { back q with
          tprog := w64 (wf save.aux 63 48) &&& w64 0xFC1F
          pc := pcOf (wf save.pc 47 0)
          slot := if wb save.aux 0 then some (pcOf (wf save.aux 47 2 * 4)) else none })))
    ∧ (s.issues c (.sretSkip c) = true → k.level ≠ 0 →
      exec (.sretSkip c) s = .next (left.modCore c (fun q =>
        { back q with
          tprog := 0
          lcnt := wset q.lcnt 31 0 rest
          slot := none
          pc := if wb save.aux 0 then pcOf (wf save.aux 47 2 * 4)
            else if wb save.aux 1 ∧ rest ≠ 0 then pcOf q.lbeg.toNat
            else if wb save.aux 1 then pcOf (q.lend.toNat + 4)
            else pcOf (wf save.pc 47 0 + 4) })))
    ∧ (∀ nm1 : BitVec 8, s.issues c (.noint c nm1) = true → k.level ≠ 0 →
      exec (.noint c nm1) s = .next ((s.atIssue c).modCore c (fun q =>
        ({ q with noint := if (∃ e, q.noint = some e ∧ a ≤ e) then q.noint else some (a + nm1.toNat + 1) } : Core).past
          (s.issueBeat c))))

/-- The loads and stores that meet a queue entry ahead of them, and every store (R125 to R127): aligned and translated, they take an entry
of the memory queue; a load's result is due at distance 6.
The model's own readings and choices in it: log entry 24. -/
def Obligations.LoadsAndStoresEnterTheQueue : Prop :=
  ∀ (s : State) (i : Instr) (c : CoreId) (n : Nat) (rs1 : Reg) (imm : BitVec 16) (pa : Word) (pg : PageAttr),
    let t := s.atIssue c
    let k := t.core c
    let va := k.effective rs1 imm
    s.issues c i = true → va.toNat % n = 0 → k.hasPlace false →
    (∀ sg rd, loadRule i = some (c, n, sg, rd, rs1, imm) → t.access c va .load (widthKind n) = .ok pa pg →
      (k.memQ ≠ [] ∨ s.issueBeat c < k.memAt ∨ t.loadReady c pa = false) →
      exec i s = .next (t.numbered.modCore c (fun k =>
        ((k.awaiting (s.issueActive c) s.nextId rd va n sg).queued false
          (entryOf k false s.nextId (s.issueBeat c) (.load n sg) pa va pg)).past (s.issueBeat c))))
    ∧ (∀ rs2, storeRule i = some (c, n, rs2, rs1, imm) → t.access c va .store (widthKind n) = .ok pa pg →
      exec i s = .next (t.numbered.modCore c (fun k =>
        (k.queued false (entryOf k false s.nextId (s.issueBeat c)
          (.store n (w64 ((k.sreg rs2).toNat % 2 ^ (8 * n)))) pa va pg)).past (s.issueBeat c))))

/-- A load of local or remote DRAM that finds its queue empty and its bytes in the cluster cache (R125, R126, R216): its value is on its
way to rd, due at distance 6, and is present 6 beats after issue.
The model's own readings and choices in it: log entries 24, 29. -/
def Obligations.LoadHitDeliversTheValue : Prop :=
  ∀ (s : State) (i : Instr) (c : CoreId) (n : Nat) (sg : Bool) (rd rs1 : Reg) (imm : BitVec 16) (pa : Word) (pg : PageAttr)
    (l : CLine),
    let t := s.atIssue c
    let k := t.core c
    let va := k.effective rs1 imm
    let line := pa.toNat / 128
    let need : BitVec 128 := BitVec.ofNat 128 (byteMask (pa.toNat % 128) n)
    loadRule i = some (c, n, sg, rd, rs1, imm) → s.issues c i = true → c.val < 1048576 → va.toNat % n = 0 →
    t.access c va .load (widthKind n) = .ok pa pg → localOf pa < 0x18000000000 → pa.toNat % 128 = va.toNat % 128 →
    k.memQ = [] → k.memAt ≤ s.issueBeat c → (∀ p ∈ k.pend, p.tag ≠ some s.nextId) →
    (∀ e ∈ (t.cluster (c.val / 16)).storePath, e.device = true ∨ e.addr.toNat / 128 ≠ line) →
    (∀ r ∈ t.resend, r.addr.toNat / 128 ≠ line) →
    (t.cluster (c.val / 16)).cfind line = some l → need &&& ~~~l.valid = 0 → l.check (wordsOf need) = .good →
    let p : Pend :=
      { due := s.issueActive c + 6, dst := .sreg rd, tag := none, val := lineValue l.data (va.toNat % 128) n sg
        ready := s.issueBeat c + 6, va := va, bytes := n, signed := sg }
    exec i s = .next ((t.numbered.modCluster (c.val / 16) (fun cl => cl.touch l)).modCore c (fun k =>
      ({ k with pend := addPend p k.pend } : Core).past (s.issueBeat c)))

/-- PREF of DRAM, the fences, SIGC and WAITC take an entry of their queue (R125, R126 and their pages); FENCE.I also empties the
instruction cache, and a PREF that fails its checks, or addresses a device window, is discarded. LR, SC and NMC (R139, R140, R239 and
their pages): aligned, translated and with a queue entry free. An SC whose core holds no reservation of the granule sends nothing, and
writes 1 at distance 6.
The model's own readings and choices in it: log entries 25, 26, 43. -/
def Obligations.OrderingReservationsAndNmcEnterTheQueue : Prop :=
  (∀ (s : State) (c : CoreId),
      let t := s.atIssue c
      let k := t.core c
      let b := s.issueBeat c
      let enters (sync : Bool) (op : QOp) (pa va : Word) (pg : PageAttr) : Out :=
        .next (t.numbered.modCore c (fun k => (k.queued sync (entryOf k sync s.nextId b op pa va pg)).past b))
      (∀ i (sc : Fin 3), (i = .fenceL c ∧ sc = 0 ∨ i = .fenceM c ∧ sc = 1 ∨ i = .fenceG c ∧ sc = 2) → s.issues c i = true →
        k.hasPlace false → exec i s = enters false (.fence sc) 0 0 noPage)
      ∧ (s.issues c (.fenceI c) = true → k.hasPlace false →
        exec (.fenceI c) s = .next (t.numbered.modCore c (fun k =>
          ({ k with icache := [] }.queued false (entryOf k false s.nextId b .fenceI 0 0 noPage)).past b)))
      ∧ (∀ i q rs1 op acc pa pg,
          (∃ rs2, i = .sigcAdd c rs1 rs2 q ∧ op = .sigc false (cairnCount (k.sreg rs2)) ∧ acc = .store
            ∨ i = .sigcDec c rs1 rs2 q ∧ op = .sigc true (cairnCount (k.sreg rs2)) ∧ acc = .store
            ∨ i = .waitcGe c rs1 rs2 q ∧ op = .waitGe (cairnCount (k.sreg rs2)) ∧ acc = .load
            ∨ i = .waitcBar c rs1 q ∧ op = .waitBar none ∧ acc = .load) →
          s.issues c i = true → t.access c (k.sreg rs1) acc .cairn = .ok pa pg → k.hasPlace q →
          exec i s = enters q op pa (k.sreg rs1) pg)
      ∧ (∀ hint rs1 imm, s.issues c (.pref c hint rs1 imm) = true →
          (∀ pa pg, t.access c (k.effective rs1 imm) .pref .pref = .ok pa pg → localOf pa < 0x18000000000 → k.hasPlace false →
            exec (.pref c hint rs1 imm) s =
              enters false (.pref hint (w64 (pg.pageEnd - 1))) pa (k.effective rs1 imm) pg)
          ∧ ((∃ code, t.access c (k.effective rs1 imm) .pref .pref = .fault code) →
            exec (.pref c hint rs1 imm) s = .next (t.modCore c (fun k => k.past b)))))
  ∧ (∀ (s : State) (c : CoreId) (rd rs1 rs2 : Reg) (pa : Word) (pg : PageAttr) (dbl : Bool),
      let t := s.atIssue c
      let k := t.core c
      let b := s.issueBeat c
      let n := if dbl then 8 else 4
      let va := k.sreg rs1
      let waits (k : Core) (sg : Bool) : Core := k.awaiting (s.issueActive c) s.nextId rd va n sg
      (∀ aq, s.issues c (.lr c rd rs1 aq dbl) = true → va.toNat % n = 0 → t.access c va .load .lrsc = .ok pa pg →
        k.hasPlace false → exec (.lr c rd rs1 aq dbl) s = .next (t.numbered.modCore c (fun k =>
          ({ waits k true with rsv := some (pa.toNat / 128) }.queued false (entryOf k false s.nextId b (.lr dbl aq) pa va pg)).past b)))
      ∧ (∀ rl, s.issues c (.sc c rd rs1 rs2 rl dbl) = true → va.toNat % n = 0 → t.access c va .store .lrsc = .ok pa pg →
        k.rsv = some (pa.toNat / 128) → k.hasPlace false →
        exec (.sc c rd rs1 rs2 rl dbl) s = .next (t.numbered.modCore c (fun k =>
          ({ waits k false with rsv := none }.queued false (entryOf k false s.nextId b (.sc dbl rl (k.sreg rs2)) pa va pg)).past b)))
      ∧ (∀ rl, s.issues c (.sc c rd rs1 rs2 rl dbl) = true → va.toNat % n = 0 → t.access c va .store .lrsc = .ok pa pg →
        k.rsv ≠ some (pa.toNat / 128) →
        exec (.sc c rd rs1 rs2 rl dbl) s = .next (t.modCore c (fun k =>
          ({ k.withResult (s.issueActive c) 6 rd 1 with rsv := none } : Core).past b)))
      ∧ (∀ op rg rc cmd, s.issues c (.nmc c op rg rc) = true → t.nmcIssue c op rg rc = .ok cmd va pg → k.hasPlace false →
        exec (.nmc c op rg rc) s = .next (t.numbered.modCore c (fun k =>
          (k.queued false (entryOf k false s.nextId b (.nmc cmd) cmd.a va pg)).past b))))

/-- What keeps a load or a store from completing (R116, R125, R127, R209, R210): a misaligned or failing address raises its exception, a
walk freezes the core, and so does a full memory queue.
The model's own readings and choices in it: log entry 36. -/
def Obligations.LoadsAndStoresThatDoNotComplete : Prop :=
  ∀ (s : State) (i : Instr) (c : CoreId) (n : Nat) (rs1 : Reg) (imm : BitVec 16) (acc : Acc),
    ((∃ sg rd, loadRule i = some (c, n, sg, rd, rs1, imm)) ∧ acc = .load ∨
      (∃ rs2, storeRule i = some (c, n, rs2, rs1, imm)) ∧ acc = .store) →
    s.issues c i = true →
    let t := s.atIssue c
    let k := t.core c
    let va := k.effective rs1 imm
    let b := s.issueBeat c
    (va.toNat % n ≠ 0 → exec i s = .next (t.modCore c (fun k => k.recognised b 0x06 va)))
    ∧ (∀ code, va.toNat % n = 0 → t.access c va acc (widthKind n) = .fault code →
        exec i s = .next (t.modCore c (fun k => k.recognised b code va)))
    ∧ (va.toNat % n = 0 → t.access c va acc (widthKind n) = .walk →
        exec i s = .next ((s.atFreeze c).modCore c (fun k => k.frozenAt (.walk va acc) b)))
    ∧ (∀ pa pg, va.toNat % n = 0 → t.access c va acc (widthKind n) = .ok pa pg → 16 ≤ k.memQ.length →
        exec i s = .next ((s.atFreeze c).modCore c (fun k => k.frozenAt .memFull b)))

/-- The lane operations (R37, R38, R41, R141, R153, R156, R157, R160, R163): each active element of vd is the operation of the same
elements of the sources, each inactive one is zero, or keeps its value where vd is read; the flags of the active elements are raised, and
nothing else changes.
The model's own readings and choices in it: log entries 20, 33, 86. -/
def Obligations.LaneInstructionsComplete : Prop :=
  ∀ (s : State) (i : Instr) (r : LaneRule),
    laneRule i = some r →
    let k := (s.atIssue r.core).core r.core
    let v := k.vc
    let el (reg : Reg) (j : Nat) : Nat := (k.elems reg.toNat v.g v.sew v.vlmax).getD j 0
    let out (j : Nat) : Nat × FF :=
      r.op k v.sew (el r.f.vs1 j) (if r.one then 0 else secondSource k r.f j) (if r.reads then el r.f.vd j else 0)
    let active (j : Nat) : Bool := k.isActive v.vl r.f.km.toNat j
    s.vecIssues r.core i r.major r.func r.f (r.cfg v) (r.shape v) →
    exec i s = .next ((s.atIssue r.core).setCore r.core
      (k.vecPast (k.setElems r.f.vd.toNat v.g v.sew ((List.range v.vlmax).map (fun j =>
          if active j then (out j).1 else if r.reads then el r.f.vd j else 0)))
        (s.issueActive r.core) (s.issueBeat r.core) r.f (r.shape v) (flagsOf k r.f (fun j => (out j).2)) none))

/-- The widening operations and the conversions (R33, R38, R152, R153, R156), element by element into a group of another size.
The model's own readings and choices in it: log entries 20, 33. -/
def Obligations.WideningAndConvertingComplete : Prop :=
  ∀ (s : State) (i : Instr) (c : CoreId) (r : ConvRule),
    let k := (s.atIssue c).core c
    let v := k.vc
    convRule i k = some r → r.core = c →
    let out (j : Nat) : Nat × FF :=
      r.op ((k.elems r.f.vs1.toNat r.sg r.sw v.vlmax).getD j 0) (if r.one then 0 else secondSource k r.f j)
    s.vecIssues c i r.major r.func r.f r.cfg (r.shape v) →
    exec i s = .next ((s.atIssue c).setCore c
      (k.vecPast (k.setElems r.f.vd.toNat r.dg r.dw ((List.range v.vlmax).map (fun j =>
          if k.isActive v.vl r.f.km.toNat j then (out j).1 else 0)))
        (s.issueActive c) (s.issueBeat c) r.f (r.shape v) (flagsOf k r.f (fun j => (out j).2)) none))

/-- The comparisons and the mask operations (R42, R153, R154, R156): every bit of the destination mask register.
The model's own readings and choices in it: log entry 33. -/
def Obligations.ComparisonsAndMasksComplete : Prop :=
  ∀ (s : State) (i : Instr) (c : CoreId) (func : Nat) (f : VF),
    let k := (s.atIssue c).core c
    let v := k.vc
    let a := s.issueActive c
    let b := s.issueBeat c
    (∀ cfg op, compareRule i v = some (c, func, f, cfg, op) →
      let sh : VShape := { cls := .basic, apart := false, dst := []
                           src := (f.vs1.toNat, v.g) :: (if f.x then [] else [(f.vs2.toNat, v.g)]) }
      let out (j : Nat) : Bool × FF := op ((k.elems f.vs1.toNat v.g v.sew v.vlmax).getD j 0) (secondSource k f j)
      s.vecIssues c i 0x36 func f cfg sh →
      ∃ m : BitVec 2048,
        (∀ j, m.getLsbD j = (decide (j < v.vlmax) && k.isActive v.vl f.km.toNat j && (out j).1))
        ∧ exec i s = .next ((s.atIssue c).setCore c
            (k.vecPast (k.setMask f.vd.toNat m) a b f sh (flagsOf k f (fun j => (out j).2)) none)))
    ∧ (∀ op, maskRule i = some (c, func, f, op) →
      s.vecIssues c i 0x36 func f true masksOnlyShape →
      ∃ m : BitVec 2048,
        (∀ j, j < 2048 → m.getLsbD j = op ((k.mask f.vs1.toNat).getLsbD j) ((k.mask f.vs2.toNat).getLsbD j))
        ∧ exec i s = .next ((s.atIssue c).setCore c (k.vecPast (k.setMask f.vd.toNat m) a b f masksOnlyShape 0 none)))

/-- The vector instructions with a scalar destination (R156, R158, R163).
The model's own readings and choices in it: log entries 20, 33, 91. -/
def Obligations.VectorScalarResultsComplete : Prop :=
  ∀ (s : State) (i : Instr) (c : CoreId) (func : Nat) (f : VF) (cfg : Bool) (sh : VShape) (w : Word) (fl : FF),
    let k := (s.atIssue c).core c
    scalarResultRule i k = some (c, func, f, cfg, sh, w, fl) →
    s.vecIssues c i 0x36 func f cfg sh →
    exec i s = .next ((s.atIssue c).setCore c (k.vecPast k (s.issueActive c) (s.issueBeat c) f sh fl (some w)))

/-- VBCAST, VSEL, the compensated pairs, the MX conversions and VSETVL (R39, R40, R43, R44, R115, R134, R148, R152, R153, R156 and their
pages).
The model's own readings and choices in it: log entries 20, 33. -/
def Obligations.OtherVectorInstructionsComplete : Prop :=
  ∀ (s : State) (c : CoreId) (f : VF),
    let k := (s.atIssue c).core c
    let v := k.vc
    let a := s.issueActive c
    let b := s.issueBeat c
    let done (i : Instr) (sh : VShape) (k1 : Core) (fl : FF) : Prop :=
      exec i s = .next ((s.atIssue c).setCore c (k.vecPast k1 a b f sh fl none))
    let el (reg : Reg) (j : Nat) : Nat := (k.elems reg.toNat v.g v.sew v.vlmax).getD j 0
    let act (j : Nat) : Bool := k.isActive v.vl f.km.toNat j
    let lanesOf (x : Nat → Nat) : List Nat := (List.range v.vlmax).map x
    (∀ sh : VShape, sh = { cls := .basic, src := [], dst := [(f.vd.toNat, v.g)], apart := false } →
      s.vecIssues c (.vbcast c f) 0x31 0x10 f true sh →
      done (.vbcast c f) sh (k.setElems f.vd.toNat v.g v.sew (lanesOf (fun j => if act j then secondSource k f j else 0))) 0)
    ∧ (∀ sh : VShape, sh = { cls := .basic, src := (f.vs1.toNat, v.g) :: (if f.x then [] else [(f.vs2.toNat, v.g)])
                             dst := [(f.vd.toNat, v.g)], apart := false } →
      s.vecIssues c (.vsel c f) 0x31 0x11 f true sh →
      done (.vsel c f) sh (k.setElems f.vd.toNat v.g v.sew (lanesOf (fun j =>
        if v.vl ≤ j then 0 else if (k.mask f.km.toNat).getLsbD j then el f.vs1 j else secondSource k f j))) 0)
    ∧ (∀ i func op, (i = .vaddp c f ∧ func = 0x00 ∧ op = twoSum ∨ i = .vmulp c f ∧ func = 0x01 ∧ op = twoProd) →
      let sh : VShape := { cls := .pair, src := [(f.vs1.toNat, v.g), (f.vs2.toNat, v.g)], dst := [(f.vd.toNat, v.g), (f.vd.toNat + v.g, v.g)]
                           apart := true }
      let out (j : Nat) : Nat × Nat × FF := op (el f.vs1 j) (el f.vs2 j)
      s.vecIssues c i 0x34 func f (v.isF32 && v.g ≤ 4 && f.vd.toNat % (2 * v.g) = 0) sh →
      done i sh ((k.setElems f.vd.toNat v.g v.sew (lanesOf (fun j => if act j then (out j).1 else 0))).setElems
        (f.vd.toNat + v.g) v.g v.sew (lanesOf (fun j => if act j then (out j).2.1 else 0))) (flagsOf k f (fun j => (out j).2.2)))
    ∧ (∀ ty : Fin 6,
      let sh : VShape := { cls := .toMx, src := [(f.vs1.toNat, v.g)], dst := [(f.vd.toNat, 1), (f.vs2.toNat, 1)], apart := true }
      let block (n : Nat) : Nat × List Nat × FF :=
        mxBlock v.f (mxElem ty.val) ((List.range 32).map (fun j => if act (32 * n + j) then el f.vs1 (32 * n + j) else 0))
      let blocks := (List.range (v.vlmax / 32)).map block
      s.vecIssues c (.vcvtF2mx c ty f) 0x35 (0x08 + ty.val) f (v.isFloat && v.vlmax ≤ 256) sh →
      done (.vcvtF2mx c ty f) sh
        ((k.setVreg f.vd.toNat (packAll (mxElem ty.val).bits (blocks.flatMap (fun x => x.2.1)))).setLine (vregKey f.vs2.toNat 0)
          (BitVec.ofNat 512 (packAll 8 (blocks.map (fun x => x.1)))))
        (blocks.foldl (fun fl x => fl ||| x.2.2) 0))
    ∧ (∀ ty : Fin 6,
      let sh : VShape := { cls := .fromMx, src := [(f.vs1.toNat, 1), (f.vs2.toNat, 1)], dst := [(f.vd.toNat, v.g)], apart := true }
      let scale (j : Nat) : Nat := (k.line (vregKey f.vs2.toNat 0)).toNat / 2 ^ (8 * (j / 32)) % 256
      let out (j : Nat) : Nat × FF :=
        mxToFloat (mxElem ty.val) v.f k.rm (unpackAt (mxElem ty.val).bits j (k.vreg f.vs1.toNat)) (scale j)
      s.vecIssues c (.vcvtMx2f c ty f) 0x35 (0x10 + ty.val) f (v.isFloat && v.vlmax ≤ 256) sh →
      done (.vcvtMx2f c ty f) sh (k.setElems f.vd.toNat v.g v.sew (lanesOf (fun j => if act j then (out j).1 else 0)))
        (flagsOf k f (fun j => (out j).2)))
    ∧ (∀ rd rs1 gfl sew ft, s.issues c (.vsetvl c rd rs1 gfl sew ft) = true →
      let vlmax := 2048 * 2 ^ gfl.toNat / (8 * 2 ^ sew.toNat)
      let vl := if (k.sreg rs1).toNat < vlmax then (k.sreg rs1).toNat else vlmax
      let p : Pend := { due := a + 3, dst := .sys 2 0 0, tag := none
                        val := w64 (vl * 2 ^ 16 + gfl.toNat * 2 ^ 6 + sew.toNat * 2 ^ 4 + ft.toNat * 2 ^ 2) }
      exec (.vsetvl c rd rs1 gfl sew ft) s = .next ((s.atIssue c).modCore c (fun k =>
        let k1 := k.withResult a 2 rd (w64 vl)
        ({ k1 with pend := addPend p k1.pend, shadow := a + 2 } : Core).past b)))

/-- The arithmetic that vector instructions use, as the manual defines it on exact numbers (R27, R32, R37 to R39, R43, R44): add, subtract,
multiply and multiply-add of FP32, BF16 and FP16 round once, with subnormals, in every mode, and raise OF, UF and NX as R37 says; the sign
of an exact zero; infinities; NaN operands in order; the sum and its exact error, the product and its rounded error; and the conversion of
a block of finite values into an MX type. The sign of a zero sum follows R38's words, also for two addends of +0 under rounding down.
The model's own readings and choices in it: log entry 20. -/
def Obligations.ArithmeticIsRoundedExactly : Prop :=
  (∀ (f : Fmt) (rm : RM) (a b c : Nat), (f = fp32 ∨ f = bf16 ∨ f = fp16) →
    let exact (x : ℚ) (z : Bool) (r : Nat × FF) : Prop :=
      (x = 0 → r = (f.pack z 0, 0)) ∧ (x ≠ 0 → f.rounds rm x r.1 ∧ f.raises rm x r.1 r.2)
    let quiets (xs : List Nat) (zeroInf : Bool) (r : Nat × FF) : Prop :=
      ∀ x, xs.find? f.isNan = some x → r = (f.quiet x, if xs.any f.isSnan || zeroInf then fNV else 0)
    let invalid (r : Nat × FF) : Prop := r = (f.canonNan, fNV)
    let inf (s : Bool) (r : Nat × FF) : Prop := r = (f.pack s f.inf, 0)
    let na := f.neg a
    let nb := f.neg b
    let zeroInf : Bool := (f.isInf a && b % 2 ^ f.signBit = 0) || (f.isInf b && a % 2 ^ f.signBit = 0)
    quiets [a, b] false (fAdd f rm a b) ∧ quiets [a, b] false (fSub f rm a b) ∧ quiets [a, b] false (fMul f rm a b)
    ∧ quiets [a, b, c] zeroInf (fMa f rm a b c)
    ∧ (f.finite a → f.finite b →
      exact (f.num a + f.num b) ((na && nb) || rm = .down) (fAdd f rm a b)
      ∧ exact (f.num a - f.num b) ((na && !nb) || rm = .down) (fSub f rm a b)
      ∧ exact (f.num a * f.num b) (na != nb) (fMul f rm a b)
      ∧ (f.finite c → exact (f.num a * f.num b + f.num c) (((na != nb) && f.neg c) || rm = .down) (fMa f rm a b c))
      ∧ (f.isInf c = true → inf (f.neg c) (fMa f rm a b c)))
    ∧ (f.isInf a = true → f.isNan b = false →
      (f.isInf b = true → na ≠ nb → invalid (fAdd f rm a b)) ∧ (f.isInf b = true → na = nb → invalid (fSub f rm a b))
      ∧ (f.isInf b = false ∨ na = nb → inf na (fAdd f rm a b) ∧ inf na (fAdd f rm b a))
      ∧ (f.isInf b = false ∨ na ≠ nb → inf na (fSub f rm a b) ∧ inf (!na) (fSub f rm b a))
      ∧ (zeroInf = true → invalid (fMul f rm a b) ∧ invalid (fMul f rm b a))
      ∧ (zeroInf = false → inf (na != nb) (fMul f rm a b) ∧ inf (na != nb) (fMul f rm b a))
      ∧ (f.isNan c = false →
        (zeroInf = true ∨ (f.isInf c = true ∧ f.neg c ≠ (na != nb)) → invalid (fMa f rm a b c) ∧ invalid (fMa f rm b a c))
        ∧ (zeroInf = false → f.isInf c = false ∨ f.neg c = (na != nb) →
          inf (na != nb) (fMa f rm a b c) ∧ inf (na != nb) (fMa f rm b a c)))))
  ∧ (∀ a b : Nat,
    let s := (twoSum a b).1
    let p := (twoProd a b).1
    let nearest (x : ℚ) (z : Bool) (r : Nat) : Prop := (x = 0 → r = fp32.pack z 0) ∧ (x ≠ 0 → fp32.rounds .near x r)
    (∀ x, [a, b].find? fp32.isNan = some x → (twoSum a b).1 = fp32.quiet x ∧ (twoSum a b).2.1 = fp32.quiet x
      ∧ (twoProd a b).1 = fp32.quiet x ∧ (twoProd a b).2.1 = fp32.quiet x)
    ∧ (fp32.isInf a = true → fp32.isInf b = true → fp32.neg a ≠ fp32.neg b → twoSum a b = (fp32.canonNan, fp32.canonNan, fNV))
    ∧ (fp32.isNan a = false → fp32.isNan b = false → fp32.isInf s = true → (twoSum a b).2.1 = 0)
    ∧ (fp32.isNan a = false → fp32.isNan b = false → fp32.isInf p = true → (twoProd a b).2.1 = 0)
    ∧ (fp32.finite a → fp32.finite b →
      nearest (fp32.num a + fp32.num b) (fp32.neg a && fp32.neg b) s
      ∧ (fp32.finite s → let e := (twoSum a b).2.1
          fp32.finite e ∧ fp32.num s + fp32.num e = fp32.num a + fp32.num b ∧ (fp32.num e = 0 → e = 0))
      ∧ nearest (fp32.num a * fp32.num b) (fp32.neg a != fp32.neg b) p
      ∧ (fp32.finite p → nearest (fp32.num a * fp32.num b - fp32.num p) false (twoProd a b).2.1)))
  ∧ (∀ (f : Fmt) (ty : Fin 6) (v : List Nat), (f = fp32 ∨ f = bf16 ∨ f = fp16) → v.length = 32 →
    let scale := (mxBlock f (mxElem ty.val) v).1
    let els := (mxBlock f (mxElem ty.val) v).2.1
    let fl := (mxBlock f (mxElem ty.val) v).2.2
    let emax : ℤ := [8, 15, 4, 2, 2, 0].getD ty.val 0
    ((∃ x ∈ v, f.isNan x = true ∨ f.isInf x = true) → scale = 255 ∧ els = List.replicate 32 0 ∧ fl = fNV)
    ∧ ((∀ x ∈ v, f.finite x) →
      let q (i : Nat) : ℚ := f.num (v.getD i 0) * 2 ^ (127 - (scale : ℤ))
      let got (i : Nat) : ℚ := match mxElem ty.val with
        | .flt g _ => g.num (els.getD i 0)
        | .int8 => (BitVec.ofNat 8 (els.getD i 0)).toInt / 64
      ((∀ x ∈ v, f.num x = 0) → scale = 0)
      ∧ (∀ e : ℤ, (∀ x ∈ v, |f.num x| < 2 ^ (e + 1)) → (∃ x ∈ v, (2 : ℚ) ^ e ≤ |f.num x|) →
          (scale : ℤ) = Max.max 0 (Min.min 254 (e - emax + 127)))
      ∧ els.length = 32 ∧ ((∀ i, i < 32 → got i = q i) → fl = 0) ∧ ((∃ i, i < 32 ∧ got i ≠ q i) → fl = fNX)
      ∧ ∀ i, i < 32 →
        (∀ g k, mxElem ty.val = .flt g k → g.nearest (q i) (els.getD i 0) ∧ g.neg (els.getD i 0) = f.neg (v.getD i 0))
        ∧ (mxElem ty.val = .int8 → |got i| ≤ 127 / 64
          ∧ (127 ≤ q i * 64 → got i = 127 / 64) ∧ (q i * 64 ≤ -127 → got i = -(127 / 64))
          ∧ (|q i| * 64 < 127 → |q i - got i| * 128 ≤ 1 ∧ (|q i - got i| * 128 = 1 → els.getD i 0 % 2 = 0)))))

/-- When a vector instruction raises (R121, R147, R150, R152, R155, R156, R164): each of the vector format on a boot core, with illegal
fields, an unsupported configuration or an illegal group raises the illegal-instruction exception; one that would begin before the final
step of the last one raises the overrun fault; nothing else happens. VSETVL raises it on a boot core and for an unsupported configuration.
The model's own readings and choices in it: log entries 31, 33. -/
def Obligations.VectorInstructionsRaise : Prop :=
  ∀ (s : State) (i : Instr) (c : CoreId),
    let k := (s.atIssue c).core c
    let raised (code : Nat) (faultv : Word) : Out := .next ((s.atIssue c).modCore c (fun k => k.recognised (s.issueBeat c) code faultv))
    (∀ major func f cfg sh, vecForm i k = some (c, major, func, f, cfg, sh) → s.issues c i = true →
      let legal : Bool := c.val < 1048576 && vecFieldsLegal major func f && cfg && sh.ok
      (legal = false → exec i s = raised 0x03 (wordOf i))
      ∧ (legal = true → oddFrom (s.issueBeat c) < k.vfinal → exec i s = raised 0x0D 0))
    ∧ (∀ rd rs1 gfl sew ft, i = .vsetvl c rd rs1 gfl sew ft → s.mayIssue c = true →
      1048576 ≤ c.val ∨ (sew = 0 ∨ sew = 1) ∧ (ft = 2 ∨ ft = 3) ∨ (sew = 2 ∨ sew = 3) ∧ ft ≠ 0 → exec i s = raised 0x03 (wordOf i))

/-- The canvas commands (R59 to R62, R83): with a queue place, accepted operands and a slot, the entry is bound and queued; without a
place the core freezes, refused operands and a missing slot raise their exceptions. TFENCE, the run of a canvas slot, and the commit of
slot maps (R54, R55, R59, R66, R70, R71, R73 and the TFENCE page).
The model's own readings and choices in it: log entries 23, 34. -/
def Obligations.CanvasCommandsAndEventsComplete : Prop :=
  (∀ (s : State) (i : Instr) (c : CoreId) (kind tc ta tb var m n : Nat) (acc : Bool),
      canvasRule i = some (c, kind, tc, ta, tb, acc, var, m, n) → s.issues c i = true →
      let k := (s.atIssue c).core c
      let cl := (s.atIssue c).cluster (c.val / 16)
      let b := s.issueBeat c
      let bound := bindSlot cl.maps cl.mapsFrom (c.val % 16) (kind = 2) (isWide (tregOf k.tcfg ta).ty) (k.firstSlot kind b)
      let at_ (f : Core → Core) : Out := .next ((s.atIssue c).modCore c f)
      (k.cq.length < 4 → operandsOk k.tcfg kind tc ta tb m n var = true → ∀ start slot qtr, bound = some (start, slot, qtr) →
        exec i s = at_ (fun k =>
          ({ k with cq := k.cq ++ [{ entry := centPack (entryFor k.tcfg kind tc ta tb m n var acc (c.val % 16) slot qtr)
                                     start := start, done := b, got := [] }] } : Core).past b))
      ∧ (4 ≤ k.cq.length → exec i s = .next ((s.atFreeze c).modCore c (fun k => k.frozenAt .canvasFull b)))
      ∧ (k.cq.length < 4 → operandsOk k.tcfg kind tc ta tb m n var = false → exec i s = at_ (fun k => k.recognised b 0x0A 0))
      ∧ (k.cq.length < 4 → operandsOk k.tcfg kind tc ta tb m n var = true → bound = none →
          exec i s = at_ (fun k => k.recognised b 0x0C 0)))
  ∧ (∀ (s : State) (c : CoreId) (q : ClusterId),
      let b := s.issueBeat c
      (s.issues c (.tfence c) = true →
        exec (.tfence c) s = .next ((s.atIssue c).modCore c (fun k =>
          match k.lastWrite with
          | some w => if b < w then (k.frozenAt .tfence (b + 1)).past b else k.past b
          | none => k.past b)))
      ∧ (∀ h rest, (s.core c).cq = h :: rest →
        let e := Nat.max (s.beat (coreDomain c)) (h.start + 1)
        ∃ t, exec (.canvasSlotRun c) s = .next t
          ∧ t.core c = (((s.toBeat (coreDomain c) (h.start + 1)).settled c).core c).paletteTo e ∧ t.beat (coreDomain c) = e
          ∧ ∀ j, j ≠ c.val → t.core j = s.core j)
      ∧ (∃ t, exec (.canvasMapCommit q) s = .next t
          ∧ t.cluster q = { s.cluster q with
              commit := some ((s.beat (q.val / 64) / 512 + 1) * 512, (s.cluster q).pendingMaps) }
          ∧ ∀ j, j ≠ q.val → t.cluster j = s.cluster j)
      ∧ (∀ f0 m0 f m, (s.cluster q).commit = some (f0, m0) → ((s.clusterTo q (f0 - 1)).cluster q).commit = some (f, m) →
          let s1 := (s.clusterTo q (f0 - 1)).clusterTo q f
          let cl := s1.cluster q
          let later := if cl.commit = some (f, m) then none else cl.commit
          ∃ t, exec (.mapCommitApply q) s = .next t
            ∧ (m.ok = true → t.cluster q = { cl with commit := later, maps := m, mapsFrom := some f }
                ∧ ∀ c ∈ coresOf q, t.core c = (s1.core c).recommit m f (c % 16))
            ∧ (m.ok = false → t.cluster q = { cl with commit := later, maperr := true }
                ∧ ∀ c ∈ coresOf q, t.core c = s1.core c)))

/-- The arithmetic of the canvas, as the manual defines it on exact numbers (R26, R29, R46, R47, R49, R64, R76): a product with its scales;
the group rule, and the pair rule, over any terms; the groups of an element in their order; saturating INT32 sums; and the columns that a
result row writes. A nonzero sum that rounds to zero gives +0 by R46, and the zero of its sign in pair mode, which is the model's choice.
The model's own readings and choices in it: log entries 20, 86. -/
def Obligations.CanvasSumsAreExact : Prop :=
  (∀ (ps : List Val) (acc : Option Nat),
    let ts := ps ++ (acc.map fp32.val).toList
    let r := groupRule ps acc
    (.nan ∈ ts → r = 0x7FC00000)
    ∧ (.nan ∉ ts → .inf false ∈ ts → .inf true ∈ ts → r = 0x7FC00000)
    ∧ (.nan ∉ ts → .inf false ∈ ts → .inf true ∉ ts → r = 0x7F800000)
    ∧ (.nan ∉ ts → .inf false ∉ ts → .inf true ∈ ts → r = 0xFF800000)
    ∧ ((∀ t ∈ ts, t.isFin = true) →
      ((∀ t ∈ ts, t.num = 0) → r = if ts ≠ [] ∧ ∀ t ∈ ts, t.isNegZero = true then 0x80000000 else 0)
      ∧ ∀ E : ℤ, leads E ts →
        let S : ℚ := (ts.map (cutTerm E)).sum
        (S = 0 → r = 0) ∧ (S ≠ 0 → r ≠ 0x80000000 ∧ (fp32.rounds .near S r ∨ r = 0 ∧ fp32.rounds .near S 0x80000000))))
  ∧ (∀ (ps : List Val) (acc : Option (Nat × Nat)),
    let as : List Val := acc.elim [] (fun x => [fp32.val x.1, fp32.val x.2])
    let ts := ps ++ as
    let r := pairRule ps acc
    (.nan ∈ ts → r = (0x7FC00000, 0x7FC00000))
    ∧ (.nan ∉ ts → .inf false ∈ ts → .inf true ∈ ts → r = (0x7FC00000, 0x7FC00000))
    ∧ (.nan ∉ ts → .inf false ∈ ts → .inf true ∉ ts → r = (0x7F800000, 0))
    ∧ (.nan ∉ ts → .inf false ∉ ts → .inf true ∈ ts → r = (0xFF800000, 0))
    ∧ ((∀ t ∈ ts, t.isFin = true) → ∀ P : ℚ, ((∀ t ∈ ps, t.num = 0) ∧ P = 0 ∨ ∃ E : ℤ, leads E ps ∧ P = (ps.map (cutTerm E)).sum) →
      let S : ℚ := (as.map Val.num).sum + P
      (S = 0 → r = (if ts ≠ [] ∧ ∀ t ∈ ts, t.isNegZero = true then 0x80000000 else 0, 0))
      ∧ (S ≠ 0 → fp32.rounds .near S r.1 ∧ (fp32.isInf r.1 = true ∨ S = fp32.num r.1 → r.2 = 0)
        ∧ (fp32.isInf r.1 = false → S ≠ fp32.num r.1 → fp32.rounds .near (S - fp32.num r.1) r.2))))
  ∧ (∀ (e : CEnt) (g : Map Line) (gs : List Nat) (i j k : Nat),
    let a := e.aCode g i k
    let b := e.bCode g k j
    let sa := e.aScaleOf g i k
    let sb := e.bScaleOf g k j
    let w : ℚ := if isMx e.aty then 2 ^ ((sa : ℤ) + sb - 254) else 1
    let whole : Prop := isMx e.aty = true → sa ≠ 255 ∧ sb ≠ 255
    (isMx e.aty = true → sa = 255 ∨ sb = 255 → e.product g i j k = .nan)
    ∧ (∀ f h, (e.aty, f) ∈ tileFormats → (e.bty, h) ∈ tileFormats →
      (f.isNan a = true ∨ h.isNan b = true → e.product g i j k = .nan)
      ∧ (whole → f.finite a → h.finite b → (e.product g i j k).isFin = true ∧ (e.product g i j k).num = f.num a * h.num b * w)
      ∧ (whole → f.isInf a = true → h.finite b → e.product g i j k = if h.num b = 0 then .nan else .inf (f.neg a != h.neg b))
      ∧ (whole → f.finite a → h.isInf b = true → e.product g i j k = if f.num a = 0 then .nan else .inf (f.neg a != h.neg b))
      ∧ (whole → f.isInf a = true → h.isInf b = true → e.product g i j k = .inf (f.neg a != h.neg b)))
    ∧ (e.aty = 7 → e.bty = 7 → whole → (e.product g i j k).isFin = true
      ∧ (e.product g i j k).num = ((BitVec.ofNat 8 a).toInt / 64) * ((BitVec.ofNat 8 b).toInt / 64) * w)
    ∧ (let use (k : Nat) : Bool := e.var ≠ 1 || gs.contains (k % 32 / 4)
      let terms (lo n : Nat) : List Val := (((List.range n).map (lo + ·)).filter use).map (e.product g i j)
      let plain : Option Nat := if e.acc then some (e.accAt g 0 i j) else none
      let pair : Option (Nat × Nat) := if e.acc then some (e.accAt g 0 i j, e.accAt g 2 i j) else none
      let twice : Prop := (e.aty = 4 ∨ e.aty = 5 ∨ e.aty = 6) ∧ e.mode ≠ 2
      (e.mode ≠ 1 → e.int32 = false →
        (twice → (e.element g gs i j).1 = groupRule (terms 32 32) (some (groupRule (terms 0 32) plain)))
        ∧ (¬twice → (e.element g gs i j).1 = groupRule (terms 0 e.k) plain))
      ∧ (e.mode = 1 →
        (twice → e.element g gs i j = pairRule (terms 32 32) (some (pairRule (terms 0 32) pair)))
        ∧ (¬twice → e.element g gs i j = pairRule (terms 0 e.k) pair))
      ∧ (e.mode ≠ 1 → e.int32 = true → e.aty = 7 →
        let c0 : Int := if e.acc then (BitVec.ofNat 32 (e.accAt g 0 i j)).toInt else 0
        (BitVec.ofNat 32 (e.element g gs i j).1).toInt = Max.max (-(2 ^ 31)) (Min.min (2 ^ 31 - 1)
          (c0 + (((List.range e.k).filter use).map (fun k =>
            (BitVec.ofNat 8 (e.aCode g i k)).toInt * (BitVec.ofNat 8 (e.bCode g k j)).toInt)).sum)))))
  ∧ (∀ (q : Core) (e : CEnt) (g : Map Line) (i : Nat) (gs : List Nat),
    let row (x : Nat) : Nat := e.c.getD x 0 + i
    (e.var = 0 ∧ gs = [0] ∨ e.var ≠ 0 ∧ e.groups g i = some gs ∧ gs ≠ []) → (e.accRegs.map row).Nodup →
    let t := q.writeRow e g i
    (∀ y, y ∉ e.accRegs.map row → t.tileRow y = q.tileRow y)
    ∧ ∀ x ∈ e.accRegs, ∀ j, j < 16 →
      let col := 16 * (x % 2) + j
      let v := e.element g gs i col
      unpackAt 32 j (t.tileRow (row x)).toNat =
        if col < e.n ∧ (e.var ≠ 2 ∨ col / 4 ∈ gs) then (if 2 ≤ x then v.2 else v.1) % 2 ^ 32 else unpackAt 32 j (q.tileRow (row x)).toNat)

/-- TCFG and TCFGRD (R89, R90, R95 and their pages): an accepted block is in force 12 beats after its beginning; a refused one raises the
tile-configuration exception then with its code and register. TMVV and TMVT (R88, R89, R168), with no canvas command queued or running:
the move is under way from its beginning on, and where no interrupt stops it, the lines of the register group have taken the rows of the
tile register, or the rows the lines, before the next instruction issues; no other palette line, no register and no byte of memory
changes.
The model's own readings and choices in it: log entries 32, 33, 34. -/
def Obligations.TileConfigurationAndMovesComplete : Prop :=
  (∀ (s : State) (c : CoreId) (r : Reg),
      let k := (s.atIssue c).core c
      let b := s.issueBeat c
      let b0 := k.begins b
      let q := k.canvasTo (oddFrom b0)
      let blk : BitVec 512 := q.line (vregKey r.toNat 0)
      let found := tcfgCheck blk ((q.running ++ q.cq).map (fun x => centOf x.entry))
      (s.issues c (.tcfg c r) = true → found = none →
        exec (.tcfg c r) s = .next ((s.atIssue c).setCore c (({ q.heldTo b (b0 + 12) with tcfg := blk &&& tcfgKeep } : Core).past b)))
      ∧ (∀ code reg, s.issues c (.tcfg c r) = true → found = some (code, reg) →
        exec (.tcfg c r) s = .next ((s.atIssue c).setCore c ((q.heldTo b (b0 + 12)).recognised (b0 + 12) 0x0B (w64 (code * 16 + reg)))))
      ∧ (s.issues c (.tcfgrd c r) = true →
        let f := oddFrom b0 + 8
        exec (.tcfgrd c r) s = .next ((s.atIssue c).setCore c
          (({ (k.setVreg r.toNat k.tcfg.toNat).heldTo b (f + 1) with
              vfinal := f, vlast := f, vfinalLine := some (vregKey r.toNat 3) } : Core).past b))))
  ∧ (∀ (s : State) (c : CoreId) (i : Instr) (v : Reg) (tn : BitVec 3) (rs1 : Reg) (toVec : Bool),
      (i = .tmvv c v tn rs1 ∧ toVec = true ∨ i = .tmvt c tn v rs1 ∧ toVec = false) →
      let k := (s.atIssue c).core c
      let g := k.vc.g
      let r := tregOf k.tcfg tn.toNat
      let f := (k.sreg rs1).toNat
      let row (j : Nat) : Nat := rowKey (r.first + f + j)
      let ln (j : Nat) : Nat := groupKey v.toNat g j
      s.issues c i = true → k.cq = [] → k.running = [] → v.toNat % g = 0 → v.toNat + g ≤ 32 → r.en = true → f + 4 * g ≤ r.rows →
      r.first + r.rows ≤ 128 → k.interrupt (coreBoot c) = none →
      ∃ t, exec i s = .next t
        ∧ (∃ m, (t.core c).move = some m ∧ m.at_ = oddFrom (k.begins (s.issueBeat c)))
        ∧ let q := (t.moveOver c).core c
          q.move = none ∧ q.pc = (k.past (s.issueBeat c)).pc ∧ q.lcnt = (k.past (s.issueBeat c)).lcnt
          ∧ (∀ j, j < 4 * g → if toVec then q.line (ln j) = k.line (row j) else q.line (row j) = k.line (ln j))
          ∧ (∀ n, (∀ j, j < 4 * g → n ≠ if toVec then ln j else row j) → q.line n = k.line n)
          ∧ q.s = k.s ∧ q.k = k.k ∧ q.stat = k.stat ∧ q.tcfg = k.tcfg
          ∧ (∀ a, (t.moveOver c).byte a = (s.atIssue c).byte a))

/-- TLD and TST (R89, R99, R100, R103, R106): an accepted one with rows to move is in progress from its row on; one with no row left
completes; refused operands raise the tile-operand exception at its beginning.
The model's own readings and choices in it: log entry 32. -/
def Obligations.TileTransfersBegin : Prop :=
  ∀ (s : State) (c : CoreId) (i : Instr) (load : Bool) (tn : BitVec 3) (rs1 rs2 : Reg) (rsel : BitVec 2) (ca : Bool),
    (i = .tld c tn rs1 rs2 rsel ca ∧ load = true ∨ i = .tst c tn rs1 rs2 rsel ca ∧ load = false) →
    let k := (s.atIssue c).core c
    let b := s.issueBeat c
    let t0 := k.begins b
    let r := tregOf k.tcfg tn.toNat
    let bad : Bool := !r.en || (rsel = 1 && !r.sv) || (rsel = 2 && !r.vv)
    let rows := if rsel = 0 then r.rows else 1
    let resumed : Bool := wb k.tprog 15 && wf k.tprog 14 12 = tn.toNat && wf k.tprog 11 10 = (if load then 0 else 1)
    let j0 := if resumed then wf k.tprog 4 0 else 0
    let q : Core := { k with fcnt := k.fcnt + (t0 - b), next := t0 + 1 }
    s.issues c i = true →
    (bad = true → exec i s = .next ((s.atIssue c).setCore c
      { (q.recognised t0 0x0A 0) with tprog := k.tprog }))
    ∧ (bad = false → rows ≤ j0 → exec i s = .next ((s.atIssue c).setCore c (q.endXfer (t0 + 1))))
    ∧ (bad = false → j0 < rows →
      let x : Xfer :=
        { load := load, tn := tn, base := k.sreg rs1, stride := if rsel = 0 then k.sreg rs2 else 0
          first := if rsel = 0 then r.first else if rsel = 1 then r.srow else r.vrow, rows := rows, ca := ca, next := j0, q := t0
          moved := j0, w := if load then t0 + 1 else t0, tags := [], got := [], lines := [], fault := none }
      exec i s = .next (((s.atIssue c).setCore c { q with xfer := some x }).xferTo c (b + 1) 2))

/-- The rows of a transfer (R100 to R102): a row of a load that has arrived, all rows having been asked for, is written into the tile area
at its beat; a row of a store that has been read is taken by the store path.
The model's own readings and choices in it: log entry 32. -/
def Obligations.TileRowsMove : Prop :=
  ∀ (s : State) (c : CoreId) (x : Xfer) (j h : Nat) (row : Line),
    let k := s.core c
    k.xfer = some x → s.running c = true → x.fault = none → x.moved + 1 < x.rows →
    (x.load = true → x.rows ≤ x.next → x.got = [(x.moved, h, row)] → j = x.moved →
      let w := oddFrom (Nat.max h x.w)
      ∃ t, exec (.tileRowArrival c) s = .next t ∧ (t.core c).tileRow (x.first + j) = row
        ∧ (t.core c).xfer = some { x with moved := j + 1, w := w + 2, got := [] }
        ∧ t.beat (coreDomain c) = Nat.max (s.beat (coreDomain c)) w)
    ∧ (x.load = false → x.got = [(j, h, row)] → k.memQ = [] → ∀ s1,
      let a := Nat.max (s.beat (coreDomain c)) (h + 1)
      let t0 := s.toBeat (coreDomain c) a
      let r := t0.rowAccess c x
      t0.pathPut c { id := t0.nextId, at_ := a, op := .tileRow x.next x.ca, pa := r.addr, va := x.rowVa x.next, sh := r.page.sh
                     cls := r.page.cls, sent := false, again := false } 64 row.toNat true x.ca a = some s1 →
      exec (.tileStoreRowAccept c) s = .next (s1.modCore c (fun k =>
        { k with xfer := some { x with moved := x.moved + 1, next := x.next + 1, q := x.q + 2, w := a + 1, got := [] } })))

/-- Entry to a handler (R172, R175, R179, R181, R183, R185, R186, R188, R192): an exception that no shadow defers, an interrupt at a
boundary, and the recognition of a deferred exception after its shadow. An exception at M, or one that escalates to M, while the M save
set is live is a double fault (R189): the cluster's reset domain fires with code 0x3001.
The model's own readings and choices in it: log entries 16, 22, 35, 90. -/
def Obligations.HandlerEntries : Prop :=
  (∀ (s : State) (c : CoreId),
      let boot : Bool := 1048576 ≤ c.val
      let enters (u : State) (l cause : Nat) (faultv : Word) (restart : BitVec 48) (x offset : Nat) : Out :=
        .next (((u.toBeat (coreDomain c) (x + (u.core c).fcnt)).landEntry c (x + 7)).modCore c (fun k =>
          k.entered l cause faultv restart x offset))
      (∀ e, (s.core c).exc = some e → e.deferred = false → s.running c = true →
        let u := s.landEntry c e.x
        let lvl := (u.core c).level
        let tgt := if boot then 3 else if e.code = 0x0F ∧ lvl ≠ 0 then 3 else 1
        let l := Nat.max tgt lvl
        let esc : Bool := l = 1 && wb (u.core c).stat 14
        (l = 3 ∨ esc = true → wb (u.core c).stat 15 = false) →
        exec (.exceptionEntry c) s = enters u (if esc then 3 else l) (causeWord false esc e.shd tgt e.ecode.toNat e.code.toNat) e.faultv
          e.restart e.x (if esc then 0x100 else 0))
      ∧ (let b := Nat.max (s.beat (coreDomain c)) (s.core c).next
         let a := (s.core c).active b
         let u := s.landAll c a
         ∀ n l, s.running c = true → (boot = false → s.stopAsked (c.val / 16) = false) → (s.core c).xfer = none → (s.core c).move = none → (s.core c).absent a = none →
          (u.core c).boundary b = true →
          (u.core c).interrupt boot = some (n, l) →
          exec (.interruptEntry c) s = enters u l (causeWord true false false (if boot ∨ n = 4 then 3 else 1) 0 n) 0 (u.core c).pc
            ((u.core c).active b) 0x080)
      ∧ (∀ e, (s.core c).exc = some e → e.deferred = true →
        let x := (s.core c).shadow + 1
        ∃ t, exec (.deferredException c) s = .next t
          ∧ (t.core c).exc = some { e with deferred := false, shd := true, x := x }))
  ∧ (∀ (s : State) (c : CoreId) (e : Exc),
      c.val < 1048576 → (s.core c).exc = some e → e.deferred = false → s.running c = true →
      let u := s.landEntry c e.x
      let lvl := (u.core c).level
      let tgt := if e.code = 0x0F ∧ lvl ≠ 0 then 3 else 1
      let l := Nat.max tgt lvl
      (l = 3 ∨ l = 1 ∧ wb (u.core c).stat 14 = true) → wb (u.core c).stat 15 = true →
      exec (.exceptionEntry c) s = .next ((u.modCore c (fun k => { k with exc := none })).fireCluster (c.val / 16) 0x3001))

/-- MEMORY_QUEUE_SEND (R126, R214, R220, R221, R254): the head of a queue, from its beat on, leaves. A store enters the store path; a load
whose line is nowhere near has its line requested from the home; a signal of the sync queue goes to its cairn; a WAITC goes too, once no
earlier store to its cairn is open (R265), and stays at the head; FENCE.L leaves once the values of every earlier load are present, and
stays before.
The model's own readings and choices in it: log entries 24, 27, 28, 29. -/
def Obligations.QueueHeadsAreSent : Prop :=
  ∀ (s : State) (c : CoreId) (sync : Bool) (e : QEntry) (rest : List QEntry),
    c.val < 1048576 → (if sync then (s.core c).syncQ else (s.core c).memQ) = e :: rest → s.running c = true → e.again = false →
    let k := c.val / 16
    let b := Nat.max (s.beat (coreDomain c)) e.at_
    let queue (t : State) : List QEntry := if sync then (t.core c).syncQ else (t.core c).memQ
    let left : List QEntry := rest.map (fun x => { x with at_ := Nat.max x.at_ (b + 1) })
    let off := e.pa.toNat % 128
    let line := e.pa.toNat / 128
    let stores : Bool := s.storeOpen c (fun a => a.toNat / 256 = e.pa.toNat / 256)
    (∀ n v, e.op = .store n v → localOf e.pa < 0x18000000000 → s.pathUse k < 32 →
      (∀ x ∈ (s.cluster k).storePath, x.device = true ∨ x.addr ≠ w64 (line * 128)) →
      ∃ t, exec (.memoryQueueSend c sync) s = .next t ∧ queue t = left
        ∧ t.cluster k = { s.cluster k with storePath := (s.cluster k).storePath ++
            [{ addr := w64 (line * 128), device := false, data := BitVec.ofNat 1024 (v.toNat * 2 ^ (8 * off))
               mask := BitVec.ofNat 128 (byteMask off n), sh := e.sh, cls := e.cls, noAlloc := false
               contrib := [{ core := c, tile := false, low := e.pa }] }] }
        ∧ t.dram = s.dram)
    ∧ (∀ n sg, e.op = .load n sg → localOf e.pa < 0x18000000000 → s.isLocal (w64 (line * 128)) = true →
      (∀ x ∈ (s.cluster k).storePath, x.device = true ∨ x.addr.toNat / 128 ≠ line) → (∀ r ∈ s.resend, r.addr.toNat / 128 ≠ line) →
      (s.core c).rowCame e.id = none → s.rowComing c e.id = none → 0 < n → n ≤ 8 → off + n ≤ 128 → (s.cluster k).cfind line = none →
      (s.cluster k).skFind line = none →
      (∀ x ∈ (s.cluster k).misses, x.line ≠ line) →
      ∃ t r, exec (.memoryQueueSend c sync) s = .next t ∧ queue t = left ∧ t.reqs = s.reqs ++ [r]
        ∧ r.src = .cluster k ∧ r.kind = .read false ∧ r.addr = w64 (line * 128) ∧ r.cls = e.cls ∧ r.t = b
        ∧ (t.cluster k).misses = (s.cluster k).misses ++
            [{ id := r.id, line := line, sh := e.sh, cls := e.cls, install := true, old := false, victim := none
               waits := [{ core := c, tag := e.id, mask := 0, data := 0, t := b }] }])
    ∧ (∀ dec n q o, e.op = .sigc dec n → sync = true → s.isLocal e.pa = true → regionOf (localOf e.pa) = .cairn q o →
      ∃ t, exec (.memoryQueueSend c sync) s = .next t ∧ queue t = left
        ∧ t.reqs = s.reqs ++ [{ id := e.id, src := .core c, kind := if dec then .decrement n else .signal n, addr := e.pa, cls := e.cls
                                ident := s.coreIdent c (if dec then 1 else 0) true, beat := (s.saddle (q / 8192)).beat, acks := none, t := b }])
    ∧ (∀ n q o, (e.op = .waitGe n) → e.sent = false → (sync = false → stores = false) → s.isLocal e.pa = true →
      regionOf (localOf e.pa) = .cairn q o →
      ∃ t, exec (.memoryQueueSend c sync) s = .next t ∧ queue t = { e with sent := true } :: rest
        ∧ t.reqs = s.reqs ++ [{ id := e.id, src := .core c, kind := .waitGe n, addr := e.pa, cls := e.cls
                                ident := s.coreIdent c 2 sync, beat := (s.saddle (q / 8192)).beat, acks := none, t := b }])
    ∧ (∀ v q o, (e.op = .waitBar v) → e.sent = false → (sync = false → stores = false) → s.isLocal e.pa = true →
      regionOf (localOf e.pa) = .cairn q o →
      ∃ t, exec (.memoryQueueSend c sync) s = .next t ∧ queue t = { e with sent := true } :: rest
        ∧ t.reqs = s.reqs ++ [{ id := e.id, src := .core c, kind := .waitBar v, addr := e.pa, cls := e.cls
                                ident := s.coreIdent c 3 sync, beat := (s.saddle (q / 8192)).beat, acks := none, t := b }])
    ∧ (e.op = .fence 0 →
      let open_ : Prop := ∃ p ∈ (s.core c).pend, (∃ x, p.tag = some x ∧ x < e.id) ∨ (p.tag = none ∧ b < p.ready)
      (open_ → exec (.memoryQueueSend c sync) s = .next s)
      ∧ (¬open_ → ∃ t, exec (.memoryQueueSend c sync) s = .next t ∧ queue t = left ∧ t.reqs = s.reqs))

/-- ANSWER_DELIVERY (R278 to R280): the first value that is on its way to the core is present from its due beat on, or from its arrival on
where that is later and its path is not guarded, is contended, or has a domain that runs more slowly than the spur; a late one of these on
a guarded path that was not contended is counted for its ridge die.
The model's own readings and choices in it: log entries 22, 40. -/
def Obligations.AnswersDeliverTheirValues : Prop :=
  ∀ (s : State) (c : CoreId) (arrival : Nat) (contended : Bool) (a : Ans) (rest : List Ans),
    takeFirst (fun a => a.dst == .core c && a.code == 0 && a.isValue) s.answers = some (a, rest) →
    let u := (({ s with answers := rest } : State).wakes (coreDomain c)).settled c
    let due := dueAt a c
    let gives (v : Pend → Word) : List Pend := (u.core c).pend.map (fun p =>
      if p.tag = some a.id then { p with tag := none, val := v p, ready := s.deliveredAt c a.t due arrival a.guarded contended } else p)
    ∃ t, exec (.answerDelivery c arrival contended) s = .next t ∧ t.answers = rest
      ∧ ((∃ w, a.kind = .read w) ∨ a.kind = .loadWord ∨ (∃ d, a.kind = .readReserve d) →
          (∀ p ∈ (u.core c).pend, p.tag = some a.id → p.va.toNat % 128 + p.bytes ≤ 128 ∧ p.bytes ∈ [1, 2, 4, 8]) →
          (t.core c).pend = gives (fun p => lineValue a.data (p.va.toNat % 128) p.bytes p.signed))
      ∧ ((∃ d v, a.kind = .storeCond d v) → (t.core c).pend = gives (fun _ => w64 (a.data.toNat % 2)))
      ∧ (s.isLate c a.t due arrival a.guarded contended → a.joined = false →
          t.obj 0x8000 (c.val / 65536 + 1) = satInc (s.obj 0x8000 (c.val / 65536 + 1)))
      ∧ (¬s.isLate c a.t due arrival a.guarded contended ∨ a.joined = true → t.obj 0x8000 (c.val / 65536 + 1) = s.obj 0x8000 (c.val / 65536 + 1))

/-- ERROR_ANSWER, ASYNC_ERROR_ANSWER and STORE_PATH_ERROR_ANSWER complete (R173, R201, R202, R278, R474): a load's error answer raises the
exception at its delivery, ends a freeze there, and writes no register of its own; the answer to a store, signal or command is recorded in
AERR and AADR, or sets MORE, and sets the core's asynchronous-error interrupt bit, or its rim's bit where the spur is clamped; that to a
store-path entry does so in every core that merged into it.
The model's own readings and choices in it: log entries 21, 22, 35, 40. -/
def Obligations.ErrorAnswersAreReported : Prop :=
  ∀ (s : State) (a : Ans) (rest : List Ans),
    let recorded (k : Core) (kind : Nat) (addr : Word) : Word × Word :=
      if wb k.aerr 63 then (wsetb k.aerr 62 true, k.aadr) else (w64 (2 ^ 63 + kind * 2 ^ 60 + a.code.toNat), addr)
    let heard (t : State) (c x : Nat) (kind : Nat) (addr : Word) : Prop :=
      let k := (if s.rimKeeps c then s else (s.hearsAt (coreDomain c) x).settled c).core c
      ((t.core c).aerr, (t.core c).aadr) = recorded k kind addr
        ∧ (if s.rimKeeps c then (t.core c).held = k.held ||| 4 ∧ (t.core c).stat = k.stat
           else (t.core c).stat = k.stat ||| w64 (2 ^ 42) ∧ (t.core c).held = k.held)
        ∧ (t.core c).s = k.s ∧ (t.core c).pc = k.pc ∧ (t.core c).exc = k.exc
    (∀ (c : CoreId) (arrival : Nat) (contended : Bool) p,
      let u := s.settled c
      let k := u.core c
      let x := Nat.max (u.beat (coreDomain c)) (u.deliveredAt c a.t (dueAt a c) arrival a.guarded contended)
      takeFirst (fun a => a.dst == .core c && a.code != 0 && a.isValue) u.answers = some (a, rest) → k.exc = none → k.xfer = none →
      k.move = none → k.pend.find? (fun q => q.tag = some a.id) = some p →
      let at_ := match k.frozen with
        | some (_, f) => if Nat.max f x % 2 = f % 2 then Nat.max f x else Nat.max f x + 1
        | none => x
      let k1 := match k.frozen with
        | some (_, f) => k.thaw f at_
        | none => k
      ∃ t, exec (.errorAnswer c arrival contended) s = .next t ∧ t.answers = rest
        ∧ (t.core c).exc = some
            { code := 0x0E, faultv := p.va, restart := k.pc, ecode := a.code, x := k1.active at_
              deferred := k1.active at_ ≤ k.shadow && k.shadow != 0, shd := false }
        ∧ (t.core c).frozen = none ∧ (t.core c).fcnt = k1.fcnt ∧ (t.core c).pc = k.pc
        ∧ (∀ q ∈ (t.core c).pend, q.tag ≠ some a.id)
        ∧ (∀ r, (∀ q ∈ k.pend, q.tag = none → q.dst ≠ .sreg r) → (t.core c).sreg r = k.sreg r))
    ∧ (∀ (c : CoreId) (arrival : Nat) (contended : Bool) kind addr,
      takeFirst (fun a => a.dst == .core c && a.code != 0 && a.asyncKind.isSome) s.answers = some (a, rest) →
      a.asyncKind = some (kind, addr) → (s.domain (coreDomain c)).cad ≠ 2 →
      ∃ t, exec (.asyncErrorAnswer c arrival contended) s = .next t ∧ t.answers = rest
        ∧ heard t c (s.deliveredAt c a.t (dueAt a c) arrival a.guarded contended) kind addr
        ∧ (∀ j, j ≠ c.val → t.core j = s.core j) ∧ t.dram = s.dram)
    ∧ (∀ (k : ClusterId) (arrival : Nat) (contended : Bool) who, takeFirst (pathAnswer k) s.answers = some (a, rest) →
      a.dst = .storePath k who → (∀ x ∈ who, x.core / 16 = k.val) → (who.map (·.core)).Nodup → (s.domain (k.val / 64)).cad ≠ 2 →
      ∃ t, exec (.storePathErrorAnswer k arrival contended) s = .next t ∧ t.answers = rest
        ∧ (∀ x ∈ who, heard t x.core (s.deliveredAt (16 * k.val) a.t (dueAt a (16 * k.val)) arrival a.guarded contended)
            (if x.tile then 1 else 0) x.low)
        ∧ (∀ j, (∀ x ∈ who, x.core ≠ j) → t.core j = s.core j) ∧ t.dram = s.dram)

/-- WAITC_ANSWER, WAITC_RESEND and REQUEST_RESEND (R214, R269, R321): the answered WAITC leaves its queue, a Fenced one stays to be sent
again 4096 beats later, with a barrier's sense as a pure wait, and any other error is recorded; what is sent again goes as it went before.
The model's own readings and choices in it: log entries 40, 42. -/
def Obligations.WaitsAndResends : Prop :=
  ∀ (s : State),
    (∀ (c : CoreId) (sync : Bool) (arrival : Nat) (contended : Bool) (a : Ans) (rest : List Ans) (e : QEntry) (more : List QEntry),
      let queue (t : State) : List QEntry := if sync then (t.core c).syncQ else (t.core c).memQ
      takeFirst (fun a => a.dst == .core c && a.isWait sync) s.answers = some (a, rest) → queue s = e :: more → e.id = a.id →
      (s.domain (coreDomain c)).cad ≠ 2 →
      let now := Nat.max (s.beat (coreDomain c)) (s.deliveredAt c a.t (dueAt a c) arrival a.guarded contended)
      ∃ t, exec (.waitcAnswer c sync arrival contended) s = .next t ∧ t.answers = rest
        ∧ (a.code = 0x1001 → queue t = { e with sent := false, again := true, at_ := now + 4096, op := match e.op, a.sense with
            | .waitBar _, some b => .waitBar (some b)
            | o, _ => o } :: more)
        ∧ (a.code ≠ 0x1001 → (queue t).map (·.id) = more.map (·.id))
        ∧ (a.code ≠ 0 → a.code ≠ 0x1001 → wb (t.core c).aerr 63 = true)
        ∧ (a.code = 0 → (t.core c).aerr = (s.core c).aerr ∧
            (sync = false → c.val < 1048576 → t.cluster (c.val / 16) = (s.cluster (c.val / 16)).acquireActions)))
    ∧ (∀ (c : CoreId) (sync : Bool) (e : QEntry) (more : List QEntry) (n q o : Nat),
      (if sync then (s.core c).syncQ else (s.core c).memQ) = e :: more → e.again = true → e.sent = false → e.op = .waitGe n →
      s.running c = true → s.isLocal e.pa = true → regionOf (localOf e.pa) = .cairn q o →
      (sync = false → s.storeOpen c (fun a => a.toNat / 256 = e.pa.toNat / 256) = false) →
      ∃ t, exec (.waitcResend c sync) s = .next t
        ∧ (if sync then (t.core c).syncQ else (t.core c).memQ) = { e with sent := true, again := false } :: more
        ∧ ∃ r, t.reqs = s.reqs ++ [r] ∧ r.id = e.id ∧ r.src = .core c ∧ r.kind = .waitGe n ∧ r.addr = e.pa
            ∧ r.t = Nat.max (s.beat (coreDomain c)) e.at_)
    ∧ (∀ (k : ClusterId), s.host.waiting = [] → s.host.descs = [] → s.sumWait = [] →
      (∀ r ∈ s.resend, resentWith k r = true → s.isLocal r.addr = true ∧ localOf r.addr < 0x18000000000) →
      ∃ t, exec (.requestResend k) s = .next t ∧ t.resend = s.resend.filter (fun r => !resentWith k r)
        ∧ t.reqs.map (fun r => (r.id, r.src, r.kind, r.addr, r.ident)) =
            (s.reqs ++ s.resend.filter (resentWith k)).map (fun r => (r.id, r.src, r.kind, r.addr, r.ident)))

/-- FREEZE_END, ICACHE_FILL and TRANSLATION_WALK (R116, R117, R206 to R210): a freeze ends at the first beat of its parity in which its
condition is met, and its beats are counted; a fetched line is in the instruction cache; a leaf found is in the translation cache, and a
walk that meets no leaf raises the page fault of the access.
The model's own readings and choices in it: log entries 12, 23, 36, 85. -/
def Obligations.FreezesEnd : Prop :=
  ∀ (s : State) (c : CoreId) (f : Nat),
    let k := s.core c
    (∀ why, (why = .memFull ∨ why = .syncFull ∨ why = .storePath ∨ why = .icache ∨ ∃ va acc, why = .walk va acc) →
      let q := (s.settled c).core c
      q.frozen = some (why, f) → q.xfer = none → q.clear ≠ 0 → (s.settled c).running c = true →
      let e := if Nat.max f q.clear % 2 = f % 2 then Nat.max f q.clear else Nat.max f q.clear + 1
      ∃ t, exec (.freezeEnd c) s = .next t ∧ (t.core c).frozen = none ∧ (t.core c).fcnt = q.fcnt + (e - f) ∧ (t.core c).pc = q.pc
        ∧ t.beat (coreDomain c) = Nat.max ((s.settled c).beat (coreDomain c)) e)
    ∧ (∀ pa pg arrival contended, k.frozen = some (.icache, f) → k.clear = 0 → s.access c (w64 k.pc.toNat) .fetch .fetch = .ok pa pg →
      let line := localOf pa / 128
      s.lineBad line = false → s.targetError (localOf pa) (if 1048576 ≤ c.val then .summit else .core c) .read = 0 →
      (s.cluster (c.val / 16)).cfind (pa.toNat / 128) = none → s.saddlesOff = false → s.lineBusy line = false →
      (s.plinth (stackOf (line * 128))).slots.length < 1024 → (∀ x ∈ (s.plinth (stackOf (line * 128))).slots, x.write = true) →
      ∃ t p, exec (.icacheFill c arrival contended) s = .next t ∧ line ∈ (t.core c).icache ∧ 0 < p
        ∧ (t.core c).clear = s.deliveredAt c f (f + p) arrival (decide (c.val < 1048576)) contended
        ∧ (t.core c).pc = k.pc ∧ t.dram = s.dram)
    ∧ (∀ va acc arrival contended, k.frozen = some (.walk va acc, f) → k.clear = 0 →
      (∀ t sum s1, s.walkFrom c va 1 (wf k.atb 51 14 * 2 ^ 14) 4 3 = (.leaf t, sum, s1) →
        ∃ u, exec (.translationWalk c arrival contended) s = .next u
          ∧ (u.core c).tlb = (if (s1.core c).tlb.length < 64 then (s1.core c).tlb else (s1.core c).tlb.drop 1) ++ [t]
          ∧ (u.core c).clear = s1.deliveredAt c f (f + sum) arrival (decide (c.val < 1048576)) contended)
      ∧ (∀ sum s1, s.walkFrom c va 1 (wf k.atb 51 14 * 2 ^ 14) 4 3 = (.fails, sum, s1) → (s1.core c).xfer = none →
        acc = .load ∨ acc = .store →
        ∃ u e, exec (.translationWalk c arrival contended) s = .next u ∧ (u.core c).frozen = none ∧ (u.core c).exc = some e
          ∧ e.code = (if acc = .load then 0x07 else 0x08) ∧ e.faultv = va))

/-- STORE_PATH_DRAIN and CLUSTER_CACHE_FILL (R219 to R221): the oldest entry's bytes are in the cache, dirty and valid, its other bytes as
before; a line that arrives is whole, its dirty bytes kept, and every access that waited is answered with it and with the bytes that its
own lookup found (R216); where its place in the cache is a dirty victim's, the victim's bytes leave first, and the line waits until its
home has accepted them.
The model's own readings and choices in it: log entries 27, 29. -/
def Obligations.ClusterCacheTakesStoresAndLines : Prop :=
  ∀ (s : State) (k : ClusterId),
    let cl := s.cluster k
    (∀ e rest, cl.storePath = e :: rest → s.pathBlocked k e = false → e.device = false → e.noAlloc = false →
      let line := e.addr.toNat / 128
      (∀ l, cl.cfind line = some l → l.bad = 0 →
        ∃ t m, exec (.storePathDrain k) s = .next t ∧ (t.cluster k).storePath = rest ∧ (t.cluster k).cfind line = some m
          ∧ m.data = mergeLine e.mask e.data l.data ∧ m.valid = l.valid ||| e.mask ∧ m.dirty = l.dirty ||| e.mask ∧ t.dram = s.dram)
      ∧ (cl.cfind line = none → (∀ l ∈ cl.cset line, l.bad = 0) →
        ∃ t m, exec (.storePathDrain k) s = .next t ∧ (t.cluster k).storePath = rest ∧ (t.cluster k).cfind line = some m
          ∧ m.data = mergeLine e.mask e.data 0 ∧ m.valid = e.mask ∧ m.dirty = e.mask ∧ t.dram = s.dram))
    ∧ (∀ a rest m, takeFirst (fun a => a.dst == .cluster k && !s.fillWaits k a.id) s.answers = some (a, rest) → a.code = 0 →
      cl.misses.filter (fun x => x.id == a.id) = [m] → m.install = true → m.old = false →
      (∀ l, cl.cfind m.line = some l → l.bad = 0 →
        ∃ t l', exec (.clusterCacheFill k) s = .next t ∧ (t.cluster k).cfind m.line = some l'
          ∧ l'.data = mergeLine l.dirty l.data a.data ∧ l'.valid = BitVec.allOnes 128 ∧ l'.dirty = l.dirty
          ∧ t.answers.map (fun x => (x.id, x.dst, x.data)) = rest.map (fun x => (x.id, x.dst, x.data)) ++
              m.waits.map (fun w => (w.tag, .core w.core, mergeLine w.mask w.data a.data)))
      ∧ (cl.cfind m.line = none → (∀ l ∈ cl.cset m.line, l.dirty = 0) →
        ∃ t l', exec (.clusterCacheFill k) s = .next t ∧ (t.cluster k).cfind m.line = some l'
          ∧ l'.data = a.data ∧ l'.valid = BitVec.allOnes 128 ∧ l'.dirty = 0
          ∧ t.answers.map (fun x => (x.id, x.dst, x.data)) = rest.map (fun x => (x.id, x.dst, x.data)) ++
              m.waits.map (fun w => (w.tag, .core w.core, mergeLine w.mask w.data a.data)))
      ∧ (∀ v, cl.cfind m.line = none → (wayFor (cl.cset m.line)).2 = some v → cl.clines.filter (fun l => l.line == v.line) = [v] →
        v.isDirty = true → v.bad = 0 → s.isLocal (w64 (v.line * 128)) = true →
        ∃ t r, exec (.clusterCacheFill k) s = .next t ∧ t.answers = s.answers ∧ t.reqs = s.reqs ++ [r]
          ∧ r.kind = .write v.dirty v.data false ∧ r.addr = w64 (v.line * 128) ∧ r.src = .storePath k []
          ∧ (t.cluster k).misses = cl.misses.map (fun x =>
              { x with old := x.old || x.line == v.line, victim := if x.id = a.id then some r.id else x.victim })))

/-- SKETCH_DATA_ARRIVAL, SKETCH_INVALIDATE and SKETCH_RELEASE (R225, R227 to R229): the data that no access waits for makes the Pending
entry Ready, a dropped prefetch leaves it Empty; every entry of an invalidated line is Invalid; what a plinth has sent to a cluster for
one line comes in its order; a release takes one entry of the holder out of the plinth's filter.
The model's own readings and choices in it: log entries 30, 39. -/
def Obligations.SketchBufferEvents : Prop :=
  ∀ (s : State),
    (∀ (k : ClusterId) (a : Ans) (rest : List Ans) (e : Sketch),
      takeFirst (fun a => a.dst == .sketch k false && isPrefetch a.request
        && !s.reqs.any (fun r => isInvFor k r && r.addr.toNat / 128 = a.addr.toNat / 128 && r.id < a.no)) s.answers = some (a, rest) →
      (s.cluster k).sketch.find? (fun e => e.id == a.id && e.st == .pending) = some e →
      (∀ m ∈ (s.cluster k).misses, m.id ≠ a.id) →
      ∃ t, exec (.sketchDataArrival k) s = .next t ∧ t.answers = rest
        ∧ (a.code = 0 → a.sense = none → (t.cluster k).sketch = (s.cluster k).sketch.map (fun x =>
            if x.id = a.id then { x with st := .ready, data := a.data } else x))
        ∧ (a.code = 0 → a.sense ≠ none → (t.cluster k).sketch = (s.cluster k).sketch.filter (fun x => x.id ≠ a.id)))
    ∧ (∀ (k : ClusterId) (r : Req) (rest : List Req) p l,
      takeFirst (fun r => isInvFor k r && !s.answers.any (fun a => a.dst == .sketch k false && isPrefetch a.request
        && r.addr.toNat / 128 = a.addr.toNat / 128 && a.no ≤ r.id)) s.reqs = some (r, rest) → r.kind = .invalidate p l →
      ∃ t, exec (.sketchInvalidate k) s = .next t
        ∧ (t.cluster k).sketch = (s.cluster k).sketch.map (fun (e : Sketch) =>
            if e.line = r.addr.toNat / 128 then { e with st := .invalid } else e)
        ∧ t.dram = s.dram)
    ∧ (∀ (p : PlinthId) (r : Req) (rest : List Req) (k l : Nat),
      takeFirst (fun r => match r.kind with
        | .sketchRelease _ => s.isLocal r.addr && stackOf (localOf r.addr) = p.val
        | _ => false) s.reqs = some (r, rest) → s.saddlesOff = false → r.src = .sketch k false → r.kind = .sketchRelease l →
      ∃ t, exec (.sketchRelease p) s = .next t ∧ t.reqs = rest
        ∧ (t.plinth p).filter = (s.plinth p).filter.erase (localOf r.addr / 128, BitVec.ofNat 12 s.dev, BitVec.ofNat 16 k)
        ∧ ∀ q, q ≠ p.val → t.plinth q = s.plinth q)

/-- PLINTH_READ and PREFETCH_READ complete (R139, R140, R228 to R235): the first read that passes no other is answered with its line where
the memory-side cache has it, and takes or joins a slot where it has not and the bank has room; where the bank has none it is refused and
holds a ticket; an access that its target denies is answered with the error; an LR also records its reservation. A prefetch read has its
filter entry, one of its own, before its data leaves, and is answered as dropped where the filter is full; a release that its holder
sent before comes first. A plinth whose generator is stopped takes 8 beats more (R276).
The model's own readings and choices in it: log entries 12, 38, 40, 84. -/
def Obligations.PlinthsTakeReads : Prop :=
  ∀ (s : State) (p : PlinthId) (r : Req) (rest : List Req),
    let line := localOf r.addr / 128
    let u : State := { s with reqs := rest }
    let err := u.targetError (localOf r.addr) (r.who s.dev) .read
    let slots := (s.plinth p).slots
    let room : Prop := slots.length < 8192 ∧ (slots.filter (fun x => x.bank == Config.bankOf line)).length < 1024
    let late := if (s.domain (0x438 + p.val)).cad = 2 then 8 else 0
    let r1 : Req := { r with beat := r.beat + late }
    let answered (t : State) (code : Nat) (data : BitVec 1024) (path : Nat) : Prop :=
      ∃ a, t.answers = s.answers ++ [a] ∧ a.id = r.id ∧ a.dst = r.src ∧ a.code = BitVec.ofNat 16 code ∧ a.data = data ∧ a.path = path
    s.saddlesOff = false → s.abandoned.contains r.id = false → r.src.inModule = true →
    (pickReq p isRead (s.plinth p).refused [] s.reqs = some (r, rest) →
      let reserve : Bool := match r.kind with
        | .readReserve _ => true
        | _ => false
      let extra := if reserve then 8 else 0
      (err ≠ 0 → err ≠ 0x1001 → ∃ t, exec (.plinthRead p) s = .next t ∧ t.reqs = rest
        ∧ answered t err 0 (180 + r1.beat + extra))
      ∧ (err = 0 → (u.mscHit (localOf r.addr) r.cls false).isSome = true → s.lineBad line = false →
        ∃ t, exec (.plinthRead p) s = .next t ∧ t.reqs = rest ∧ t.dram = s.dram
          ∧ answered t 0 (BitVec.ofNat 1024 (s.readMem (line * 128) 128)) (180 + r1.beat + extra)
          ∧ (reserve = true → (r.ident &&& w64 0xFFF00000001FFFFF, line) ∈ (t.plinth p).rsv))
      ∧ (err = 0 → u.mscHit (localOf r.addr) r.cls false = none → room →
        ∃ t, exec (.plinthRead p) s = .next t ∧ t.reqs = rest ∧ t.answers = s.answers
          ∧ ∃ x ∈ (t.plinth p).slots, x.line = line ∧ x.write = false ∧ r1 ∈ x.waits)
      ∧ (err = 0 → u.mscHit (localOf r.addr) r.cls false = none → ¬room → (∀ x ∈ slots, x.line ≠ line) →
        ∃ t, exec (.plinthRead p) s = .next t ∧ t.reqs = rest ∧ t.answers = s.answers ∧ (t.plinth p).slots = slots
          ∧ (t.plinth p).refused.map (·.req) = (s.plinth p).refused.map (·.req) ++ [r1]))
    ∧ (∀ cls k, pickReq p (fun r => isPrefetch r && !s.reqs.any (fun x =>
        x.id < r.id && s.releases (localOf r.addr / 128) (holderOf s r) x)) (s.plinth p).refused [] s.reqs = some (r, rest) → r.kind = .prefetch false cls →
      r.src = .sketch k false → err = 0 →
      (131072 ≤ (s.plinth p).filter.length → ∃ t a, exec (.prefetchRead p) s = .next t ∧ t.reqs = rest ∧ t.answers = s.answers ++ [a]
        ∧ a.dst = r.src ∧ a.id = r.id ∧ a.code = 0 ∧ a.sense = some true ∧ t.plinth p = s.plinth p)
      ∧ ((s.plinth p).filter.length < 131072 → ∃ t, exec (.prefetchRead p) s = .next t ∧ t.reqs = rest
        ∧ (t.plinth p).filter = (s.plinth p).filter ++ [(line, BitVec.ofNat 12 s.dev, BitVec.ofNat 16 k)]))

/-- PLINTH_WRITE completes (R139, R228, R233 to R235): the first write that passes no other, whose bank has room and whose line no cluster
holds, is visible: its bytes under the mask are written, every other byte is as before, and every reservation of the line is gone; a
store-conditional without its reservation writes nothing and is answered with 1; a denied write writes nothing, and is answered with the
error; where holders have the line each is sent an invalidation, and the write waits for as many acknowledgements before it is performed.
The model's own readings and choices in it: log entries 12, 38, 39, 84. -/
def Obligations.PlinthsTakeWrites : Prop :=
  ∀ (s : State) (p : PlinthId) (r : Req) (rest : List Req),
    s.saddlesOff = false → pickReq p isWrite (s.plinth p).refused [] s.reqs = some (r, rest) → r.src.inModule = true →
    s.abandoned.contains r.id = false →
    let a := localOf r.addr
    let line := a / 128
    let u : State := { s with reqs := rest }
    let err := u.targetError a (r.who s.dev) .write
    let cond : Bool := match r.kind with
      | .storeCond _ _ => true
      | _ => false
    let reserved : Bool := (s.plinth p).rsv.contains (r.ident &&& w64 0xFFF00000001FFFFF, line)
    let slots := (s.plinth p).slots
    let room : Prop := slots.length ≤ 8190 ∧ ∀ b, (slots.filter (fun x => x.bank == b)).length ≤ 1022
    let holders := ((((s.plinth p).filter.filter (fun e => e.1 == line)).map (·.2)).eraseDups).filter (u.holderThere p)
    (err ≠ 0 → err ≠ 0x1001 → ∃ t b, exec (.plinthWrite p) s = .next t ∧ t.reqs = rest ∧ t.dram = s.dram
        ∧ t.answers = s.answers ++ [b] ∧ b.id = r.id ∧ b.dst = r.src ∧ b.code = BitVec.ofNat 16 err ∧ b.data = 0)
    ∧ (err = 0 → cond = true → reserved = false → ∃ t b, exec (.plinthWrite p) s = .next t ∧ t.reqs = rest ∧ t.dram = s.dram
        ∧ t.answers = s.answers ++ [b] ∧ b.id = r.id ∧ b.dst = r.src ∧ b.code = 0 ∧ b.data = 1)
    ∧ (err = 0 → (cond = true → reserved = true) → room → holders = [] →
      ∃ t, exec (.plinthWrite p) s = .next t ∧ t.reqs = rest
        ∧ (∀ x, t.byte x = if line * 128 ≤ x ∧ x < line * 128 + 128 ∧ r.bytes.1.getLsbD (x - line * 128) = true
            then BitVec.ofNat 8 (r.bytes.2.toNat / 2 ^ (8 * (x - line * 128))) else s.byte x)
        ∧ (∀ e ∈ (t.plinth p).rsv, e.2 ≠ line)
        ∧ (cond = true → ∃ reads b, t.answers = s.answers ++ reads ++ [b] ∧ b.id = r.id ∧ b.dst = r.src ∧ b.code = 0 ∧ b.data = 0))
    ∧ (err = 0 → (cond = true → reserved = true) → room → holders ≠ [] →
      ∃ t, exec (.plinthWrite p) s = .next t ∧ t.dram = s.dram
        ∧ (∃ q ∈ t.reqs, q.id = r.id ∧ q.kind = r.kind ∧ q.addr = r.addr ∧ q.acks = some holders.length)
        ∧ ∀ h ∈ holders, h.1.toNat = s.dev → ∃ q ∈ t.reqs, q.kind = .invalidate p line ∧ q.ident = w64 h.2.toNat
            ∧ q.addr = w64 (s.dev * 2 ^ 52 + line * 128))

/-- DRAM_ACCESS_DONE, REFRESH and SORTER_RETRY complete (R230 to R234, R281): the access that is served next frees its slot, and a read's
requesters have their line, with the class of a refresh, an open row or another row, and 8 beats more where the PHY's generator was
stopped (R276); a refreshed bank is held once; the first ticket that
is its bank's oldest, where its bank has room, is admitted.
The model's own readings and choices in it: log entries 12, 38, 40, 84. -/
def Obligations.DramEvents : Prop :=
  ∀ (s : State) (p : PlinthId),
    (∀ x run, s.nextSlot p = some (x, run) →
      (x.write = true → ∃ t, exec (.dramAccessDone p) s = .next t ∧ (t.plinth p).slots = (s.plinth p).slots.erase x
        ∧ t.answers = s.answers ∧ t.dram = s.dram)
      ∧ (x.write = false →
        (∀ r ∈ x.waits, (∃ w, r.kind = .read w) ∧ localOf r.addr / 128 = x.line ∧ r.src.inModule = true
          ∧ s.abandoned.contains r.id = false) → s.lineBad x.line = false →
        let path := (if (s.plinth p).refreshing.contains x.bank then 470
            else if ((s.plinth p).openRow x.bank).elim false (fun e => e.1 = Config.rowOf x.line) then 260 else 320)
          + if (s.domain (0x418 + p.val)).cad = 2 then 8 else 0
        ∃ t, exec (.dramAccessDone p) s = .next t ∧ t.dram = s.dram
          ∧ t.answers.map (fun a => (a.id, a.dst, a.code, a.data, a.path)) =
            s.answers.map (fun a => (a.id, a.dst, a.code, a.data, a.path)) ++ x.waits.map (fun r =>
              (r.id, r.src, 0, BitVec.ofNat 1024 (s.readMem (x.line * 128) 128), path + r.beat))))
    ∧ (∀ bank, ∃ t, exec (.refresh p bank) s = .next t ∧ bank ∈ (t.plinth p).refreshing ∧ t.reqs = s.reqs ∧ t.dram = s.dram
        ∧ (∀ b, b ≠ bank → (b ∈ (t.plinth p).refreshing ↔ b ∈ (s.plinth p).refreshing)) ∧ ∀ q, q ≠ p.val → t.plinth q = s.plinth q)
    ∧ (∀ tk, s.saddlesOff = false →
      (s.plinth p).refused.find? (fun t => oldestOfBank (s.plinth p).refused t && !(s.plinth p).full (reqBank t.req)) = some tk →
      (∃ w, tk.req.kind = .read w) → s.targetError (localOf tk.req.addr) (tk.req.who s.dev) .read = 0 →
      stackOf (localOf tk.req.addr) = p.val → s.mscHit (localOf tk.req.addr) tk.req.cls false = none →
      ∃ t, exec (.sorterRetry p) s = .next t ∧ (t.plinth p).refused.map (·.no) = ((s.plinth p).refused.erase tk).map (·.no)
        ∧ t.answers = s.answers
        ∧ ∃ x ∈ (t.plinth p).slots, x.line = localOf tk.req.addr / 128 ∧ x.write = false ∧ tk.req ∈ x.waits)

/-- IWORD_STORE and IWORD_LOAD (R199, R200): a permitted store to IWORD ORs its bits into the word and raises the core's interrupt; a
permitted load of the owner reads IWORD and clears it, any other's reads it and leaves it. The reset of the core's cluster domain leaves
IWORD 0. The path counts of the answers, 166 and 138, are the model's choice (log entry 40): R282 gives none for a core's own block. No
other core sees a change, but that its own store to the block may have become visible.
The model's own readings and choices in it: log entry 40. -/
def Obligations.CoreBlockWords : Prop :=
  (∀ (s : State) (c : CoreId) (r : Req) (rest : List Req),
    blockReq s c = some (r, rest) → s.rimKeeps c = false → (s.domain (coreDomain c)).cad ≠ 2 → localOf r.addr % 64 = 0 →
    let u : State := { s with reqs := rest }
    let path := match r.src with
      | .core b => if b < 1048576 then 166 else 138
      | _ => 166
    (∀ v, r.kind = .word v → u.targetError (localOf r.addr) (r.who s.dev) .write = 0 →
      ∃ t, exec (.iwordStore c) s = .next t ∧ t.reqs = rest ∧ (t.core c).iword = (s.core c).iword ||| v
        ∧ (t.core c).stat = (if v = 0 then (s.core c).stat else ((s.settled c).core c).stat ||| w64 (2 ^ 40))
        ∧ ∀ j, j ≠ c.val →
            { t.core j with visible := (s.core j).visible, visibleFar := (s.core j).visibleFar } = s.core j)
    ∧ (r.kind = .loadWord → u.targetError (localOf r.addr) (r.who s.dev) .read = 0 →
      let a := answerOf r 0 (BitVec.ofNat 1024 ((s.core c).iword.toNat * 2 ^ (8 * (localOf r.addr % 128)))) none path false
      ∃ m : State, exec (.iwordLoad c) s = .next (m.answer a) ∧ m.reqs = rest ∧ m.answers = s.answers
        ∧ (r.src.inModule = true → s.abandoned.contains r.id = false → (m.answer a).answers = s.answers ++ [a])
        ∧ (m.core c).iword = (if r.src = .core c then 0 else (s.core c).iword)))
  ∧ ∀ (s : State) (c : CoreId) (d : Dom) (r : Recov), c.val < 1048576 → domCluster d (c.val / 16) = true →
    s.recovs.find? (fun x => x.dom = d) = some r → r.phase = .scrub →
    ∃ t, exec (.resetScrubDone d) s = .next t ∧ (t.core c).iword = 0

/-- SIGNAL and DECREMENT (R254, R255, R262): VALUE goes up to 2^24 − 1 at most, or down to 0 at least, with OVF or UNF where it would go
on; LAST is the requester; every waiter whose count is reached is answered, in list order, behind the request itself; at a barrier nothing
but MISUSE changes; a store to an offset that the cairn ignores changes nothing (R246).
The model's own readings and choices in it: log entry 41. -/
def Obligations.CairnsCount : Prop :=
  ∀ (s : State) (n : SaddleId) (r : Req) (q off : Nat), s.unitTakes n r q off true →
    let k := s.cairn q
    let done (i : Instr) (k' : Cairn) (more : List Waiter) : Prop :=
      ∃ t, exec i s = .next t ∧ t.cairn q = k' ∧ t.atOutlet n = s.atOutlet n ++ (r.id, r.src, 0, none) :: answersTo more
        ∧ (∀ j, j ≠ q → t.cairn j = s.cairn j) ∧ t.reqs = s.reqs.filter (fun x => x.id != r.id) ∧ t.dram = s.dram
    let up (v : Nat) : Cairn :=
      let new := Nat.min (k.value + v) (2 ^ 24 - 1)
      let k1 := { k with value := new, last := r.ident, waiters := k.waiters.filter (fun w => w.barrier || decide (new < w.n)) }
      if 2 ^ 24 - 1 < k.value + v then k1.flagged 1 r.ident else k1
    let reached (v : Nat) : List Waiter := k.waiters.filter (fun w => !w.barrier && decide (w.n ≤ Nat.min (k.value + v) (2 ^ 24 - 1)))
    (∀ v, r.kind = .signal v → off = 0 → k.mode ≠ 2 → done (.cairnSignal n) (up v) (reached v))
    ∧ (∀ v, r.kind = .word v → off = 0x18 → k.mode ≠ 2 → done (.cairnSignal n) (up (cairnN v)) (reached (cairnN v)))
    ∧ (∀ v, r.kind = .decrement v → off = 0 → k.mode ≠ 2 →
        let k1 := { k with value := k.value - v, last := r.ident }
        done (.cairnDecrement n) (if k.value < v then k1.flagged 2 r.ident else k1) [])
    ∧ (∀ v, r.kind = .signal v → off = 0 → k.mode = 2 → done (.cairnSignal n) (k.flagged 4 r.ident) [])
    ∧ (∀ v, r.kind = .word v → off = 0x18 → k.mode = 2 → done (.cairnSignal n) (k.flagged 4 r.ident) [])
    ∧ (∀ v, r.kind = .decrement v → off = 0 → k.mode = 2 → done (.cairnDecrement n) (k.flagged 4 r.ident) [])
    ∧ (∀ v, r.kind = .word v → off ≠ 0x08 → off ≠ 0x10 → off ≠ 0x18 → off ≠ 0x20 → done (.cairnSignal n) k [])

/-- WAITC.GE and WAITC.BAR at their cairn (R254, R256, R257, R262, R269), of a requester of the module, or of another while its share has
room and no refused one stands before it (R263): a wait whose count is reached is answered, and else listed; an arrival counts and is
listed, the last one ends the episode, inverts SENSE and answers every waiter of the old sense; a pure wait is answered once its episode
has ended; at a cairn of another mode nothing but MISUSE changes. -/
def Obligations.CairnsHoldWaiters : Prop :=
  ∀ (s : State) (n : SaddleId) (r : Req) (q : Nat), s.unitTakes n r q 0 false →
    (remoteSrc r.src = false ∨ s.remoteWaiters n < 1048568 ∧ (s.saddle n).refused = []) →
    let k := s.cairn q
    let done (i : Instr) (k' : Cairn) (now : List (Nat × Src × BitVec 16 × Option Bool)) : Prop :=
      ∃ t, exec i s = .next t ∧ t.cairn q = k' ∧ t.atOutlet n = s.atOutlet n ++ now
        ∧ (∀ j, j ≠ q → t.cairn j = s.cairn j) ∧ t.reqs = s.reqs.filter (fun x => x.id != r.id) ∧ t.dram = s.dram
    let me : List (Nat × Src × BitVec 16 × Option Bool) := [(r.id, r.src, 0, none)]
    (∀ v, r.kind = .waitGe v →
      (k.mode = 1 → v ≤ k.value → done (.cairnWait n) k me)
      ∧ (k.mode = 1 → k.value < v →
          done (.cairnWait n) { k with waiters := k.waiters ++ [{ req := r, n := v, barrier := false, sense := false }] } [])
      ∧ (k.mode ≠ 1 → done (.cairnWait n) (k.flagged 4 r.ident) me))
    ∧ (∀ sense, r.kind = .waitBar sense →
      (k.mode ≠ 2 → done (.cairnBarrierArrival n) (k.flagged 4 r.ident) me)
      ∧ (k.mode = 2 → sense = none → k.value + 1 ≤ k.pm1.toNat →
          done (.cairnBarrierArrival n)
            { k with value := k.value + 1, waiters := k.waiters ++ [{ req := r, n := 0, barrier := true, sense := k.sense }] } [])
      ∧ (k.mode = 2 → sense = none → k.pm1.toNat < k.value + 1 →
          done (.cairnBarrierArrival n)
            { k with value := 0, sense := !k.sense, waiters := k.waiters.filter (fun w => !(w.barrier && w.sense == k.sense)) }
            (me ++ answersTo (k.waiters.filter (fun w => w.barrier && w.sense == k.sense))))
      ∧ (∀ v, k.mode = 2 → sense = some v → v ≠ k.sense → done (.cairnBarrierArrival n) k me)
      ∧ (∀ v, k.mode = 2 → sense = some v → v = k.sense →
          done (.cairnBarrierArrival n) { k with waiters := k.waiters ++ [{ req := r, n := 0, barrier := true, sense := v }] } []))

/-- The stores to CONFIG, FLAGS and PSET and a cancel (R249 to R251, R259, R269), the outlet and share of a saddle (R258, R263, R284), and
a load, which has the word of its offset (R246).
The model's own readings and choices in it: log entries 41, 42. -/
def Obligations.CairnsAreConfigured : Prop :=
  ∀ (s : State) (n : SaddleId),
    (∀ (r : Req) (q off : Nat) (v : Word), s.unitTakes n r q off true → r.kind = .word v →
      let k := s.cairn q
      let done (i : Instr) (k' : Cairn) (more : List Waiter) : Prop :=
        ∃ t, exec i s = .next t ∧ t.cairn q = k' ∧ t.atOutlet n = s.atOutlet n ++ (r.id, r.src, 0, none) :: answersTo more
          ∧ (∀ j, j ≠ q → t.cairn j = s.cairn j) ∧ t.dram = s.dram
      (off = 0x08 → wf v 63 62 = 3 → done (.cairnConfigWrite n) k [])
      ∧ (off = 0x08 → wf v 63 62 ≠ 3 → k.waiters ≠ [] → done (.cairnConfigWrite n) (k.flagged 8 r.ident) [])
      ∧ (off = 0x08 → wf v 63 62 ≠ 3 → k.waiters = [] → done (.cairnConfigWrite n)
          { k with
            mode := BitVec.ofNat 2 (wf v 63 62), sense := false
            value := if wf v 63 62 = 1 then wf v 23 0 else 0
            pm1 := if wf v 63 62 = 2 then BitVec.ofNat 20 (wf v 51 32) else 0 } [])
      ∧ (off = 0x10 → done (.cairnFlagsWrite n) { k with flags := k.flags &&& ~~~(BitVec.ofNat 4 (wf v 3 0)) } [])
      ∧ (off = 0x20 →
          let p1 : BitVec 20 := BitVec.ofNat 20 (wf v 19 0)
          if k.mode = 2 ∧ p1.toNat + 1 ≤ k.value then
            ∃ t, exec (.pset n) s = .next t
              ∧ t.cairn q = { k with pm1 := p1, value := 0, sense := !k.sense
                                     waiters := k.waiters.filter (fun w => !(w.barrier && w.sense == k.sense)) }
              ∧ t.atOutlet n = s.atOutlet n ++ answersTo (k.waiters.filter (fun w => w.barrier && w.sense == k.sense)) ++
                  [(r.id, r.src, 0, none)]
              ∧ (∀ j, j ≠ q → t.cairn j = s.cairn j) ∧ t.dram = s.dram
          else done (.pset n) { k with pm1 := p1 } []))
    ∧ (∀ (r : Req) (q off : Nat), s.saddlesOff = false → nextAt n s.reqs = some r → cairnOf r = some (q, off) → r.kind = .cancel →
      ∃ t, exec (.cairnCancel n) s = .next t
        ∧ t.cairn q = { s.cairn q with waiters := (s.cairn q).waiters.filter (fun w => w.req.ident != r.ident) }
        ∧ (t.saddle n).refused = (s.saddle n).refused.filter (fun x => x.req.ident != r.ident)
        ∧ t.atOutlet n = s.atOutlet n ++ [(r.id, r.src, 0, none)])
    ∧ (∀ a rest, (∀ x, nextAt n s.arrived = some x → isLoad x = false) → (s.saddle n).outlet = a :: rest → (∃ c, a.dst = .core c) →
      a.code ≠ 0x1001 → s.abandoned.contains a.id = false →
      ∃ t, exec (.cairnAnswerSend n) s = .next t ∧ (t.saddle n).outlet = rest
        ∧ (t.saddle n).beat = Nat.max (s.saddle n).beat (s.saddle n).outAt ∧ (t.saddle n).outAt = (t.saddle n).beat + 1
        ∧ (a.code ≠ 0 ∨ (∃ v, a.kind = .waitGe v) ∨ (∃ b, a.kind = .waitBar b) ∨ a.kind = .loadWord → t.answers = s.answers ++ [a])
        ∧ (a.code = 0 → (∃ v, a.kind = .signal v ∨ a.kind = .decrement v) → t.answers = s.answers))
    ∧ (∀ (r : Req) (q off c : Nat), s.saddlesOff = false → nextAt n s.reqs = some r → cairnOf r = some (q, off) → r.kind = .loadWord →
      r.src = .core c → (∀ x, nextAt n (s.reqs.filter (fun y => y.id != r.id)) = some x → isLoad x = false) → (s.saddle n).outlet = [] →
      s.tableError (localOf r.addr) (r.who s.dev) .read = 0 → s.abandoned.contains r.id = false →
      ∃ t a, exec (.cairnAnswerSend n) s = .next t ∧ t.answers = s.answers ++ [a] ∧ a.id = r.id ∧ a.dst = r.src ∧ a.code = 0
        ∧ a.data = BitVec.ofNat 1024 ((s.cairnWord q off).toNat * 2 ^ (8 * (localOf r.addr % 128)))
        ∧ ∀ j, t.cairn j = s.cairn j)
    ∧ (∀ tk rest q v, s.saddlesOff = false → (s.saddle n).refused = tk :: rest → cairnOf tk.req = some (q, 0) → tk.req.kind = .waitGe v →
      saddleOfCairn q = n.val → s.remoteWaiters n < 1048568 → (s.cairn q).mode = 1 → (s.cairn q).value < v →
      (∀ x ∈ s.reqs, forUnit n x = false) → (∀ x ∈ rest, x.no ≠ tk.no) →
      s.targetError (localOf tk.req.addr) (tk.req.who s.dev) .read = 0 →
      ∃ t, exec (.waiterShareRetry n) s = .next t ∧ (t.saddle n).refused.map (·.no) = rest.map (·.no)
        ∧ t.cairn q = { s.cairn q with
            waiters := (s.cairn q).waiters ++
              [{ req := { tk.req with beat := (s.saddle n).beat }, n := v, barrier := false, sense := false }] })

/-- The near-memory operations (R228, R238, R239, R242): the command at the head of its plinth's queue ends with its code; one that the
access table denies ends Denied, and one whose parameters break a rule ends Engine, and neither writes anything; one whose lines no
cluster holds makes its writes, in order, and changes no other byte; where holders have its lines, they are told first, what it writes is
fixed meanwhile, and it writes once they have acknowledged. NMC_COMPLETION_SIGNAL (R242, R253): the answer of a command that ended with an
error leaves for its core, and a SIGNAL of 1 for its completion cairn, in the name of the core and from the engine.
The model's own readings and choices in it: log entries 44, 45, 78, 89. -/
def Obligations.NmcCommandsRun : Prop :=
  (∀ (s : State) (i : Instr) (p : PlinthId) (op : Nat) (r : Req) (rest : List Req) (q : NmcCmd),
      nmcRow i = some (p, op) →
      let u := s.nmcAdmit p
      s.saddlesOff = false → (u.plinth p).nmcQ = r :: rest → (u.plinth p).nmcDone = none → r.kind = .nmc q → q.op.toNat = op →
      let ends (code : Nat) (bytes : Nat → Byte) : Prop :=
        ∃ t, exec i s = .next t ∧ (t.plinth p).nmcDone = some (r, BitVec.ofNat 16 code) ∧ (t.plinth p).nmcQ = rest
          ∧ ∀ x, t.byte x = bytes x
      let writable (t : State) (ws : List (Nat × List Byte)) : Prop :=
        (∀ l ∈ writeLines ws, u.lineBusy l = false) ∧ (r.acks = none ∨ r.acks = some 0) ∧
          (ws.foldl (fun x w => x.writeRange w.1 w.2) t).plinths.any (fun e => e.2.overfull) = false
      (∀ code ws, (u.plinth p).nmcGot = some (code, ws) → writable u ws → u.toldOf (writeLines ws) = [] →
        ends code (fun x => (lastWrite ws x).getD (s.byte x)))
      ∧ ((u.plinth p).nmcGot = none →
        (u.nmcAllowed r q = false → ends 0x1004 s.byte)
        ∧ (u.nmcAllowed r q = true → q.paramsOk = false → ends 0x1008 s.byte)
        ∧ (u.nmcAllowed r q = true → q.paramsOk = true → q.n = 0 ∨ op = 11 → ends 0 s.byte)
        ∧ (u.nmcAllowed r q = true → q.paramsOk = true → q.n ≠ 0 → op = 11 → ∃ t, exec i s = .next t
          ∧ ∀ (x : PlinthId) set, mget mscDef (t.plinth x).msc set = (mget mscDef (u.plinth x).msc set).map (fun e =>
              if isPin e && (touched (localOf q.a) q.n).any (fun l => stackOf (l * 128) = x && mscSet (l * 128) = set
                && mscTag (l * 128) = e.tag) then { e with cls := 2 } else e))
        ∧ (u.nmcAllowed r q = true → q.paramsOk = true → q.n ≠ 0 → op ≠ 11 → ∀ t, u.nmcReads q = some t →
          let o := u.nmcRun q
          writable t o.writes →
          (u.toldOf (writeLines o.writes) = [] → ends o.code (fun x => (lastWrite o.writes x).getD (s.byte x)))
          ∧ (∀ h hs, u.toldOf (writeLines o.writes) = h :: hs → ∃ v, exec i s = .next v ∧ v.dram = s.dram
              ∧ (v.plinth p).nmcQ = { r with acks := some (hs.length + 1) } :: rest
              ∧ (v.plinth p).nmcGot = some (o.code, o.writes)))))
  ∧ (∀ (s : State) (p : PlinthId) (r : Req) (code : BitVec 16) (q : NmcCmd) (c : Nat),
      (s.plinth p).nmcDone = some (r, code) → r.kind = .nmc q → r.src = .core c → code ≠ 0x1001 → s.abandoned.contains r.id = false →
      ∃ t, exec (.nmcCompletionSignal p) s = .next t ∧ (t.plinth p).nmcDone = none
        ∧ (∀ x n o, q.cairn = some x → s.isLocal x = true → regionOf (localOf x) = .cairn n o →
            ∃ g, t.reqs = s.reqs ++ [g] ∧ g.src = .engine p ∧ g.kind = .signal 1 ∧ g.addr = x ∧ wf g.ident 51 48 = 1
              ∧ wf g.ident 20 0 = wf q.ident 20 0 ∧ wf g.ident 63 52 = wf q.ident 63 52)
        ∧ (q.cairn = none → t.reqs = s.reqs)
        ∧ (q.cairn = none → t.answers.map (fun a => (a.id, a.dst, a.code)) =
            s.answers.map (fun a => (a.id, a.dst, a.code)) ++ (if code = 0 then [] else [(r.id, .core c, code)])))

/-- What the operations write (R238 to R241), where no source is poisoned: COPY the source's bytes, DIGEST and COPYD the digest, GATHER the
table's elements and zeros for those outside it, SCATTER each element at its place, COMPRESS the packed lines and their length, DECOMPRESS
the lines that were packed, GFMAC the sums, in order of their writes; SORT its keys in their order and MERGE two sorted runs, stably, with
their payloads; REDUCE the sum or mean of the included contributions (R50, R51), and its status word, which is all it writes where a
contribution cannot be read.
The model's own readings and choices in it: log entries 44, 97. -/
def Obligations.NmcOperationsWrite : Prop :=
  ∀ (s : State) (q : NmcCmd),
    let a := localOf q.a
    let b := localOf q.b
    let c := localOf q.c
    let n := q.n
    let w := nmcElem q.op.toNat q.ty
    let o := s.nmcRun q
    let le (k v : Nat) : List Byte := (List.range k).map (fun i => BitVec.ofNat 8 (v / 256 ^ i))
    let z := (n * w + 127) / 128 * 128
    let inc : List Nat := (List.range (q.auxv + 1)).filter (fun i => s.byte (c + 64 + i) = 1)
    let status (flags : Nat) : Nat × List Byte := (c, le 8 (2 ^ 63 + flags + inc.length))
    (q.op = 7 → s.rangeBad c (65 + q.auxv) = false → (∃ i ∈ inc, s.rangeBad (b + i * z) (n * w) = true) →
      o.code = 0x1006 ∧ o.writes = [status (2 ^ 61)])
    ∧ ((∀ x m, s.rangeBad x m = false) →
      let src : List Byte := (List.range n).map (fun i => s.byte (b + i))
      let digest : List Byte := digestOf src q.k
      let index (j : Nat) : Int := (BitVec.ofNat 32 (s.readMem (c + 4 * j) 4)).toInt
      let at_ (base lo hi j : Nat) : Option Nat :=
        let x := (base : Int) + index j * (w : Nat)
        if (lo : Int) ≤ x ∧ x + (w : Nat) ≤ (hi : Int) then some x.toNat else none
      let packed (ls : List (List Nat)) : List Byte := ls.flatMap (fun l =>
        le 4 ((List.range 32).map (fun j => if l.getD j 0 = 0 then 0 else 2 ^ j)).sum ++ (l.filter (fun x => x ≠ 0)).flatMap (le 4))
      let rank (x : Nat) : Int := if q.ty = 11 then (BitVec.ofNat 32 x).toInt else if 2 ^ 31 ≤ x then 2 ^ 32 - 1 - x else 2 ^ 31 + x
      let sorted (xs : List (Nat × Nat)) : Prop := xs.Pairwise (fun x y => if q.mode = 1 then rank y.1 ≤ rank x.1 else rank x.1 ≤ rank y.1)
      let pairs : List (Nat × Nat) := (List.range n).map (fun i => (s.readMem (a + i * w) w, if q.b = 0 then 0 else s.readMem (b + i * 4) 4))
      let ordered : Prop := o.code = 0 ∧ ∃ out : List (Nat × Nat),
        o.writes = (a, out.flatMap (fun x => le w x.1)) :: (if q.b = 0 then [] else [(b, out.flatMap (fun x => le 4 x.2))])
        ∧ out.Perm pairs ∧ sorted out ∧ ∀ r, out.filter (fun x => rank x.1 = r) = pairs.filter (fun x => rank x.1 = r)
      (q.op = 0 → o.code = 0 ∧ o.writes = [(a, src)])
      ∧ (q.op = 1 → o.code = 0 ∧ o.writes = [(a, src), (c, digest)])
      ∧ (q.op = 2 → o.code = 0 ∧ o.writes = [(a, digest)])
      ∧ (q.op = 3 →
          let slots := (List.range n).map (at_ b (localOf q.bBase) (localOf q.bEnd))
          o.code = (if ∀ x ∈ slots, x.isSome = true then 0 else 0x1008)
          ∧ o.writes = [(a, slots.flatMap (fun x => le w (x.elim 0 (fun y => s.readMem y w))))])
      ∧ (q.op = 4 →
          let slots := (List.range n).map (fun j => (at_ a (a / 65536 * 65536) (a / 65536 * 65536 + 65536) j, s.readMem (b + j * w) w))
          o.code = (if ∀ x ∈ slots, x.1.isSome = true then 0 else 0x1008)
          ∧ o.writes = slots.filterMap (fun x => x.1.map (fun y => (y, le w x.2))))
      ∧ (q.op = 5 → w = 4 → ordered)
      ∧ (q.op = 6 → w = 4 → sorted (pairs.take q.k) → sorted (pairs.drop q.k) → ordered)
      ∧ (q.op = 7 → w ≠ 1 →
          let xs (j : Nat) : List Nat := inc.map (fun i => s.readMem (b + i * z + j * w) w)
          ∃ val : Nat → Nat, o.code = 0
            ∧ o.writes = [(a, (List.range n).flatMap (fun j => le w (val j))), status (if inc = [] then 2 ^ 62 else 0)]
            ∧ ∀ j, j < n →
              (q.ty = 11 →
                let sum : Int := ((xs j).map (fun x => (BitVec.ofNat 32 x).toInt)).sum
                let clamp (y : Int) : Int := Max.max (-(2 ^ 31)) (Min.min (2 ^ 31 - 1) y)
                ∃ y : Int, (BitVec.ofNat 32 (val j)).toInt = clamp y ∧ (q.mode ≠ 1 → y = sum)
                  ∧ (q.mode = 1 → inc ≠ [] → 2 * |y * inc.length - sum| ≤ inc.length ∧ (2 * |y * inc.length - sum| = inc.length → y % 2 = 0))
                  ∧ (inc = [] → y = 0))
              ∧ ∀ f : Fmt, ((q.ty = 8 ∧ f = bf16) ∨ (q.ty = 9 ∧ f = fp16) ∨ (q.ty = 10 ∧ f = fp32)) →
                let vs := (xs j).map f.val
                let sum : ℚ := (vs.map Val.num).sum
                (.nan ∈ vs → val j = f.canonNan)
                ∧ (.nan ∉ vs → .inf false ∈ vs → .inf true ∈ vs → val j = f.canonNan)
                ∧ (.nan ∉ vs → .inf false ∈ vs → .inf true ∉ vs → val j = f.inf)
                ∧ (.nan ∉ vs → .inf false ∉ vs → .inf true ∈ vs → val j = f.pack true f.inf)
                ∧ ((∀ v ∈ vs, v.isFin = true) → sum ≠ 0 → f.rounds .near (if q.mode = 1 then sum / inc.length else sum) (val j))
                ∧ ((∀ v ∈ vs, v.isFin = true) → sum = 0 →
                    val j = if vs ≠ [] ∧ ∀ v ∈ vs, v.isNegZero = true then f.pack true 0 else 0))
      ∧ (q.op = 8 →
          let ls := (List.range (n / 128)).map (fun k => (List.range 32).map (fun j => s.readMem (b + 128 * k + j * 4) 4))
          o.code = 0 ∧ o.writes = [(a, packed ls), (c, le 8 (packed ls).length)])
      ∧ (q.op = 9 → ∀ ls : List (List Nat), ls.length = n / 128 → (∀ l ∈ ls, l.length = 32 ∧ ∀ x ∈ l, x < 2 ^ 32) →
          (∀ i, i < (packed ls).length → some (s.byte (b + i)) = (packed ls)[i]?) →
          o.code = 0 ∧ o.writes = [(a, ls.flatMap (fun l => l.flatMap (le 4)))])
      ∧ (q.op = 10 → o.code = 0
          ∧ o.writes = [(a, (List.range n).map (fun i => s.byte (a + i) ^^^ BitVec.ofNat 8 (gfMul q.auxv (s.byte (b + i)).toNat)))]))

/-- HRD, HWR and DBELL (R369 to R371, R395), and the FCRC of each (R367): a read of good DRAM is answered with the bytes, in Hold with
Fenced; a write of DRAM is performed, a store to a cairn leaves for it, and one that its target refuses is recorded and counted once; a
doorbell whose entry is valid writes its word and raises the core's interrupt, one beyond the table is counted; in Hold number 0xFFFF
wakes the module.
The model's own readings and choices in it: log entries 46, 49, 50. -/
def Obligations.HostReadsWritesAndDoorbells : Prop :=
  ∀ (s : State) (f : HFrame), s.receives 6 = true →
    let a := f.addr.toNat
    let word : Bool := f.aux.getLsbD 15
    let hold : Bool := s.obj 0x2010 0 = 4 || s.obj 0x2010 0 = 7
    let n := if word then 8 else (f.aux.toNat % 64 + 1) * 64
    let bytes := if word then (f.flits.flatMap (fun x => natBytes 16 x.toNat)).take 8 else f.flits.flatMap (fun x => natBytes 16 x.toNat)
    let sealed (ty : BitVec 5) : Prop := hframeFcrc ty f = f.fcrc
    let refused (i : Instr) (code : Nat) : Prop :=
      ∃ t, exec i s = .next t ∧ t.obj 0x4300 8 = code ∧ t.obj 0x4300 9 = satInc (s.obj 0x4300 9) ∧ t.reqs = s.reqs ∧ t.dram = s.dram
    (¬ sealed 0 → exec (.hrd f) s = .next (s.badFrame 6)) ∧ (¬ sealed 1 → exec (.hwr f) s = .next (s.badFrame 6))
    ∧ (¬ sealed 7 → exec (.dbell f) s = .next (s.badFrame 6))
    ∧ (sealed 0 → hold = true →
        exec (.hrd f) s = .next ((s.received 6 (.h ⟨0x00, f⟩) false).ddataError f.tag.toNat a 0x1001))
    ∧ (sealed 0 → hold = false → s.hostClear → s.readable .host a n →
        ∃ m : State, exec (.hrd f) s = .next (m.ddata f.tag.toNat a ((List.range n).map (fun i => s.byte (a + i))))
          ∧ m.dram = s.dram ∧ m.link 6 = (s.received 6 (.h ⟨0x00, f⟩) false).link 6)
    ∧ (sealed 1 → hold = true → refused (.hwr f) 0x1001)
    ∧ (sealed 1 → hold = false → s.host.waiting = [] → word = false → 0x18000000000 ≤ a → refused (.hwr f) 0x1005)
    ∧ (sealed 1 → hold = false → s.host.waiting = [] → a < 0x18000000000 → bytes ≠ [] →
        (let e := s.targetError (a / 128 * 128) .host .write
         e ≠ 0 → e ≠ 0x1001 → refused (.hwr f) e)
        ∧ (s.writable .host a bytes.length → ∃ t, exec (.hwr f) s = .next t ∧ t.reqs = s.reqs
            ∧ (∀ i, i < bytes.length → t.byte (a + i) = bytes.getD i 0)
            ∧ ∀ x, x < a ∨ a + bytes.length ≤ x → t.byte x = s.byte x))
    ∧ (sealed 1 → hold = false → s.host.waiting = [] → word = true → ∀ q o, regionOf a = .cairn q o →
        ∃ t r, exec (.hwr f) s = .next t ∧ t.reqs = s.reqs ++ [r] ∧ r.src = .host 0 ∧ r.addr = w64 (s.dev * 2 ^ 52 + a)
          ∧ r.kind = .word ((f.flits.getD 0 0).extractLsb' 0 64))
    ∧ (sealed 7 → hold = false → s.host.waiting = [] → s.obj 0x4310 2 ≤ f.aux.toNat →
        ∃ t, exec (.dbell f) s = .next t ∧ t.obj 0x4310 3 = satInc (s.obj 0x4310 3) ∧ t.dram = s.dram)
    ∧ (let e := s.obj 0x4310 1 + 16 * f.aux.toNat
       let w0 := s.word e
       sealed 7 → hold = false → s.hostClear → f.aux.toNat < s.obj 0x4310 2 → e % 16 = 0 → s.readable .host e 8 → wb w0 63 = true →
       s.writable .host (e + 8) 8 → wf w0 20 0 < 1048580 →
        ∃ t, exec (.dbell f) s = .next t ∧ t.readMem (e + 8) 8 = (f.flits.getD 0 0).toNat % 2 ^ 64
          ∧ (∀ x, x < e + 8 ∨ e + 16 ≤ x → t.byte x = s.byte x)
          ∧ (s.rimKeeps (wf w0 20 0) = false → wb (t.core (wf w0 20 0)).stat 41 = true))
    ∧ (sealed 7 → s.obj 0x2010 0 = 4 → s.obj 0x2041 0 = 1 → f.aux = 0xFFFF →
        ∃ t, exec (.dbell f) s = .next t ∧ t.obj 0x2010 0 = 5 ∧ t.obj 0x2042 0 = 4 ∧ t.power.wakePhase = 1)

/-- Bursts and descriptors (R372 to R377), and the FCRC of their frames (R367): a burst opens, takes its frames in order, and with the
last one leaves for DRAM; a frame out of order, a pause, a discard, a completion and a credit reset change its state as the manual says,
and each is told to the host.
The model's own readings and choices in it: log entries 49, 51, 52. -/
def Obligations.BurstsAndDescriptors : Prop :=
  ∀ (s : State) (f : HFrame) (b : BitVec 6) (x : Burst),
    s.burst b.toNat = x →
    let told (t : State) (state reason seq : Nat) : State := t.hsend 0x05 (hframe b.toNat seq 0 0 (state * 4096 + reason) [])
    let hold : Bool := s.obj 0x2010 0 = 4 || s.obj 0x2010 0 = 7
    let u (ty : BitVec 5) (free : Bool) : State := s.received 6 (.h ⟨ty, f⟩) free
    let sealed (ty : BitVec 5) : Prop := hframeFcrc ty f = f.fcrc
    (s.receives 6 = true →
      (¬ sealed 2 → exec (.bopen f) s = .next (s.badFrame 6)) ∧ (¬ sealed 3 → exec (.bdata f) s = .next (s.badFrame 6))
      ∧ (¬ sealed 4 → exec (.bres f) s = .next (s.badFrame 6)) ∧ (¬ sealed 5 → exec (.bstat f) s = .next (s.badFrame 6)))
    ∧ (s.receives 6 = true → f.buf = b →
      (sealed 2 → hold = false → x.st = .none → ∃ t, exec (.bopen f) s = .next t
        ∧ t.burst b.toNat = { st := .open, addr := f.addr, frames := f.aux.toNat % 256 + 1, expected := 0, data := [], desc := x.desc })
      ∧ (sealed 3 → x.st = .none → exec (.bdata f) s = .next (told (u 0x03 true) 0 0 0))
      ∧ (sealed 3 → x.st ≠ .none → f.seq.toNat < x.expected → exec (.bdata f) s = .next (u 0x03 true))
      ∧ (sealed 3 → x.st = .committing → x.expected ≤ f.seq.toNat → exec (.bdata f) s = .next (told (u 0x03 true) 0 0 0))
      ∧ (sealed 3 → x.st = .open ∨ x.st = .paused → f.seq.toNat = x.expected → x.expected + 1 ≠ x.frames →
          ∃ t, exec (.bdata f) s = .next t
            ∧ t.burst b.toNat = { x with st := .open, expected := x.expected + 1, data := x.data ++ f.flits })
      ∧ (sealed 3 → x.st = .open ∨ x.st = .paused → f.seq.toNat = x.expected → x.expected + 1 = x.frames →
          ∃ t, exec (.bdata f) s = .next t ∧ (t.burst b.toNat).st = .committing)
      ∧ (sealed 3 → x.st = .open ∨ x.st = .paused → x.expected < f.seq.toNat → x.desc = none →
          ∃ t, exec (.bdata f) s = .next t ∧ t.burst b.toNat = {})
      ∧ (sealed 4 →
          exec (.bres f) s = .next (told (u 0x04 true) (if x.st = .none then 0 else if x.st = .paused then 2 else 1) 0 x.expected))
      ∧ (∀ o, sealed 5 → (s.outOf b) = some o → fld f.aux.toNat 15 12 = 3 → ∃ t, exec (.bstat f) s = .next t
          ∧ t = ((u 0x05 true).dropOut b).burstEnded o.desc 0)
      ∧ (∀ o, sealed 5 → (s.outOf b) = some o → fld f.aux.toNat 15 12 = 4 → ∃ t, exec (.bstat f) s = .next t
          ∧ t = ((u 0x05 true).dropOut b).burstEnded o.desc 0x1007))
    ∧ (s.receives 6 = true → ∃ t, exec .crst s = .next t ∧ t.host.bursts = [] ∧ t.host.out = []
        ∧ (t.link 6).credit = [64, 256, 64, 512, 0, 0])
    ∧ (x.st = .open → exec (.burstPause b) s = .next (told (s.setBurst b.toNat { x with st := .paused }) 2 0 x.expected))
    ∧ ((x.st = .open ∨ x.st = .paused) → x.desc = none → ∃ t, exec (.burstDiscard b) s = .next t ∧ t.burst b.toNat = {})
    ∧ (x.st = .committing → s.hostOpen (0x8000 + b.toNat) = false → x.desc = none →
        ∃ t, exec (.burstCommitDone b) s = .next t ∧ t.burst b.toNat = {}
          ∧ t.answers = s.answers.filter (fun a => !(a.dst == .host (BitVec.ofNat 16 (0x8000 + b.toNat)))))
    ∧ (∀ o, s.outOf b = some o →
        (s.burstWaits b = false → exec (.burstCompleteTimeout b) s = .next ((s.dropOut b).burstEnded o.desc 0x1007))
        ∧ (s.burstWaits b = true → exec (.burstCompleteTimeout b) s = .next s))
    ∧ (∀ a rest, takeFirst (fun a => linkWaits a.dst a.kind) s.answers = some (a, rest) → a.code = 0 → s.obj 0x4300 5 ≠ 0 →
        s.host.descs.length < 16 → s.obj 0x4300 7 < 65536 →
        let at_ := s.obj 0x4300 5 + 32 * (s.host.ringIndex % s.obj 0x4300 6)
        s.readable .host at_ 32 →
        ∃ t, exec .descriptorTake s = .next t ∧ t.host.ringIndex = s.host.ringIndex + 1 ∧ t.host.descNo = s.host.descNo + 1
          ∧ ∃ r ∈ t.reqs, r.src = .link ∧ r.kind = .decrement 1 ∧ localOf r.addr = cairnBase + 256 * s.obj 0x4300 7)
    ∧ (∀ d, s.host.descs.find? (fun e => e.no = d.no) = some d → d.running = 0 → d.left = 0 → d.written = false →
        (d.op = 2 → s.dbellWaits d = false) →
        s.isLocal (w64 (s.dev * 2 ^ 52 + (d.slot + 0x18))) = true →
        ∃ t r, exec (.descriptorDone d.no) s = .next t ∧ t.reqs = s.reqs ++ [r] ∧ r.src = .link
          ∧ r.kind = .word (w64 (2 ^ 63 + d.code.toNat)) ∧ r.addr = w64 (s.dev * 2 ^ 52 + (d.slot + 0x18)))

/-- Link control and the state of the ports (R277, R347, R349, R351 to R353, R355, R368, R455, R465).
The model's own readings and choices in it: log entries 49, 53, 55, 88. -/
def Obligations.LinkControlAndPorts : Prop :=
  ∀ (s : State) (l : LinkId) (num : BitVec 12),
    let x := s.link l
    let up : Bool := s.obj (linkState l) 1 = 2
    let badCounted (t : State) : Prop :=
      if l.val < 6 then t.obj (0x4200 + l.val) 4 = satInc (s.obj (0x4200 + l.val) 4) else t.host.crcErrors = s.host.crcErrors + 1
    let flit (kind n : Nat) (cred : List Nat) (crc : BitVec 16) : BitVec 128 := crc ++ (0x1F : BitVec 5) ++ BitVec.ofNat 3 kind
      ++ BitVec.ofNat 12 n ++ BitVec.ofNat 72 ((List.range 6).map (fun i => cred.getD i 0 % 4096 * 2 ^ (12 * i))).sum ++ (0 : BitVec 20)
    let crc (kind n : Nat) (cred : List Nat) : BitVec 16 :=
      BitVec.ofNat 16 (fcrc (natBytes 16 (flit kind n cred 0).toNat))
    let lc (kind n : Nat) (cred : List Nat) : List (BitVec 128) := x.lctlSent ++ [flit kind n cred (crc kind n cred)]
    let right (kind n : Nat) (cred : List Nat) (c : Option (BitVec 16)) : Prop := c = none ∨ c = some (crc kind n cred)
    let kept : List (Nat × LFrame) :=
      if num.toNat = x.txNum then []
      else if x.replay.any (fun e => e.1 = num.toNat) then x.replay.dropWhile (fun e => e.1 ≠ num.toNat) else x.replay
    let known : Bool := num.toNat = x.txNum || x.replay.any (fun e => e.1 = num.toNat)
    let six (cred : BitVec 72) : List Nat := (List.range 6).map (fun i => cred.toNat / 2 ^ (12 * i) % 4096)
    (∀ (cred : BitVec 72) (c : Option (BitVec 16)), up = true → x.rxBlocked = false → right 0 num.toNat (six cred) c →
        exec (.lctlAck l num cred c) s =
          .next ((s.setLink l { x with replay := kept, credit := addAll x.credit (six cred) }).pump l))
    ∧ (up = true → x.rxBlocked = true → (∀ cred c, exec (.lctlAck l num cred c) s = .next s)
        ∧ ∀ c, exec (.lctlNak l num c) s = .next s)
    ∧ (∀ c, up = true → x.rxBlocked = false → known = true → right 1 num.toNat [] c → ∃ t, exec (.lctlNak l num c) s = .next t
        ∧ t.link l = { x with replay := kept, sent := x.sent ++ kept, lctlSent := lc 2 num.toNat [] }
        ∧ (l.val < 6 → t.obj (0x4200 + l.val) 5 = satInc (s.obj (0x4200 + l.val) 5)))
    ∧ (∀ c, up = true → x.rxExpected = num.toNat → right 2 num.toNat [] c → ∃ t, exec (.lctlReplayStart l num c) s = .next t
        ∧ t.link l = { x with rxBlocked := false })
    ∧ (∀ c, right 3 0 [] c → exec (.lctlIdle l c) s = .next s)
    ∧ (∀ i kind cred c, (i = .lctlAck l num cred (some c) ∧ kind = 0 ∨ i = .lctlNak l num (some c) ∧ kind = 1 ∧ cred = 0
          ∨ i = .lctlReplayStart l num (some c) ∧ kind = 2 ∧ cred = 0) →
        up = true → x.rxBlocked = false → c ≠ crc kind num.toNat (six cred) → exec i s = .next (s.badFrame l))
    ∧ (up = true → x.rxBlocked = false →
        (∃ t, exec (.badFrame l false) s = .next t ∧ t.link l = { x with rxBlocked := true, lctlSent := lc 1 x.rxExpected [] }
          ∧ badCounted t)
        ∧ ∃ t, exec (.badFrame l true) s = .next t ∧ t.link l = { x with rxExpected := (x.rxExpected + 1) % 4096 } ∧ badCounted t)
    ∧ (up = true → ∃ t, exec (.ackTimer l) s = .next t
        ∧ t.link l = { x with held := [0, 0, 0, 0, 0, 0], lctlSent := lc 0 x.rxExpected x.held })
    ∧ (s.lanesOn l = true → s.obj (linkState l) 1 = 0 → ∃ t, exec (.cableMated l) s = .next t ∧ t.obj (linkState l) 1 = 1
        ∧ t.link l = { x with loopback := false })
    ∧ (∀ partner crossing, s.obj (linkState l) 1 = 1 →
        let measured := Nat.max 512 ((crossing + 7) / 8 * 8)
        let full : List Nat := if l.val < 6 then [1024, 1024, 2048, 2048, 256, 256] else [64, 256, 64, 512, 0, 0]
        ((l.val < 6 → measured ≤ 8192) → x.trained = false → x.txq = [] → (l.val = 6 → s.host.out = []) →
          ∃ t, exec (.portTrainingDone l partner crossing) s = .next t
          ∧ t.obj (linkState l) 1 = 2
          ∧ (x.advertise = false → t.link l = { trained := true, credit := full, sent := x.sent, lctlSent := x.lctlSent })
          ∧ (x.advertise = true → t.link l = { trained := true, credit := full, sent := x.sent, lctlSent := lc 0 0 full })
          ∧ (l.val < 6 → t.obj (0x4200 + l.val) 2 = measured ∧ t.obj (0x4200 + l.val) 3 = partner.toNat))
        ∧ (∀ e rest, (l.val < 6 → measured ≤ 8192) → x.trained = true → x.txq = [] → x.replay = e :: rest →
            x.advertise = false → (l.val = 6 → s.host.out = []) → ∃ t, exec (.portTrainingDone l partner crossing) s = .next t
          ∧ t.obj (linkState l) 1 = 2 ∧ t.link l = { x with sent := x.sent ++ x.replay, lctlSent := lc 2 e.1 [] })
        ∧ (l.val < 6 → 8192 < measured → x.replay = [] → x.txq = [] → ∃ t, exec (.portTrainingDone l partner crossing) s = .next t
          ∧ t.obj (linkState l) 1 = 0))
    ∧ (up = true → ∃ t, exec (.portRetrain l) s = .next t ∧ t.obj (linkState l) 1 = 1 ∧ t.link l = x
        ∧ (l.val < 6 → t.obj (0x4200 + l.val) 6 = satInc (s.obj (0x4200 + l.val) 6)))
    ∧ (s.obj (linkState l) 1 = 1 → x.replay = [] → x.txq = [] → ∃ t, exec (.portRetrainTimeout l) s = .next t
        ∧ t.obj (linkState l) 1 = 0 ∧ t.link l = {}
        ∧ (l.val < 6 → s.obj 0x4000 4 ≠ 0 → t.mgrSent = s.mgrSent ++ [(.linkdown, s.dev :: l.val :: t.partners)]))
    ∧ (∀ p : PortId, (s.lanesOn p = true → s.obj (linkState p) 1 = 0 → ∃ t, exec (.loopbackRequest p) s = .next t
          ∧ t.link p = { s.link p with loopback := true })
        ∧ ∃ t, exec (.loopbackLimit p) s = .next t ∧ t.link p = { s.link p with loopback := false })
    ∧ (∀ (n : SaddleId) r, s.epochTable.isSome = true → (s.saddle n).epochWait = true → s.isManager = false →
        s.remote.filter (fun e => srcSaddle e.2 = n.val) = [r] → (∃ c, r.2.src = .core c) → r.2.kind = .read false →
        s.abandoned.contains r.2.id = false →
        ∃ t a, exec (.routeEpochLimit n) s = .next t
          ∧ a ∈ t.answers ∧ a.id = r.2.id ∧ a.code = 0x1007 ∧ (t.saddle n).epochWait = false)

/-- The frames of another device (R348 to R350, R357, R358): one with a bad FCRC is discarded; a request for a line of this module's DRAM,
or for one of its cairns, stands before its target with the kind, word and identity that the frame says; an INV stands before its cluster;
a request whose saddle is fenced is answered Fenced (R309); a frame for another device goes on through the port of its route. DATA, ACK,
CANS and IACK at their requester (R228): the open request of that tag is answered and closed; an acknowledged holder leaves the write
filter.
The model's own readings and choices in it: log entries 39, 45, 54, 88. -/
def Obligations.FramesReachTheirTargets : Prop :=
  (∀ (s : State) (i : Instr) (p : PortId) (f : Frame) (ty : Nat),
      frameRow i = some (p, f, ty) → s.receives p = true → frameOk ty f = true →
      let sealed : Prop := frameFcrc (BitVec.ofNat 5 ty) f = f.fcrc
      let mine : Prop := s.obj 0x4000 4 ≠ 0 ∧ f.dest.toNat = s.dev
      let here : Prop := sealed ∧ mine ∧ (ty < 0x10 → s.saddleFenced p.val = false)
      (¬ sealed → exec i s = .next (s.badFrame p))
      ∧ (∀ kind off id, frameAsks i = some (kind, off, id) → here →
        ((f.line.toNat * 128 < 0x18000000000 ∧ ty ≠ 0x05 ∧ ty ≠ 0x06 ∧ ty ≠ 0x07)
          ∨ (∃ q o, regionOf (f.line.toNat * 128) = .cairn q o)
            ∧ (ty = 0x03 ∧ f.aux.getLsbD 15 = true ∨ ty = 0x05 ∨ ty = 0x06 ∨ ty = 0x07)) →
        ∃ t r, exec i s = .next t ∧ t.reqs = s.reqs ++ [r] ∧ r.src = .remote p f.src f.tag ∧ r.kind = kind
          ∧ r.addr = w64 (s.dev * 2 ^ 52 + f.line.toNat * 128 + off) ∧ (∀ w, id = some w → r.ident = w)
          ∧ t.dram = s.dram ∧ (t.link p).rxExpected = ((s.link p).rxExpected + 1) % 4096)
      ∧ (ty = 0x08 → here → (f.flits.getD 0 0).toNat / 2 ^ 64 % 2 ^ 52 < 0x18000000000 →
        ∃ t r q, exec i s = .next t ∧ t.reqs = s.reqs ++ [r] ∧ r.src = .remote p f.src f.tag ∧ r.kind = .nmc q
          ∧ q.op = BitVec.ofNat 4 f.aux.toNat ∧ q.a = (f.flits.getD 0 0).extractLsb' 64 64 ∧ q.b = (f.flits.getD 1 0).extractLsb' 0 64
          ∧ q.p = (f.flits.getD 1 0).extractLsb' 64 64 ∧ q.c = (f.flits.getD 2 0).extractLsb' 0 64
          ∧ r.ident = (f.flits.getD 0 0).extractLsb' 0 64)
      ∧ (ty = 0x09 → here → s.clusterFenced f.tag.toNat = false →
        ∃ t r, exec i s = .next t ∧ t.reqs = s.reqs ++ [r] ∧ r.kind = .invalidate 0 f.line.toNat ∧ r.ident = w64 f.tag.toNat)
      ∧ (sealed → mine → ty < 0x10 → s.saddleFenced p.val = true → f.src.toNat ≠ s.dev →
          exec i s = .next ((s.received p (.t ⟨BitVec.ofNat 5 ty, f⟩) true).bounceFrame p ty f 0x1001))
      ∧ (∀ q, sealed → ¬mine → s.portFor p f.dest.toNat = some q →
        (0x10 ≤ ty ∨ f.hops ≠ 31 ∧ s.saddleFenced p.val = false ∧ s.saddleFenced q = false) →
        let g : Frame := { f with hops := f.hops + 1, vcb := f.vcb || s.routeDl p f.dest.toNat }
        exec i s = .next ((s.received p (.t ⟨BitVec.ofNat 5 ty, f⟩) true).enqueue q (.t ⟨BitVec.ofNat 5 ty,
          { g with fcrc := frameFcrc (BitVec.ofNat 5 ty) g }⟩))))
  ∧ (∀ (s : State) (p : PortId) (f : Frame) (r : Req),
      s.receives p = true → s.obj 0x4000 4 ≠ 0 → f.dest.toNat = s.dev → (s.saddle (srcSaddle r)).epochWait = false →
      (∀ h ∈ s.epochHeld, srcSaddle h ≠ srcSaddle r) →
      let good (ty : BitVec 5) : Prop := frameOk ty.toNat f = true ∧ frameFcrc ty f = f.fcrc
      (s.openAny f = some (f.tag, r) → r.src.inModule = true → s.abandoned.contains r.id = false →
        let closed (i : Instr) (code : BitVec 16) (data : BitVec 1024) (sense : Option Bool) : Prop :=
          ∃ t a, exec i s = .next t ∧ t.remote = s.remote.erase (f.tag, r) ∧ t.answers = s.answers ++ [a] ∧ a.id = r.id ∧ a.dst = r.src
            ∧ a.code = code ∧ a.data = data ∧ a.sense = sense ∧ a.t = r.t
        (good 0x10 → r.kind = .read false → f.aux.getLsbD 15 = false → closed (.data p f) 0 (flitsLine f.flits) none)
        ∧ (good 0x11 → (∃ d v, r.kind = .storeCond d v) → f.aux ≠ 0x1001 →
            closed (.ack p f) f.aux (BitVec.ofNat 1024 (f.line.toNat % 2)) none)
        ∧ (good 0x12 → (∃ n, r.kind = .waitGe n) →
            closed (.cans p f) f.aux 0 (if f.line.getLsbD 1 then some (f.line.getLsbD 0) else none)))
      ∧ (∀ n line, good 0x13 → mwf plinthDef s.plinths = true → r.kind = .invalidate n line →
          s.remote.find? (fun e => e.1 = f.tag && isInvalidate e.2 && devOf e.2.addr = f.src.toNat
            && localOf e.2.addr / 128 = f.line.toNat) = some (f.tag, r) →
          ∃ t, exec (.iack p f) s = .next t ∧ t.remote = s.remote.erase (f.tag, r)
            ∧ (t.plinth (stackOf (line * 128))).filter =
                (s.plinth (stackOf (line * 128))).filter.erase (line, f.src, BitVec.ofNat 16 r.ident.toNat))
      ∧ (good 0x11 → s.openAny f = none →
          exec (.ack p f) s = .next (s.received p (.t ⟨0x11, f⟩) true)))

/-- The range (R297, R299, R325, R330, R334, R338 to R345, R353, R358, R360): joining, leaving, losses, routes, reports, notices, epochs
and beacons, at the manager, at another member, and on the way through one; every kind of notice is written as R344 lays it out, and a Lost
one ends the requests to its member; and a restore takes only content that a digest names.
The model's own readings and choices in it: log entries 54, 55, 56, 57, 80, 81, 88. -/
def Obligations.RangeEvents : Prop :=
  ∀ (s : State) (dev : BitVec 12) (roll : Nat) (via : Option MHead) (h : MHead),
    let st := s.obj 0x4000 4
    let manager : Bool := st = 2 && s.obj 0x4000 2 = 2 && s.obj 0x4000 3 = s.obj 0x4000 1
    let member : Bool := st = 2 || st = 3
    let sent (i : Instr) (xs : List (MgrKind × List Nat)) : Prop := ∃ t, exec i s = .next t ∧ t.mgrSent = s.mgrSent ++ xs
    let partners : List Nat := (List.range 6).map (fun p => if s.obj (0x4200 + p) 1 = 2 then s.obj (0x4200 + p) 3 else 0xFFFF)
    let others := s.members.filter (fun m => m.toNat ≠ s.dev)
    let gone (i : Instr) (dest : Nat) (kind : MgrKind) (body : List Nat) : Prop := ∀ q, mgrSound h kind = true →
      s.portFor h.port dest = some q →
      let d : BitVec 12 := BitVec.ofNat 12 dest
      let g : Frame := { h.f with dest := d, hops := h.f.hops + 1, vcb := h.f.vcb || s.routeDl h.port d.toNat }
      exec i s = .next ((s.received h.port (.m ⟨kind, h.f, body⟩) true).enqueue q
        (.m ⟨kind, { g with fcrc := frameFcrc kind.type g }, body⟩))
    let told (t : State) (xs : List Nat) : Prop := ∀ m ∈ others, (.notice, m.toNat :: xs) ∈ t.mgrSent
    let at_ := s.obj 0x4020 1 + 32 * (s.obj 0x4020 3 % s.obj 0x4020 2)
    let noted : Prop := s.obj 0x4020 1 ≠ 0 ∧ s.sumWait.any (·.isNotice) = false ∧ s.writable .summit at_ 32
    let written (t : State) (kind n : Nat) (drop : Bool) (step rec_ : Nat) : Prop :=
      t.obj 0x4020 3 = satInc (s.obj 0x4020 3)
        ∧ t.readMem at_ 8 = (s.obj 0x4020 3 + 1) % 2 ^ 32 * 2 ^ 32 + kind * 2 ^ 24 + n
        ∧ t.readMem (at_ + 8) 8 = (if drop then 2 ^ 32 else 0) + step
        ∧ t.readMem (at_ + 16) 8 = (if kind = 1 then rec_ else 0) ∧ t.readMem (at_ + 24) 8 = 0
    (st = 1 → sent .joinRepeat (((List.range 6).filter (fun p => s.obj (0x4200 + p) 1 = 2)).map (fun _ =>
        (.join, s.obj 0x4000 1 :: partners))))
    ∧ (s.receives h.port = true → ∀ ps : List (BitVec 16),
        let body := dev.toNat :: ps.map BitVec.toNat
        let u := ({ s with joining := some dev } : State).joinReported dev (ps.map BitVec.toNat)
        (mgrSound h .join = true → manager = true → dev ∈ s.members → sent (.join h dev ps) [(.refusal, [dev.toNat])])
        ∧ (mgrSound h .join = true → manager = true → dev ∉ s.members → s.joining = none → others ≠ [] → ∃ t, exec (.join h dev ps) s = .next t
            ∧ t.joining = some dev ∧ t.members = s.members ∧ t.routeWait = others
            ∧ ∀ m ∈ others, (.route, [m.toNat, u.tableFor m.toNat]) ∈ t.mgrSent)
        ∧ (mgrSound h .join = true → manager = true → dev ∉ s.members → s.joining ≠ none →
            exec (.join h dev ps) s = .next (s.received h.port (.m ⟨.join, h.f, body⟩) true))
        ∧ (manager = false → member = true → gone (.join h dev ps) (s.obj 0x4000 3) .join body))
    ∧ (s.receives h.port = true → ∀ i kind rec_ step (port : PortId) ps k n drop ecur eprev table,
        (i = .join h dev ps ∧ kind = .join ∨ i = .leave dev roll (some h) ∧ kind = .leave
          ∨ i = .report dev rec_ step roll (some h) ∧ kind = .report ∨ i = .dropReport dev rec_ step roll (some h) ∧ kind = .report
          ∨ i = .linkdown dev port ps roll (some h) ∧ kind = .linkdown ∨ i = .notice k n drop step rec_ (some h) ∧ kind = .notice
          ∨ i = .route table (some h) ∧ kind = .route ∨ i = .epoch ecur eprev (some h) ∧ kind = .epoch
          ∨ i = .beacon (some h) ∧ kind = .beacon ∨ i = .joinRefusal (some h) ∧ kind = .refusal
          ∨ i = .leaveAcknowledgement (some h) ∧ kind = .leaveAck) →
        mgrSound h kind = false → exec i s = .next (s.badFrame h.port))
    ∧ (s.receives h.port = true → member = true → h.f.dest.toNat ≠ s.dev → ∀ rec_ step (port : PortId) ps kind n drop ecur eprev table,
        gone (.leave dev roll (some h)) h.f.dest.toNat .leave [dev.toNat]
        ∧ gone (.report dev rec_ step roll (some h)) h.f.dest.toNat .report [dev.toNat, rec_.toNat, step.toNat]
        ∧ gone (.linkdown dev port ps roll (some h)) h.f.dest.toNat .linkdown (dev.toNat :: port.val :: ps.map BitVec.toNat)
        ∧ gone (.notice kind n drop step rec_ (some h)) h.f.dest.toNat .notice
            [kind.toNat, n.toNat, drop.toNat, step.toNat, rec_.toNat]
        ∧ gone (.route table (some h)) h.f.dest.toNat .route [table]
        ∧ gone (.epoch ecur eprev (some h)) h.f.dest.toNat .epoch [ecur.toNat, eprev.toNat]
        ∧ gone (.beacon (some h)) h.f.dest.toNat .beacon [])
    ∧ (∀ table, s.receives h.port = true → mgrSound h .route = true → h.f.dest.toNat = s.dev →
        manager = true → s.joining = some dev → s.routeWait = [h.f.src] → s.epochTable = none →
        ∃ t, exec (.route table (some h)) s = .next t ∧ t.members = s.members ++ [dev] ∧ t.joining = none
          ∧ (.route, [dev.toNat, s.tableFor dev.toNat]) ∈ t.mgrSent ∧ told t [3, dev.toNat, 0, 0, 0])
    ∧ (st = 1 → s.forSummit via .refusal →
        ∃ t, exec (.joinRefusal via) s = .next t ∧ t.obj 0x4000 4 = 0 ∧ t.obj 0x4000 6 = satInc (s.obj 0x4000 6))
    ∧ (∀ i, (i = .leaveTimeout ∨ i = .leaveAcknowledgement via ∧ s.forSummit via .leaveAck) → s.leaving = true →
        ∃ t, exec i s = .next t ∧ t.obj 0x4000 4 = 0 ∧ t.leaving = false ∧ t.members = [])
    ∧ (∀ table, s.forSummit via .route →
        (st = 1 → ∃ t, exec (.route table via) s = .next t ∧ t.obj 0x4010 0 = table % 2 ^ 16384 ∧ t.obj 0x4000 4 = 2)
        ∧ (member = true → manager = false → s.remote = [] → s.epochHeld = [] → ∃ t, exec (.route table via) s = .next t
            ∧ t.obj 0x4010 0 = table % 2 ^ 16384 ∧ t.mgrSent = s.mgrSent ++ [(.routeAck, [s.dev])])
        ∧ (∀ e, member = true → (manager = false ∨ via = none) → e ∈ s.remote → srcSaddle e.2 < 8 →
            ∃ t, exec (.route table via) s = .next t ∧ (t.saddle (srcSaddle e.2)).epochWait = true))
    ∧ ((∀ a step : Nat, step = s.obj 0x5030 0 → manager = true → dev ∈ s.members → s.joining = none → s.rollWord roll dev.toNat a →
            let drop : Bool := step ≠ 0 && wf (s.word a) 39 8 ≠ step
            ∀ i, (i = .leave dev roll via ∧ s.forSummit via .leave ∨ i = .memberLost dev roll ∧ dev ∈ s.lostOnes) →
            ∃ t, exec i s = .next t ∧ t.members = s.members.filter (fun m => m ≠ dev) ∧ (dev, roll) ∈ t.lost ∧ .restore ∈ t.sumWait
              ∧ (i = .leave dev roll via → (.leaveAck, [dev.toNat]) ∈ t.mgrSent)
              ∧ (∀ m ∈ others, m ≠ dev → (.notice, [m.toNat, 2, dev.toNat, drop.toNat, step, 0]) ∈ t.mgrSent)
              ∧ (s.obj 0x4020 1 = 0 → t.word a = if drop = true then w64 (step * 256 + 2) else s.word a))
        ∧ (∀ (port : PortId) ps, s.forSummit via .linkdown → manager = true → s.joining = none → (s.reported dev (ps.map BitVec.toNat)).lostOnes = [] →
            ∃ t, exec (.linkdown dev port ps roll via) s = .next t
              ∧ ∀ m ∈ others, (.route, [m.toNat, (s.reported dev (ps.map BitVec.toNat)).tableFor m.toNat]) ∈ t.mgrSent)
        ∧ (∀ i rec_ (step : BitVec 32) a, (i = .report dev rec_ step roll via ∨ i = .dropReport dev rec_ step roll via ∧ step ≠ 0) →
            s.forSummit via .report → manager = true → s.rollWord roll dev.toNat a →
            let drop : Bool := step ≠ 0 && wf (s.word a) 39 8 ≠ step.toNat
            ∃ t, exec i s = .next t ∧ told t [1, dev.toNat, drop.toNat, step.toNat, rec_.toNat]
              ∧ (s.obj 0x4020 1 = 0 → t.word a = if drop = true then w64 (step.toNat * 256 + 2) else s.word a))
        ∧ (∀ (kind : Byte) drop step rec_, s.forSummit via .notice → member = true → kind ≠ 0 → kind.toNat ≤ 4 → noted →
            (kind = 2 → ∀ e ∈ s.remote, devOf e.2.addr ≠ dev.toNat) →
            ∃ t, exec (.notice kind dev drop step rec_ via) s = .next t ∧ written t kind.toNat dev.toNat drop step.toNat rec_.toNat)
        ∧ (∀ drop step rec_ e, s.forSummit via .notice → member = true → s.obj 0x4020 1 = 0 →
            s.remote.filter (fun e => devOf e.2.addr = dev.toNat) = [e] → (∃ c, e.2.src = .core c) → e.2.kind = .read false →
            s.abandoned.contains e.2.id = false → (s.saddle (srcSaddle e.2)).epochWait = false →
            (∀ x ∈ s.epochHeld, srcSaddle x ≠ srcSaddle e.2) →
            ∃ t a, exec (.notice 2 dev drop step rec_ via) s = .next t ∧ t.answers = s.answers ++ [a] ∧ a.id = e.2.id ∧ a.dst = e.2.src
              ∧ a.code = 0x1007 ∧ e ∉ t.remote)
        ∧ (∀ ecur eprev, s.forSummit via .epoch → member = true → ∃ t, exec (.epoch ecur eprev via) s = .next t ∧ t.obj 0x5200 1 = ecur.toNat
            ∧ t.obj 0x5200 2 = (if manager then s.obj 0x5200 1 else eprev.toNat)
            ∧ t.mgrSent = s.mgrSent ++ if manager then others.map (fun m => (.epoch, [m.toNat, ecur.toNat, s.obj 0x5200 1])) else [])
        ∧ (s.forSummit via .beacon → manager = true → sent (.beacon via) (others.map (fun m => (.beacon, [m.toNat])))))
    ∧ (st = 2 → manager = false → ∃ t, exec .beaconTimeout s = .next t ∧ t.obj 0x4000 4 = 3
        ∧ (noted → s.obj 0x4000 3 < 4096 → written t 4 (s.obj 0x4000 3) false 0 0))
    ∧ (∀ i bs, (i, bs) ∈ s.restoreShards.restored → (i, bs) ∈ s.restored
        ∨ ∃ e, (e = s.obj 0x5200 1 ∨ e = s.obj 0x5200 2)
          ∧ ((∃ d, (bs, d) ∈ Config.shardCopies s.restores i ∧ Copy.valid (bs, d) [e] = true)
            ∨ digestOf bs e = Config.shardDigest s.restores i e))

/-- BGCTL, the restart of a stopped generator and a full measurement window (R272 to R276, R384, R385): in fixed cadence RATE is the fixed
one, in tracking cadence it keeps under CAP, and that of a spur under the rates of the domains that serve it.
The model's own readings and choices in it: log entries 13, 65. -/
def Obligations.GeneratorEvents : Prop :=
  ∀ (s : State) (d : DomainNo), d.val ≤ 0x457 →
    let g := s.domain d
    let default := if d.val < 0x400 then 1250 else if 0x418 ≤ d.val ∧ d.val ≤ 0x437 then 1600 else 1400
    (∀ v : Word, ∃ t, exec (.bgctlWrite d v) s = .next t
      ∧ (t.domain d).cap.elim default BitVec.toNat = wf v 31 20
      ∧ (t.domain d).cad = (if wf v 3 2 = 3 ∨ (wf v 3 2 = 1 ∧ 0x418 ≤ d.val ∧ d.val ≤ 0x437) then g.cad else BitVec.ofNat 2 (wf v 3 2))
      ∧ (∀ e, e ≠ d.val → t.domain e = s.domain e) ∧ t.dict = s.dict)
    ∧ (g.cad = 2 → (1024 ≤ d.val ∨ s.rimHolds d = false) → ∃ t, exec (.stoppedDomainRestart d) s = .next t
      ∧ (t.domain d).cad = g.cadBefore ∧ (t.domain d).beat = g.beat + 8 ∧ (t.domain d).armed = false
      ∧ (d.val < 1024 → s.spurState d = 1 → t.spurState d = 0))
    ∧ (∀ slow : Bool, s.generatorOn d = true → ∃ t, exec (.rateWindowArmed d slow) s = .next t ∧ (t.domain d).cad = g.cad
      ∧ (t.domain d).armed = (g.armed || g.cad ≠ 2)
      ∧ (let rate := (t.domain d).rate.toNat
         let phy : Prop := 0x418 ≤ d.val ∧ d.val ≤ 0x437
         (g.cad = 2 → rate = 0)
         ∧ (g.cad ≠ 2 → g.cad = 0 ∨ phy →
             (slow = false → rate = if 0x418 ≤ d.val ∧ d.val ≤ 0x437 then 1600 else 500) ∧ (slow = true → rate < 1600))
         ∧ (g.cad = 1 → ¬phy → rate ≤ g.cap.elim default BitVec.toNat
             ∧ (d.val < 1024 → ∀ r ∈ s.guardRates d, rate ≤ r)
             ∧ (slow = true → rate < if d.val < 1024 then 450 else 1250))))

/-- The phases of a recovery (R306 to R319, R408): each trigger, end and limit leads to the phase that the manual says, and a reload to the
registers and maps of the record; a trigger during a recovery is absorbed, or in its reload or rejoin fires the enclosing domain, or Safe
Hold; in a block that an entry asks it ends the entry; a failed reload or rejoin parks the cluster, spur or ridge, fires the module behind a
saddle, and brings the module to Safe Hold.
The model's own readings and choices in it: log entries 6, 58, 61, 100. -/
def Obligations.RecoveriesGoThroughTheirPhases : Prop :=
  ∀ (s : State) (d : Dom),
    let stands (p : RPhase) (r : Recov) : Prop := s.recovs.find? (fun x => x.dom = d) = some r ∧ r.phase = p
    let next (t : State) (p : RPhase) : Prop := t.recovs = s.recovs.map (fun x => if x.dom = d then { x with phase := p } else x)
    let logged (t : State) (low : Nat) : Prop :=
      t.obj 0x5100 1 = (s.faultSeq + 1) % 2 ^ 24 * 2 ^ 40 + (domKind d * 2 ^ 32 + domIndex d * 2 ^ 16 + low) % 2 ^ 40
        ∧ t.obj 0x5100 0 = Nat.min 64 (s.obj 0x5100 0 + 1) ∧ t.faultSeq = (s.faultSeq + 1) % 2 ^ 24
    let fresh (e : Dom) (code : BitVec 16) : Recov := { dom := e, phase := .fence, code := code, release := false }
    let fails (code : Nat) (out : Out) : Prop := ∃ t, out = .next t ∧ logged t code ∧ match d with
      | .saddle _ => fresh .module (BitVec.ofNat 16 code) ∈ t.recovs
      | .module => t.obj 0x2010 0 = 6
      | _ => (∀ k, domCluster d k = true → (t.cluster k).phase = .parked) ∧ t.parked = s.parked ++ [d]
          ∧ t.recovs = s.recovs.filter (fun x => x.dom ≠ d)
    let fires (code : BitVec 16) : Prop := s.triggerOk d code.toNat = true ∧ s.domClamped d = false
    let out : Prop := ∀ r ∈ s.recovs, domWithin d r.dom = false
    (∀ (code : BitVec 16) (same : Bool), s.inParked d = true → out → s.power.entry = none →
      exec (.recoveryTrigger d code same) s = .next s)
    ∧ (∀ (code : BitVec 16) (same : Bool), ¬fires code → exec (.recoveryTrigger d code same) s = .next s)
    ∧ (∀ (code : BitVec 16) r, fires code → s.power.entry = none → r.dom = d → r.phase = .fence →
        s.recovs.find? (fun x => domWithin d x.dom) = some r → ∃ t, exec (.recoveryTrigger d code true) s = .next t
        ∧ t.recovs = s.recovs.map (fun x =>
            if x.dom = d then { x with code := BitVec.ofNat 16 (Nat.min x.code.toNat code.toNat) } else x))
    ∧ (∀ (code : BitVec 16) (same : Bool) r, fires code → s.power.entry = none →
        s.recovs.find? (fun x => domWithin d x.dom) = some r →
        (r.phase = .reload ∨ r.phase = .rejoin →
          (∀ e, domNext r.dom = some e → ∃ t, exec (.recoveryTrigger d code same) s = .next t
            ∧ t.recovs = s.recovs.filter (fun x => !domWithin x.dom e) ++ [fresh e 0x6001])
          ∧ (domNext r.dom = none → ∃ t, exec (.recoveryTrigger d code same) s = .next t ∧ t.obj 0x2010 0 = 6))
        ∧ (r.phase ≠ .reload → r.phase ≠ .rejoin → same = false ∨ r.phase ≠ .fence ∨ r.dom ≠ d →
            exec (.recoveryTrigger d code same) s = .next s))
    ∧ (∀ (code : BitVec 16) (same : Bool) e, fires code → s.inParked d = false → out → s.power.entry = some e →
        1 ≤ e.stage → e.stage ≤ 6 → s.power.brownoutSaved = false →
        (∀ k, d = .cluster k → e.spurs.contains (k.val / 64) = true → ∃ t, exec (.recoveryTrigger d code same) s = .next t
          ∧ fresh d code ∈ t.recovs ∧ t.power.entry = none ∧ t.obj 0x2020 4 = 2 ∧ t.obj 0x2020 5 = k.val)
        ∧ (∀ n, d = .saddle n → e.hold = true → ∃ t, exec (.recoveryTrigger d code same) s = .next t
          ∧ fresh d code ∈ t.recovs ∧ t.power.entry = none ∧ t.obj 0x2020 4 = 2 ∧ t.obj 0x2020 5 = 3 * 65536 + n.val))
    ∧ (∀ (code : BitVec 16) (same : Bool), fires code → s.power.entry = none → s.inParked d = false → out →
      ∃ t, exec (.recoveryTrigger d code same) s = .next t
        ∧ t.recovs = s.recovs.filter (fun x => !domWithin x.dom d) ++ [fresh d code]
        ∧ t.obj 0x5101 0 = (s.obj 0x5101 0 + 1) % 2 ^ 64
        ∧ (∀ c, 1048576 > c → domCluster d (c / 16) = true → (t.core c).syncQ = [] ∧ (t.core c).cq = [] ∧
            ∀ e ∈ (t.core c).memQ, e.sent = true)
        ∧ (∀ k, domCluster d k = true → (t.cluster k).phase = .held ∧ (t.cluster k).storePath = []))
    ∧ (∀ r, stands .fence r →
        (∃ t, exec (.fencePhaseEnd d) s = .next t ∧ next t .drain) ∧ ∃ t, exec (.fenceLimit d) s = .next t ∧ next t .drain)
    ∧ (∀ r, stands .drain r →
        (s.outstanding d = false → ∃ t, exec (.drainEnd d) s = .next t ∧ next t .scrub ∧ logged t r.code.toNat)
        ∧ (s.outstanding d = true → exec (.drainEnd d) s = .next s)
        ∧ ∃ t, exec (.drainLimit d) s = .next t ∧ next t .scrub ∧ logged t r.code.toNat
            ∧ t.remote = s.remote ∧ (∀ i ∈ s.outward d, i ∈ t.abandoned) ∧ ∀ x ∈ t.resend, srcIn d x.src = false)
    ∧ (∀ r, stands .scrub r →
        (∃ t, exec (.resetScrubDone d) s = .next t ∧ next t .reload
          ∧ (∀ c, c < 1048576 → domCluster d (c / 16) = true → t.core c = {})
          ∧ (∀ k, domCluster d k = true → (t.cluster k).storePath = [] ∧ (t.cluster k).cache = [])
          ∧ t.dram = s.dram ∧ (d ≠ .module → t.cairns = s.cairns))
        ∧ (∀ e, domNext d = some e → ∃ t, exec (.resetScrubLimit d) s = .next t
            ∧ fresh e 0x6001 ∈ t.recovs)
        ∧ (domNext d = none → ∃ t, exec (.resetScrubLimit d) s = .next t ∧ t.obj 0x2010 0 = 6))
    ∧ (∀ r, stands .reload r →
        (∀ u, s.reloadRead d = some (0, u) → (∃ t, exec (.reloadDone d) s = .next t ∧ next t .rejoin ∧ t.dram = s.dram)
          ∧ exec (.reloadFailure d) s = .next s)
        ∧ (∀ k, d = .cluster k → let a := s.obj 0x5010 0 + 8704 * k.val
            (s.reloading d).readable (.core (16 * k.val)) a 8704 → s.rejoinOk a = true →
            ∃ t, exec (.reloadDone d) s = .next t ∧ next t .rejoin ∧ s.mapsLoaded a (t.cluster k)
              ∧ ∀ i, i < 16 → let q := t.core (16 * k.val + i)
                  s.entryLoaded (a + 512 + 512 * i) q ∧ q.stat = s.word (a + 512 + 512 * i + 0x108) &&& 0xFF00000003
                  ∧ ∀ n, q.line n = 0)
        ∧ (∀ c u, s.reloadRead d = some (c, u) → c ≠ 0 → fails c (exec (.reloadFailure d) s) ∧ exec (.reloadDone d) s = .next s)
        ∧ (s.reloadRead d = none → exec (.reloadDone d) s = .next s ∧ exec (.reloadFailure d) s = .next s))
    ∧ (∀ r k, stands .rejoin r → d = .cluster k →
        let f := (s.beat (k.val / 64) / 512 + 1) * 512
        ∃ t, exec (.rejoinDone d) s = .next t ∧ t.recovs = s.recovs.filter (fun x => x.dom ≠ d) ∧ (t.cluster k).phase = .run
          ∧ ∀ i : Nat, i < 16 → (t.core (16 * k.val + i)).next = f)
    ∧ (∀ r, (stands .reload r ∨ stands .rejoin r) → fails 0x6004 (exec (.reloadRejoinLimit d) s))

/-- The requests for a power state, by a master that may make them (R382, R384 to R386, R395, R400, R404 to R406).
The model's own readings and choices in it: log entries 61, 62, 64, 65. -/
def Obligations.PowerRequestsAct : Prop :=
  ∀ (s : State) (m : Master), s.changing = false →
    let ms := s.obj 0x2010 0
    let asks (t : State) (off restart : Bool) : Prop := t.obj 0x2010 0 = 3 ∧
      t.power.entry = some { hold := true, off := off, restart := restart, spurs := List.range 1024, stage := 0 }
    let starts (t : State) : Prop := t.obj 0x2010 0 = 1 ∧ t.power.startStep = 3 ∧ t.clusters = [] ∧ t.dram = []
    (s.accepts m 0x2012 0 2 →
      (ms = 2 → ∃ t, exec (.moduleRequestRun m) s = .next t ∧ t.obj 0x2012 0 = 2 ∧ t.obj 0x2010 0 = 2)
      ∧ (ms = 4 → s.power.stopHeld = false → ∃ t, exec (.moduleRequestRun m) s = .next t ∧ t.obj 0x2010 0 = 5 ∧ t.power.wakePhase = 1
          ∧ t.obj 0x2042 0 = 1))
    ∧ (s.accepts m 0x2012 0 4 → ms = 2 → s.obj 0x2030 0 ≠ 0 → ∃ t, exec (.moduleRequestHold m) s = .next t ∧ asks t false false)
    ∧ (s.accepts m 0x2012 0 7 → ms = 2 → ∃ t, exec (.moduleRequestOff m) s = .next t ∧ asks t true false)
    ∧ (s.accepts m 0x2012 0 8 →
      (ms = 2 → ∃ t, exec (.moduleRequestRestart m) s = .next t ∧ asks t false true)
      ∧ ((ms = 4 ∨ ms = 6) → ∃ t, exec (.moduleRequestRestart m) s = .next t ∧ starts t))
    ∧ (∀ d : SpurId, s.accepts m 0x2013 0 0 → ms = 2 → s.obj 0x2013 0 < 2 ^ 8192 → s.obj 0x2011 0 < 2 ^ 8192 →
      (s.spurState d = 1 → (s.domain d).cad = 2 → ∃ t, exec (.spurRequestRun m d) s = .next t ∧ t.spurState d = 0
          ∧ (t.domain d).cad = (s.domain d).cadBefore)
      ∧ (s.spurState d = 0 → ∃ t, exec (.spurRequestDoze m d) s = .next t ∧ t.spurState d = 1 ∧ (t.domain d).cad = 2)
      ∧ ((s.spurState d = 0 ∨ s.spurState d = 7) → byteOf (s.obj 0x2013 0) d ≠ 2 → s.obj 0x2030 0 ≠ 0 →
          ∃ t, exec (.spurRequestNap m d) s = .next t
          ∧ t.power.entry = some { hold := false, off := false, restart := false, spurs := [d.val], stage := 0 }
          ∧ t.obj 0x2010 0 = 2))
    ∧ (s.accepts m 0x2015 0 1 → ms = 2 → s.power.low40 = 0 → ∃ t, exec (.cadenceTracking m) s = .next t ∧ t.obj 0x2015 0 = 1
        ∧ ∀ d, d < 1024 → (t.domain d).cad = if (s.domain d).cad = 2 then 2 else 1)
    ∧ (s.accepts m 0x2015 0 0 → ms = 2 → ∃ t, exec (.cadenceFixed m) s = .next t ∧ t.obj 0x2015 0 = 0
        ∧ ∀ d, d < 1024 → (t.domain d).cad = if (s.domain d).cad = 2 then 2 else 0)
    ∧ (s.accepts m 0x2014 0 1 → ms = 2 → ∀ k : ClusterId, (s.cluster k).phase = .held → s.clusterFenced k = false →
        s.power.gated.contains (k.val / 64) = false → ∃ t, exec (.release m) s = .next t
          ∧ ({ dom := .cluster k, phase := .reload, code := 0, release := true } : Recov) ∈ t.recovs)
    ∧ (∀ v : Byte, s.accepts m 0x2001 2 v.toNat → ∃ t, exec (.supplyFlagClear m v) s = .next t
        ∧ t.obj 0x2001 1 = s.obj 0x2001 1 &&& (0xFF ^^^ v.toNat))

/-- An entry to Nap or Hold, and the wakes (R387 to R398, R402): among them what a restore loads, the save image where all its entries are
valid and no member's brownout stands against it, else the rejoin record, and the parking of a cluster without either.
The model's own readings and choices in it: log entries 47, 61, 62, 92, 93. -/
def Obligations.EntriesAndWakes : Prop :=
  ∀ (s : State),
    let quiet (d : Nat) : Prop := s.power.gated.contains d = false ∧ s.spurState d ≠ 4
    let wakes (t : State) (d : Nat) : Prop :=
      s.obj 0x2010 0 = 2 → s.spurState d = 5 → s.obj 0x2011 0 < 2 ^ 8192 → t.spurState d = 6 ∧ t.obj 0x2042 0 = 3
    (∀ e, s.power.entry = some e →
      (e.stage = 0 → ∃ t, exec .prepWindowEnd s = .next t ∧ t.power.entry = some { e with stage := if e.hold then 1 else 2 })
      ∧ (∀ r : RidgeId, e.stage = 3 → (.ridge r ∉ e.accepted) → (.ridge r ∉ e.delayed) → s.bist.run = false →
          s.answerOfBlock 3 (.ridge r) = .accept → e.accepted.length < 15 →
          ∃ t, exec (.blockAnswer (.ridge r)) s = .next t ∧ t.power.entry = some { e with accepted := .ridge r :: e.accepted })
      ∧ (∀ r : RidgeId, e.stage = 3 → (.ridge r ∉ e.accepted) → (.ridge r ∉ e.delayed) → s.bist.run = false →
          s.answerOfBlock 3 (.ridge r) = .delay → e.delays.count (.ridge r) < s.obj 0x2020 3 →
          ∃ t, exec (.blockAnswer (.ridge r)) s = .next t
            ∧ t.power.entry = some { e with delayed := .ridge r :: e.delayed, delays := .ridge r :: e.delays })
      ∧ (∀ n : SaddleId, e.stage = 4 → (.saddle n ∉ e.accepted) → (.saddle n ∉ e.delayed) → s.bist.run = false →
          s.answerOfBlock 4 (.saddle n) = .refuse →
          ∃ t, exec (.blockAnswer (.saddle n)) s = .next t ∧ t.power.entry = none ∧ t.obj 0x2020 4 = 2
            ∧ t.obj 0x2020 5 = 3 * 65536 + n.val)
      ∧ (∀ b, ∃ t, exec (.blockDelayExpiry b) s = .next t
          ∧ t.power.entry = some { e with delayed := e.delayed.filter (fun x => x ≠ b) })
      ∧ (1 ≤ e.stage → e.stage ≤ 5 → ∃ t, exec .entryLimit s = .next t ∧ t.power.entry = none ∧ t.obj 0x2020 4 = 3)
      ∧ (∀ k : ClusterId, e.stage = 2 → e.spurs.contains (k.val / 64) = true → (s.cluster k).phase = .run →
          (s.cluster k).cache = [] → (s.cluster k).sketch = [] → ((coresOf k).foldl (fun t c => t.tryStop c) s).clusterDrained k = true →
          let img := s.obj 0x2030 0 + 8704 * k.val
          s.writable (.core (16 * k.val)) img 8704 →
          ∃ t, exec (.clusterQuiesce k) s = .next t ∧ (t.cluster k).phase = .quiesced
            ∧ (∀ i, i < 16 → t.word (img + 512 + 512 * i) = 1) ∧ ∀ y, y < img ∨ img + 8704 ≤ y → t.byte y = s.byte y)
      ∧ (∀ k : ClusterId, e.stage = 6 → e.spurs.contains (k.val / 64) = true → (.cluster k ∉ e.shut) →
          e.shut.length + 1 ≠ 64 * e.spurs.length + (if e.hold then 56 else 0) →
          ∃ t, exec (.blockShutdown (.cluster k)) s = .next t ∧ t.power.entry = some { e with shut := .cluster k :: e.shut }))
    ∧ (∀ (c : CoreId) (n : BitVec 3), s.rimKeeps c = true → n.toNat ≤ 4 → n = 4 ∨ quiet (c.val / 1024) →
        ∃ t, exec (.rimHeldEvent c (.irq n)) s = .next t ∧ (t.core c).held = (s.core c).held ||| BitVec.ofNat 8 (2 ^ n.toNat)
          ∧ (t.core c).stat = (s.core c).stat ∧ (n ≠ 4 → wakes t (c.val / 1024)))
    ∧ (∀ (c : CoreId) (off : BitVec 6) (v : Word), s.rimKeeps c = true → quiet (c.val / 1024) →
        ∃ t, exec (.rimHeldEvent c (.store off v)) s = .next t
          ∧ (t.core c).heldReq = (s.core c).heldReq ++ [(s.nextId, .store off v)] ∧ wakes t (c.val / 1024))
    ∧ ((s.power.wakePhase = 2 ∨ s.power.wakePhase = 3 ∨ s.power.wakePhase = 5) → s.heldDebug = [] → ∃ t, exec .wakePhaseEnd s = .next t
        ∧ t.power.wakePhase = s.power.wakePhase + 1)
    ∧ (s.power.wakePhase = 4 → s.heldDebug = [] → ∃ t, exec .wakePhaseEnd s = .next t ∧ t.power.wakePhase = 5 ∧ t.cairns = s.refuge)
    ∧ (s.power.wakePhase = 6 → s.heldDebug = [] → (∀ x ∈ s.clusters, x.2.phase ≠ .quiesced) → ∃ t, exec .wakePhaseEnd s = .next t ∧ t.power.wakePhase = 0 ∧ t.obj 0x2010 0 = 2)
    ∧ (∀ d : SpurId, s.obj 0x2010 0 = 2 → s.spurState d = 5 → s.power.gated.contains d.val = false → s.obj 0x2011 0 < 2 ^ 8192 →
        s.heldDebug = [] →
        (∃ x ∈ s.cores, x.1 < 1048576 ∧ x.1 / 1024 = d.val ∧ (x.2.heldReq ≠ [] ∨ x.2.held &&& 0xEF ≠ 0)) →
        ∃ t, exec (.spurWake d) s = .next t ∧ t.spurState d = 6 ∧ t.obj 0x2042 0 = 3)
    ∧ (∀ k : ClusterId, (s.power.wakePhase = 6 ∨ s.spurState (k.val / 64) = 6) → (s.cluster k).phase = .quiesced → s.heldDebug = [] →
        (∀ j, (s.core j).heldReq = []) →
        let img := s.obj 0x2030 0 + 8704 * k.val
        let rej := s.obj 0x5010 0 + 8704 * k.val
        let who : Who := .core (16 * k.val)
        let good (i : Nat) : Prop := s.word (img + 512 + 512 * i) = 1
        let runs (t : State) (a : Nat) : Prop := (t.cluster k).phase = .run ∧ s.mapsLoaded a (t.cluster k) ∧ t.dram = s.dram
          ∧ ∀ c ∈ coresOf k, (t.core c).held = 0 ∧ (t.core c).lines = (s.core c).lines
            ∧ (t.core c).next = (s.beat (k.val / 64) / 512 + 1) * 512
        let ip (c : Nat) : Word := w64 (((s.core c).held ||| 16).toNat * 2 ^ 40)
        (s.power.wasMember = false → s.readable who img 8704 → (∀ i, i < 16 → good i) →
          ∃ t, exec (.clusterRestore k) s = .next t ∧ runs t img ∧ ∀ c ∈ coresOf k,
            let e := img + 512 + 512 * (c % 16)
            s.imageLoaded e (t.core c)
            ∧ (wf (s.word (e + 0x108)) 1 0 ≠ 2 → (t.core c).stat = (s.word (e + 0x108) &&& 0xFFFF0000C003) ||| ip c))
        ∧ (s.power.wasMember = true ∨ (s.readable who img 8704 ∧ ∃ i, i < 16 ∧ ¬good i) → s.readable who rej 8704 →
          (s.rejoinOk rej = true → ∃ t, exec (.clusterRestore k) s = .next t ∧ runs t rej ∧ ∀ c ∈ coresOf k,
            let e := rej + 512 + 512 * (c % 16)
            s.entryLoaded e (t.core c) ∧ (t.core c).stat = (s.word (e + 0x108) &&& 0xFF00000003) ||| ip c)
          ∧ (s.rejoinOk rej = false → ∃ t, exec (.clusterRestore k) s = .next t ∧ (t.cluster k).phase = .parked
            ∧ t.parked = s.parked ++ [.cluster k] ∧ t.obj 0x5100 1 % 2 ^ 16 = 0x6003)))
    ∧ (s.obj 0x2010 0 = 4 → s.power.brownoutSaved = true → s.power.stopHeld = false → s.obj 0x2040 0 = 1 →
        ∃ t, exec .autowake s = .next t ∧ t.obj 0x2010 0 = 5 ∧ t.power.wakePhase = 1 ∧ t.obj 0x2042 0 = 5)

/-- The input and its limits, brownouts, start-up and temperatures (R22, R378 to R382, R401 to R406, R469 to R471).
The model's own readings and choices in it: log entries 59, 60, 63, 64, 66, 76, and 94: that the ridge rails rise again at the first sample
under no limit. -/
def Obligations.InputStartupAndTemperatures : Prop :=
  ∀ (s : State),
    let off := s.power.off
    let ms := s.obj 0x2010 0
    let dark (t : State) : Prop := t.power.off = true ∧ t.cores = [] ∧ t.clusters = [] ∧ t.dram = [] ∧ t.fuses = s.fuses ∧ t.dict = []
    (∀ mV mA, mV < -60000 → exec (.inputSample mV mA) s = .fault .beyondRating)
    ∧ (∀ mV mA, off = false → 34000 ≤ mV → mV ≤ 60000 →
        let uw := mV.toNat * mA
        let xs := (uw :: s.power.samples).take 40000
        let limits : Prop := 19000000000 * xs.length < xs.sum ∨ 21000000000 < uw ∨ (19000000000 < uw ∧ 3999 ≤ s.power.over19)
          ∨ 525000 < mA ∨ (475000 < mA ∧ (mV < 40000 ∨ 3999 ≤ s.power.over475))
        ∃ t, exec (.inputSample mV mA) s = .next t ∧ t.obj 0x2000 1 = mV.toNat ∧ t.obj 0x2000 2 = mA ∧ t.power.lastMv = mV
          ∧ t.power.below34 = 0 ∧ t.power.above60 = 0 ∧ t.obj 0x2010 0 = ms
          ∧ (limits → (t.obj 0x2001 1).testBit 4 = true ∧ t.power.limited = true ∧ s.power.railDrop < t.power.railDrop)
          ∧ (¬limits → t.power.limited = false ∧ t.power.railDrop = 0))
    ∧ (∀ mV mA, 0 ≤ mV → mV < 34000 → off = false → ms = 2 → s.power.below34 = 799 → s.power.entry = none →
        ∃ t e, exec (.inputSample mV mA) s = .next t ∧ t.obj 0x2010 0 = 3 ∧ t.power.entry = some e ∧ e.hold = true
          ∧ t.power.brownoutSaved = true ∧ t.obj 0x2001 5 = satInc (s.obj 0x2001 5) ∧ t.obj 0x4000 4 ≠ 2)
    ∧ (∀ mV mA, 60000 < mV → off = false → s.power.above60 = 4000 → ∃ t, exec (.inputSample mV mA) s = .next t ∧ dark t)
    ∧ (off = false → ms ≠ 1 → ∃ t, exec .inputLoss s = .next t ∧ dark t)
    ∧ (off = false → ∃ t, exec .inputOvervoltage s = .next t ∧ dark t ∧ t.power.latched = true)
    ∧ (∀ e, s.power.entry = some e → e.stage = 7 → ∃ t, exec .brownoutDrainLimit s = .next t
        ∧ t.power.entry = some { e with stage := 8 } ∧ ∀ r ∈ t.resend, srcIn .module r.src = false)
    ∧ (∀ e, s.power.entry = some e → e.stage = 8 → e.hold = true → e.off = false → e.restart = false →
        ∃ t, exec .brownoutClampLimit s = .next t ∧ t.power.entry = none ∧ t.obj 0x2010 0 = 4)
    ∧ (off = true → s.power.latched = false → ∃ t, exec .inputQualified s = .next t ∧ t.power.off = false ∧ t.power.startStep = 1
        ∧ t.obj 0x2010 0 = 1)
    ∧ (off = false → ms = 1 → s.power.abandoned = false →
        ((s.power.startStep = 1 ∨ s.power.startStep = 2 ∨ s.power.startStep = 5) → ∃ t, exec .startupStepEnd s = .next t
          ∧ t.power.startStep = s.power.startStep + 1)
        ∧ (∀ n, s.power.startStep = 3 → s.bootImage = some n → ∃ t, exec .startupStepEnd s = .next t ∧ t.power.startStep = 4
          ∧ t.obj 0x1001 1 = n)
        ∧ (s.power.startStep = 3 → s.bootImage = none → ∃ t, exec .startupStepEnd s = .next t ∧ t.obj 0x1001 1 = 0xFF
          ∧ t.obj 0x2010 0 = 6)
        ∧ (s.power.startStep = 4 → s.fuses.lc = 0 ∨ s.fuses.lc = 5 → ∃ t, exec .startupStepEnd s = .next t ∧ t.obj 0x2010 0 = 6)
        ∧ (s.power.startStep = 4 → s.flash.best = none → s.fuses.lc ≠ 0 → s.fuses.lc ≠ 5 →
          ∃ t, exec .startupStepEnd s = .next t ∧ t.power.startStep = 5 ∧ t.obj 0x6000 1 = 0)
        ∧ (s.power.startStep = 7 → ∃ t, exec .startupStepEnd s = .next t ∧ t.power.startStep = 8 ∧ t.obj 0x2010 0 = 2
          ∧ s.fuses.svn ≤ t.fuses.svn))
    ∧ (∀ x : Temps, off = false → ms = 2 → x.ridge.length ≤ 16 → x.saddle.length ≤ 8 → x.stack.length ≤ 32 →
        (∀ y ∈ x.ridge, y < 108000) → (∀ y ∈ x.saddle, y < 105000) → x.summit < 100000 → (∀ y ∈ x.stack, y < 95000) →
        x.outlet < 65000 → x.inlet < 50000 →
        ∃ t, exec (.temperatureSample x) s = .next t ∧ t.obj 0x2010 0 = 2 ∧ t.obj 0x3002 0 = (x.summit % 2 ^ 32).toNat)
    ∧ (∀ x : Temps, off = false → ms = 2 → s.brownoutOn = false → 100000 ≤ x.summit → x.ridge.length ≤ 16 → x.saddle.length ≤ 8 → x.stack.length ≤ 32 →
        ∃ t, exec (.temperatureSample x) s = .next t ∧ t.obj 0x2010 0 = 3 ∧ t.power.stopHeld = true)
    ∧ (off = false → ∃ t, exec .summitFault s = .next t ∧ t.obj 0x2010 0 = 6 ∧ t.clusters = [] ∧ t.cairns = [] ∧ t.dram = [])

/-- Writes of objects that ask for something, and what completes them (R322, R338, R339, R374, R411, R412, R416, R419, R426, R435, R438 to
R440, R444, R445).
The model's own readings and choices in it: log entries 52, 58, 67, 68, 70, 73. -/
def Obligations.DictionaryWritesAct : Prop :=
  ∀ (s : State) (m : Master),
    (∀ idx sub value, s.power.off = false → (s.objWrite m idx.toNat sub.toNat value).1 = 0 →
      exec (.dictionaryWrite m idx sub value) s = .next (s.objWrite m idx.toNat sub.toNat value).2)
    ∧ (∀ value : List Byte, s.accepts m 0x5030 0 (bytesNat value) → value.length = 4 →
      exec (.dictionaryWrite m 0x5030 0 value) s = .next { s.setObj 0x5030 0 (bytesNat value) with
        sumWait := s.sumWait ++ if s.isManager then s.lost.map (fun e => .out e.1.toNat e.2 (bytesNat value)) else [] })
    ∧ (∀ (v : BitVec 32) d, s.accepts m 0x5040 0 v.toNat → domOf (fld v.toNat 18 16) (fld v.toNat 15 0) = some d →
      (s.obj 0x2010 0 = 2 ∨ s.obj 0x2010 0 = 3) → s.domClamped d = false → (∀ r ∈ s.recovs, domWithin d r.dom = false) →
      (s.parked.contains d = true ∨ s.inParked d = false) →
      ∃ t r, exec (.resetCommand m v) s = .next t ∧ t.recovs = s.recovs.filter (fun x => !domWithin x.dom d) ++ [r]
        ∧ r.dom = d ∧ r.phase = .fence ∧ r.code = (match m with
          | .session _ _ => 0x8001
          | .summit => 0x8002
          | _ => 0x8003))
    ∧ (s.accepts m 0x4000 5 1 → s.obj 0x4000 4 = 0 →
      let manager : Bool := s.obj 0x4000 2 = 2 && s.obj 0x4000 3 = s.obj 0x4000 1
      ∃ t, exec (.rcmdJoin m) s = .next t ∧ t.obj 0x4000 4 = (if manager then 2 else 1)
        ∧ (manager = true → t.members = [BitVec.ofNat 12 (s.obj 0x4000 1)]))
    ∧ (s.accepts m 0x4000 5 2 → s.obj 0x4000 4 ≠ 0 →
      ∃ t, exec (.rcmdLeave m) s = .next t ∧ t.leaving = true ∧ t.mgrSent = s.mgrSent ++ [(.leave, [s.dev])])
    ∧ (∀ v : Word, s.accepts m 0x4300 5 v.toNat →
      let runs : Prop := s.obj 0x2010 0 = 2 ∨ s.obj 0x2010 0 = 3
      ∃ t, exec (.ringConfigWrite m 5 v) s = .next t
        ∧ (v = 0 ∨ ¬runs → t.obj 0x4300 5 = v.toNat)
        ∧ (v ≠ 0 → runs → s.reqs = [] → (∀ n, (s.saddle n).outlet = []) → s.saddlesOff = false → s.host.ringSet = none →
          s.obj 0x4300 7 < 65536 →
          (s.recovs = [] → t.obj 0x4300 5 = v.toNat ∧ t.host.ringIndex = 0)
          ∧ (s.saddleFenced (s.obj 0x4300 7 / 8192) = true → t.obj 0x4300 5 = s.obj 0x4300 5
            ∧ t.host.ringSet = some [(5, v.toNat)])))
    ∧ (∀ portB, s.accepts m (if portB then 0x4401 else 0x4400) 0x0A 1 →
      ∃ t, exec (.apply m portB) s = .next t
        ∧ (∀ sub, 1 ≤ sub → sub ≤ 7 → mget objDefault t.inUse (okey (if portB then 0x4401 else 0x4400) sub) =
            s.obj (if portB then 0x4401 else 0x4400) sub)
        ∧ ∀ n ∈ slotsOf portB, (t.session n).st = 0)
    ∧ (s.accepts m 0x9040 1 1 → s.obj 0x9040 1 ≠ 1 → ∃ t, exec (.store m) s = .next t ∧ t.obj 0x9040 1 = 1
      ∧ t.flash.storing = some (s.dict.filter (fun e => storedObj e.1)))
    ∧ (∀ x, s.flash.storing = some x → ∃ t, exec .storeDone s = .next t ∧ t.obj 0x9040 1 = 0 ∧ t.flash.stored = some x
      ∧ t.flash.storing = none)
    ∧ (∀ (v : Byte) b i, s.power.off = false → m = .session b i → s.tableAllows m 0x1002 true = true → s.holder = some m → (s.obj 0x2010 0 = 4 ∨ s.obj 0x2010 0 = 6) →
      s.obj 0x1002 2 ≠ 1 → s.lcPermits v.toNat = true →
      ∃ t, exec (.lcreq m v) s = .next t ∧ t.obj 0x1002 1 = v.toNat ∧ t.obj 0x1002 2 = 1 ∧ t.fuses = s.fuses)
    ∧ (s.obj 0x1002 2 = 1 →
      (∃ t, exec (.lifecycleTransitionDone true) s = .next t ∧ t.fuses.lc = s.obj 0x1002 1 ∧ t.obj 0x1002 2 = 2)
      ∧ ∃ t, exec (.lifecycleTransitionDone false) s = .next t ∧ t.fuses = s.fuses ∧ t.obj 0x1002 2 = 3)
    ∧ (∀ key : List Byte, s.accepts m 0x7001 0 (bytesNat key) → key.length = 32 → s.fuses.lc = 1 →
      ∃ t, exec (.managementKeyWrite m key) s = .next t ∧ t.flash.key = key ∧ t.flash.keySet = true)
    ∧ (s.accepts m 0x1001 6 1 → s.obj 0x1001 6 ≠ 1 → s.obj 0x1001 6 ≠ 2 → ∃ t, exec (.updcmd m 1) s = .next t ∧ t.obj 0x1001 6 = 1)
    ∧ (∀ ok : Bool,
      let unused (t : State) : List Byte := if s.obj 0x1001 1 = 0 then t.flash.imageB else t.flash.imageA
      let used (t : State) : List Byte := if s.obj 0x1001 1 = 0 then t.flash.imageA else t.flash.imageB
      (s.obj 0x1001 6 = 1 → ∀ c u, s.stagedCode = some (c, u) →
        ∃ t, exec (.firmwareUpdateDone ok) s = .next t
          ∧ (c ≠ 0 → t.obj 0x1001 6 = c ∧ t.flash = u.flash)
          ∧ (c = 0 → t.obj 0x1001 6 = 2 ∧ unused t = [] ∧ used t = used u))
      ∧ (s.obj 0x1001 6 = 2 → ∀ read bs u, s.stagedRead = some (read, bs, u) →
        ∃ t, exec (.firmwareUpdateDone ok) s = .next t
          ∧ (ok = true ∧ read = true ∧ imageValid s.fuses bs = true → t.obj 0x1001 6 = 3 ∧ unused t = bs ∧ used t = used u)
          ∧ (ok = false ∨ read = false ∨ imageValid s.fuses bs = false → t.obj 0x1001 6 = 7 ∧ t.flash = u.flash)))

/-- The requests of a session (R412, R413, R421 to R427, R449, R451 to R453, R462): each is performed in its session's name and answered;
one that is repeated is answered again and not performed.
The model's own readings and choices in it: log entries 67, 69, 71, 72, 74, 75. -/
def Obligations.SessionRequestsAreServed : Prop :=
  ∀ (s : State) (d : Dgram),
    let n := slotOf d
    let x := s.session n
    let u := s.taken d
    let m : Master := .session d.portB d.sid
    let idx := d.index.toNat
    let sub := d.sub.toNat
    let serves (i : Instr) (t : State) (st aux : Nat) (data : List Byte) : Prop := exec i s = .next (t.replied d x.key st aux data)
    let may : Prop := s.fuses.lc = 1 ∨ (s.fuses.lc = 4 ∧ s.holder = some m)
    (s.nextRequest d 0x02 → (u.objRead m idx sub).1 = 0 → d.aux ≠ 0 → d.aux.toNat ≤ 1024 →
      ∀ ty r, objDesc idx sub = some (ty, r) → d.offset.toNat < (u.objBytes idx sub ty).length →
      serves (.read d) u 0 (u.objBytes idx sub ty).length (((u.objRead m idx sub).2.drop d.offset.toNat).take d.aux.toNat))
    ∧ (s.nextRequest d 0x03 → d.offset = 0 → serves (.write d) (u.objWrite m idx sub d.data).2 (u.objWrite m idx sub d.data).1 0 [])
    ∧ (s.nextRequest d 0x04 → d.aux ≠ 0 → s.holder = none →
      ∃ t, serves (.lock d) t 0 0 [] ∧ t.holder = some m ∧ t.lease = Nat.min d.aux.toNat (s.obj 0x9010 5) * 1048576
        ∧ t.holderWord = s.masterIdent m)
    ∧ (s.nextRequest d 0x04 → d.aux ≠ 0 → (∃ h, s.holder = some h ∧ h ≠ m) →
      serves (.lock d) u 0x08 0 (natBytes 8 s.holderWord.toNat ++ natBytes 4 ((s.lease + 1048575) / 1048576)))
    ∧ (s.nextRequest d 0x05 → d.aux ≠ 0 → s.holder = some m →
      serves (.renew d) { u with lease := Nat.min d.aux.toNat (s.obj 0x9010 5) * 1048576 } 0 0 [])
    ∧ (s.nextRequest d 0x06 → s.holder = some m → serves (.unlock d) { u with holder := none, holderWord := 0, lease := 0 } 0 0 [])
    ∧ (s.nextRequest d 0x06 → s.holder ≠ some m → serves (.unlock d) u 0x03 0 [])
    ∧ (s.nextRequest d 0x07 → ∃ t, serves (.close d) t 0 0 [] ∧ t.session n = { opens := x.opens }
        ∧ (s.holder = some m → t.holder = none) ∧ n ∉ t.signWait)
    ∧ (s.nextRequest d d.type.toNat → typeKnown d.type.toNat = false → serves (.unknownRequestType d) u 0x0A 0 [])
    ∧ (s.nextRequest d 0x20 → s.attests = true → d.data.length = 32 → x.nonce = none →
      ∃ t, serves (.attest d) t 0 0 [] ∧ t.signWait = s.signWait ++ [n] ∧ (t.session n).nonce = some d.data)
    ∧ (s.nextRequest d 0x21 → x.nonce = none → d.aux ≠ 0 → d.aux.toNat ≤ 1024 → d.offset.toNat < x.report.length →
      serves (.aread d) u 0 5844 ((x.report.drop d.offset.toNat).take d.aux.toNat))
    ∧ (∀ i ty, (i = .dbgrd d ∧ ty = 0x22 ∨ i = .dbgwr d ∧ ty = 0x23 ∨ i = .dbghalt d ∧ ty = 0x24 ∨ i = .dbgrun d ∧ ty = 0x25) →
      s.nextRequest d ty → (s.fuses.lc ≠ 1 → s.fuses.lc ≠ 4 → serves i u 0x05 0 [])
        ∧ (s.fuses.lc = 4 → s.holder ≠ some m → serves i u 0x03 0 []))
    ∧ (s.nextRequest d 0x22 → may → s.halted = none → d.data.length = 8 → d.aux = 1 →
      let a := bytesNat d.data
      a % 8 = 0 → a < 0x18000000000 → u.debugAllowed m a .read = true → s.obj 0x2010 0 = 2 → s.targetError a (masterWho m) .read = 0 →
      s.readable (masterWho m) a 8 →
      ∃ t, serves (.dbgrd d) t 0 0 ((List.range 8).map (fun i => s.byte (a + i))) ∧ t.dram = s.dram)
    ∧ (s.nextRequest d 0x23 → may → s.halted = none → d.data.length = 16 →
      let a := bytesNat (d.data.take 8)
      a % 8 = 0 → a < 0x18000000000 → u.debugAllowed m a .write = true → s.obj 0x2010 0 = 2 → s.targetError a (masterWho m) .write = 0 →
      s.writable (masterWho m) a 8 →
      ∃ t, serves (.dbgwr d) t 0 0 [] ∧ (∀ i, i < 8 → t.byte (a + i) = (d.data.drop 8).getD i 0)
        ∧ ∀ y, y < a ∨ a + 8 ≤ y → t.byte y = s.byte y)
    ∧ (s.nextRequest d 0x24 → may → s.halted = none → u.allowed 0x4031 (masterWho m) 5 0 .write = true →
      ∀ k : ClusterId, k.val = d.aux.toNat → s.clusterFenced k = false → (s.cluster k).phase ≠ .parked →
      ∃ t, serves (.dbghalt d) t 0 0 [] ∧ t.halted = some k)
    ∧ (∀ k : ClusterId, s.nextRequest d 0x25 → may → s.halted = some k → k.val = d.aux.toNat →
      u.allowed 0x4031 (masterWho m) 5 0 .write = true → ∃ t, serves (.dbgrun d) t 0 0 [] ∧ t.halted = none)
    ∧ (∀ v : Word, s.nextRequest d 0x23 → may → s.halted = none → d.data = natBytes 8 0xE800000808000 ++ natBytes 8 v.toNat →
      u.debugAllowed m 0xE800000808000 .write = true →
      (wf v 63 62 = 1 → s.bist.run = false → wf v 10 0 ≤ wf v 26 16 → wf v 26 16 ≤ 1271 →
        serves (.bistStart d) { u with bist := { run := true, direct := true, first := wf v 10 0, last := wf v 26 16, bcmd := v, done := false
                                                 outcome := 0, results := [] } } 0 0 [])
      ∧ (wf v 63 62 = 2 → s.bist.run = true → s.bist.direct = true →
        serves (.bistAbort d) { u with bist := { s.bist with bcmd := v, run := false } } 0 0 []))
    ∧ (∀ r, s.portServes d.portB = true → s.takesDgram d = true → dgramForm d = true → d.type = 0x03 → n ∈ slotsOf d.portB → x.st = 2 → x.sid = d.sid →
      dgramTagged d x.key = true → d.seq = x.lastSeq → x.lastReply = some r →
      exec (.write d) s = .next { s.count (portIdx d.portB) 0x0B with replies := s.replies ++ [r] })

/-- OPEN, the management ports, the ends of leases and sessions (R417 to R424, R426, R427), and the mailboxes (R432 to R434).
The model's own readings and choices in it: log entries 48, 69, 70. -/
def Obligations.PortsSessionsAndMailboxes : Prop :=
  ∀ (s : State) (portB : Bool),
    let idx := if portB then 0x4401 else 0x4400
    let up : Bool := s.portServes portB
    (∀ (d : Dgram) (nonce : List Byte) n, d.portB = portB → up = true → s.takesDgram d = true → dgramForm d = true →
      d.type = 1 → dgramTagged d s.flash.key = true →
      d.data.length = 16 → (slotsOf portB).find? (fun n => (s.session n).st = 0) = some n →
      let sid : BitVec 16 := BitVec.ofNat 16 (((s.session n).opens + 1) % 4096 * 16 + n)
      let key := hmacSha256 s.flash.key (d.data ++ nonce ++ natBytes 2 sid.toNat ++ [if portB then 1 else 0])
      ∃ t, exec (.mgmtOpen d nonce) s = .next t ∧ (t.session n).st = 1 ∧ (t.session n).sid = sid ∧ (t.session n).key = key
        ∧ t.replies = s.replies ++ [dgramReply d key sid 0 0 nonce])
    ∧ (∀ (d : Dgram) (nonce : List Byte), d.portB = portB → up = true → s.takesDgram d = true → dgramForm d = true → d.type = 1 →
      dgramTagged d s.flash.key = false →
      ∃ t, exec (.mgmtOpen d nonce) s = .next t ∧ t.sessions = s.sessions ∧ t.replies = s.replies
        ∧ t.obj idx 0x0C = satInc (s.obj idx 0x0C))
    ∧ (s.portEnabled portB = true → s.obj idx 9 = 0 → ∃ t, exec (.mgmtLinkUp portB) s = .next t ∧ t.obj idx 9 = 1
        ∧ t.netSent = s.netSent ++ [(portB, 135 :: ownAddress portB.toNat)])
    ∧ (∃ t, exec (.mgmtLinkUp portB) s = .next t ∧ t.linksUp.contains portB = true)
    ∧ (∃ t, exec (.mgmtLinkDown portB) s = .next t ∧ t.linksUp.contains portB = false ∧ (up = true → t.obj idx 9 = 0)
        ∧ (up = false → t.obj idx 9 = s.obj idx 9))
    ∧ (∀ (d : Dgram) (i : Instr), d.portB = portB → up = true → s.takesDgram d = false ∨ dgramForm d = false →
        (∃ nonce, i = .mgmtOpen d nonce) ∧ d.type = 1 ∨ i = .read d ∧ d.type = 2 ∨ i = .write d ∧ d.type = 3 →
        exec i s = .next (s.setObj idx 0x0D (satInc (s.obj idx 0x0D))))
    ∧ (up = true → ∃ t, exec (.duplicateAddress portB) s = .next t ∧ t.obj idx 9 = 2)
    ∧ (up = true → ∀ target : Word, target.toNat = ownIid portB.toNat → exec (.neighborSolicitation portB target) s =
        .next { s with netSent := s.netSent ++ [(portB, 136 :: ownAddress portB.toNat)] })
    ∧ (up = true → ∀ payload, exec (.echoRequest portB payload) s = .next { s with netSent := s.netSent ++ [(portB, 129 :: payload)] })
    ∧ (s.portEnabled portB = true → s.obj idx 9 ≠ 0 → exec (.mgmtFrameDiscarded portB) s = .next (s.setObj idx 0x0D (satInc (s.obj idx 0x0D))))
    ∧ (s.holder.isSome = true → ∃ t, exec .leaseExpiry s = .next t ∧ t.holder = none ∧ t.lease = 0
        ∧ t.obj 0x9010 8 = satInc (s.obj 0x9010 8))
    ∧ (∀ slot : Fin 8, (s.session (slot.val + 1)).st ≠ 0 → ∃ t, exec (.sessionIdleExpiry slot) s = .next t
        ∧ t.session (slot.val + 1) = { opens := (s.session (slot.val + 1)).opens }
        ∧ (s.holder = some (.session (decide (4 < slot.val + 1)) (s.session (slot.val + 1)).sid) → t.holder = none))
    ∧ (∀ (m : Master) (i : Fin 8), s.power.off = false →
        let b := s.mailbox i
        (b.owner = none → exec (.mailboxClaim m i) s = .next (s.setMailbox i { b with owner := some m }))
        ∧ (b.owner = some m → exec (.mailboxRelease m i) s = .next (s.setMailbox i { b with owner := none, lost := true }))
        ∧ (b.owner ≠ some m → exec (.mailboxRelease m i) s = .next s)
        ∧ (∀ cmd, b.owner = some m → b.run = false → (wf cmd 63 62 = 1 → exec (.mailboxRead m i cmd) s =
              .next (s.setMailbox i { b with cmd := cmd, run := true, done := false, user := some m, lost := false }))
            ∧ (wf cmd 63 62 = 2 → exec (.mailboxWrite m i cmd) s =
              .next (s.setMailbox i { b with cmd := cmd, run := true, done := false, user := some m, lost := false }))))
    ∧ (∀ (m : Master) (i : Fin 8),
        let b := s.mailbox i
        let len := wf b.cmd 11 0
        (b.run = true → b.user = some m → b.lost = false → 1 ≤ len → len ≤ 2048 →
          (∀ ty r, wf b.cmd 63 62 = 1 → objDesc (wf b.cmd 55 40) (wf b.cmd 39 32) = some (ty, r) →
            (s.objRead m (wf b.cmd 55 40) (wf b.cmd 39 32)).1 = 0 →
            wf b.cmd 31 16 < (s.objBytes (wf b.cmd 55 40) (wf b.cmd 39 32) ty).length →
            ∃ t, exec (.mailboxOpDone i) s = .next t ∧ (t.mailbox i).run = false ∧ (t.mailbox i).done = true ∧ (t.mailbox i).status = 0
              ∧ t.dict = s.dict)
          ∧ (wf b.cmd 63 62 = 2 → wf b.cmd 31 16 = 0 →
            let w := s.objWrite m (wf b.cmd 55 40) (wf b.cmd 39 32) ((List.range len).map (fun j => mget byteDef b.data j))
            ∃ t, exec (.mailboxOpDone i) s = .next t ∧ (t.mailbox i).run = false ∧ (t.mailbox i).done = true
              ∧ (t.mailbox i).status = BitVec.ofNat 8 w.1 ∧ t.dict = w.2.dict))
        ∧ (b.run = true → b.user = some m → b.lost = true → wf b.cmd 63 62 = 1 → ∃ t, exec (.mailboxOpDone i) s = .next t ∧ (t.mailbox i).run = false
            ∧ (t.mailbox i).done = b.done ∧ (t.mailbox i).status = b.status ∧ (t.mailbox i).data = b.data)
        ∧ (b.run = false → exec (.mailboxClaimExpiry i) s = .next (s.setMailbox i { b with owner := none, lost := true })))

/-- The signing unit and BIST runs (R447 to R450, R455 to R462): the oldest request gets its report under the next index, whose use the
reservation point has preceded, and its signature verifies under the public key that 0x7000:02 reads; an item gets its result, and a
run whose items all have theirs is done.
The model's own readings and choices in it: log entries 13, 14, 72, 75. -/
def Obligations.SigningAndBistRuns : Prop :=
  ∀ (s : State),
    (∀ n rest p, s.signWait = n :: rest → s.treeDue = false → s.attests = true → s.flash.point = some p →
      ∃ t q, exec .reportSigned s = .next t ∧ t.signWait = rest ∧ t.signQ = s.signQ + 1 ∧ t.flash.point = some q
        ∧ (s.signQ ≤ p → s.signQ < q)
        ∧ (t.session n).nonce = none ∧ (t.session n).report.length = 5844
        ∧ (t.session n).report.take 128 = s.reportBody ((s.session n).nonce.getD []) s.signQ
        ∧ (s.signQ < 2 ^ 40 → s.fuses.identity.id.length = 16 → s.fuses.publicKept = none →
            lmsIdentity.hssVerifies (s.objBytes 0x7000 2 (.blob 60)) ((t.session n).report.take 128) ((t.session n).report.drop 128) = true))
    ∧ (∃ t, exec .level1TreeCompute s = .next t ∧ t = { s with treeDue := false })
    ∧ (∀ (i : BitVec 11) pass, s.bist.atItem i.toNat = false → exec (.bistItemDone i pass) s = .next s)
    ∧ (∀ (i : BitVec 11) pass, s.bist.atItem i.toNat = true → s.itemBusy i.toNat = false →
      ∃ t, exec (.bistItemDone i pass) s = .next t ∧ mget resDef t.bist.results i.toNat = (if pass then 1 else 2)
        ∧ ∀ j, j ≠ i.toNat → mget resDef t.bist.results j = mget resDef s.bist.results j)
    ∧ (∀ i : BitVec 11, s.bist.atItem i.toNat = true → (s.itemBusy i.toNat = true ∨ farEnd i.toNat = true) →
      ∃ t, exec (.bwaitExpiry i) s = .next t ∧ mget resDef t.bist.results i.toNat = 3)
    ∧ (s.bist.run = true → s.bist.direct = true → (∀ i, s.bist.testing i = false) →
      ∃ t, exec .bistRunDone s = .next t ∧ t.bist.run = false ∧ t.bist.done = true
        ∧ t.bist.outcome = (if countResult s.bist.results 2 ≠ 0 then 2 else if countResult s.bist.results 3 ≠ 0 then 3 else 1))
    ∧ (s.bist.run = true → s.bist.direct = false → (∀ i, s.bist.testing i = false) →
      ∃ t, exec .bistRunDone s = .next t ∧ t.power.off = true ∧ t.power.latched = true ∧ t.flash.passes = s.flash.passes + 1)

/-- One step (the queue of waiting commands, first in, first out): the command at the front takes effect, with the rest of the queue left.
On an empty queue the module idles, which is the model's choice (log entry 1). -/
def Obligations.StepRunsTheFrontCommand : Prop :=
  ∀ (s : State) (i : Instr) (rest : List Instr),
    step { s with pending := i :: rest } = exec i { s with pending := rest }
    ∧ (s.pending = [] → step s = .next s)

/-- No command stops the module but an input sample outside its ratings (R378, R463), and none adds to the queue or takes from it.
The model's own readings and choices in it: log entries 3, 76. -/
def Obligations.EveryCommandAnswersAndLeavesTheQueue : Prop :=
  ∀ (i : Instr) (s : State),
    (∃ t, exec i s = .next t ∧ t.pending = s.pending)
    ∨ ∃ mV mA, i = .inputSample mV mA ∧ mV < -60000 ∧ exec i s = .fault .beyondRating

/-- Local DRAM changes only by the commands that write it: all others leave every byte as it was. -/
def Obligations.MemoryChangesOnlyByItsWriters : Prop :=
  ∀ (i : Instr) (s t : State), mayWriteMemory i = false → exec i s = .next t → t.dram = s.dram

/-- Every step keeps local DRAM in its canonical form: addresses strictly rising, no entry equal to what an unlisted address reads as.
The model's own readings and choices in it: log entry 5. -/
def Obligations.StepsKeepMemoryCanonical : Prop :=
  ∀ (s t : State), Memory.wf s.dram = true → step s = .next t → Memory.wf t.dram = true

/-- The module right after reset (R7, R148, R268, R383, R403, R416): Off, no command waits, nothing runs; the registers that the tables
give a reset value have it; every cairn is zero, every object has its default, and the memory is in its canonical form.
The model's own readings and choices in it: log entries 6, 7. -/
def Obligations.ResetIsAColdStart : Prop :=
  State.reset.power.off = true ∧ State.reset.pending = [] ∧ Memory.wf State.reset.dram = true
    ∧ (∀ c : CoreId, State.reset.running c = false ∧ State.reset.canIssue c = false)
    ∧ (∀ c : CoreId, let k := State.reset.core c
        k.stat = 3 ∧ k.vcfg = 0x20 ∧ k.fctl = 0x800 ∧ k.tprog = 0 ∧ k.lcnt = 0 ∧ k.tcfg = 0 ∧ k.cq = [] ∧ k.memQ = [] ∧ k.syncQ = []
          ∧ k.iword = 0 ∧ k.aerr = 0)
    ∧ (∀ k : ClusterId, let cl := State.reset.cluster k
        cl.phase = .held ∧ cl.maps = {} ∧ cl.pendingMaps = {} ∧ cl.storePath = [] ∧ cl.sketch = [])
    ∧ (∀ q, let k := State.reset.cairn q
        k.mode = 0 ∧ k.value = 0 ∧ k.sense = false ∧ k.pm1 = 0 ∧ k.flags = 0 ∧ k.waiters = [])
    ∧ (∀ idx sub, State.reset.obj idx sub = objDefault (okey idx sub))

/-- A core's word stands for one instruction, and its encoding gives the word back; the encoding of every legal instruction decodes to it,
with every operand at every value (R119, R121, R155, R156). -/
def Obligations.DecodingInvertsEncoding : Prop :=
  (∀ (c : CoreId) (w : Nat) (i : Instr), w < 2 ^ 32 → decodeWord c w = some i → encodeWord i = w)
  ∧ (∀ (i : Instr) (c : CoreId), instrCore i = some c → legalInstr i = true →
      (∀ major func k f, vecCtor major func = some k → i = k c f → isBoot c = false ∧ vecFieldsLegal major func f = true) →
      decodeWord c (encodeWord i) = some i)

/-- Issue, for every instruction of a core (R15, R113, R114, R116, R121, R130, R137, R183, R192, R388): none issues to a core that cannot
take one; a due result that is absent freezes the core at its beat, once all before it have taken effect; a core that is asked to stop
does so at a boundary; where an interrupt is to be taken none issues; a fetch that faults raises, one that misses freezes; and an
instruction that is illegal, or a control transfer in a delay slot or at a loop's end, raises illegal instruction with its word in FAULTV.
The model's own readings and choices in it: log entries 17, 35, 36. -/
def Obligations.IssueOfInstructions : Prop :=
  ∀ (s : State) (i : Instr) (c : CoreId), instrCore i = some c →
    let b := s.issueBeat c
    let u := s.atIssue c
    let stops : Bool := !coreBoot c && s.stopAsked (clusterOf c) && (s.core c).boundary b
    let taken : Bool := (s.core c).boundary b && ((u.core c).interrupt (coreBoot c)).isSome
    let raised (code : Nat) (faultv : Word) (keeps : Bool) : Out := .next (u.modCore c (fun k =>
      if keeps then { k.recognised b code faultv with tprog := k.tprog } else k.recognised b code faultv))
    (s.canIssue c = false → (s.core c).move = none → exec i s = .next s)
    ∧ (∀ due, s.canIssue c = true → (s.core c).absent (s.issueActive c) = some due →
        exec i s = .next (((s.toBeat (coreDomain c) b).landAll c (due - 1)).modCore c (fun k =>
          { k with frozen := some (.answer, due + k.fcnt), clear := 0 })))
    ∧ (s.canIssue c = true → (s.core c).absent (s.issueActive c) = none →
        (stops = true → exec i s = .next (u.modCore c (fun k => { k with stopped := some b })))
        ∧ (stops = false → taken = true → exec i s = .next s)
        ∧ (∀ code, stops = false → taken = false → u.fetch c = some (.inl code) → exec i s = raised code (w64 (u.core c).pc.toNat) true)
        ∧ (∀ why, stops = false → taken = false → u.fetch c = some (.inr why) →
            exec i s = .next ((s.atFreeze c).modCore c (fun k => { k with frozen := some (why, b), clear := 0 }))))
    ∧ (s.mayIssue c = true →
        legalInstr i = false ∨ (isControl i = true ∧ ((u.core c).slot.isSome = true ∨ (u.core c).atLend = true)) →
        exec i s = raised 0x03 (w64 (encodeWord i)) (isTransfer i))

/-- Results and system registers (R35, R114, R131, R135, R148, R171, R177 to R179, R182, R204, R205): when the results due by an active
beat take effect, a scalar register has the value of the last one for it; a write of a system register changes the fields that software
writes, refuses the values that a field refuses, and clears the flags written with 1. That a write of CAUSE whose TGT is 0b10 keeps the
old TGT is the model's choice.
The model's own readings and choices in it: log entries 16, 96. -/
def Obligations.ResultsTakeEffect : Prop :=
  ∀ (s : State) (c : CoreId) (a : Nat),
    (∀ r : Reg,
      let due := (s.core c).pend.filter (fun p => p.due ≤ a && p.present (s.core c).fcnt a && p.dst == .sreg r)
      ((s.landAll c a).core c).sreg r = if r = 0 then 0 else (due.getLast?).elim ((s.core c).sreg r) (·.val))
    ∧ (((s.landAll c a).core c).pend = (s.core c).pend.filter (fun p => !(p.due ≤ a && p.present (s.core c).fcnt a)))
    ∧ (∀ (v clr : Word) (lvl at_ : Nat),
      let k := s.core c
      let now (sr : Nat) : Core := (s.sysWrite c sr v clr lvl at_).core c
      (now 4).tprog = v &&& 0xFC1F ∧ (now 9).lbeg = v &&& 0xFFFFFFFFFFFC ∧ (now 10).lend = v &&& 0xFFFFFFFFFFFC
      ∧ (now 8).lcnt = (v &&& 0xFFFFFFFF) ||| (if wf v 33 32 = 2 then k.lcnt &&& 0x300000000 else v &&& 0x300000000)
      ∧ (now 2).vcfg = (if 2 ≤ wf v 5 4 ∧ wf v 3 2 ≠ 0 ∨ wf v 5 4 < 2 ∧ 2 ≤ wf v 3 2 then k.vcfg
          else w64 (wf v 7 2 * 4 + Nat.min (wf v 31 16) (2048 * 2 ^ wf v 7 6 / (8 * 2 ^ wf v 5 4)) * 2 ^ 16))
      ∧ (now 3).fctl = (v &&& 0x800) ||| (if 4 ≤ wf v 10 8 then k.fctl &&& 0x700 else v &&& 0x700) ||| (k.fctl &&& 0x1F &&& ~~~clr)
      ∧ (now 0x100).stat = (v &&& 0xFF00004000) ||| (if lvl = 3 then v &&& 0x8000 else k.stat &&& 0x8000)
          ||| (k.stat &&& 0xFF0000000000 &&& ~~~clr) ||| (k.stat &&& 3)
      ∧ (now 0x180).atb = v &&& 0xFFFFFFFFFC001 ∧ (now 0x180).tlb = [] ∧ (now 0x181).asid = v &&& 0xFFFF
      ∧ ∀ m : Bool,
        let set (q : Core) : SaveSet := if m then q.saveM else q.saveS
        let is (sr : Nat) : SaveSet := set (now (sr + if m then 0x100 else 0))
        (is 0x101).pc = v &&& 0xFFFFFFFFFFFC
        ∧ (is 0x102).st = (v &&& 0xFFFF0000C000) ||| (if wf v 1 0 = 2 then (set k).st &&& 3 else v &&& 3)
        ∧ (is 0x103).cause = (v &&& 0xE000FFFF0000FFFF) |||
            (if wf v 57 56 = 2 then (set k).cause &&& 0x300000000000000 else v &&& 0x300000000000000)
        ∧ (is 0x104).faultv = v ∧ (is 0x105).aux = v ∧ (is 0x106).ivec = v &&& 0xFFFFFFFFFE00 ∧ (is 0x107).scratch = v)
end

