-- ==== Sys2Proof/Laws/Hash.lean ====
section
/-! SUPPORT. The lengths of what the hash and signature functions give, and that a made signature verifies. -/

namespace Sys2Proof.Machine

theorem u32str_length (v : Nat) : (u32str v).length = 4 := by simp [u32str, natBytesBE, natBytes]

theorem shaRound_length (v : List (BitVec 32)) (k w : BitVec 32) (h : v.length = 8) : (shaRound v k w).length = 8 := by
  unfold shaRound
  split <;> simp_all

theorem shaRounds_length (ks : List Nat) : ∀ (w v : List (BitVec 32)), v.length = 8 → (shaRounds ks w v).length = 8 := by
  induction ks with
  | nil => exact fun _ _ h => h
  | cons k ks ih => exact fun w v h => ih _ _ (shaRound_length v _ _ h)

theorem shaBlocks_length (n : Nat) : ∀ (bs : List Byte) (h : List (BitVec 32)), h.length = 8 → (shaBlocks n bs h).length = 8 := by
  induction n with
  | zero => exact fun _ _ h => h
  | succ n ih =>
    intro bs h hh
    exact ih _ _ (by rw [List.length_zipWith, hh, shaRounds_length _ _ _ hh]; rfl)

/-- A digest is 32 bytes. -/
@[simp] theorem sha256_length (m : List Byte) : (sha256 m).length = 32 := by
  have h := shaBlocks_length ((shaPad m).length / 64) (shaPad m) shaH rfl
  unfold sha256
  simp only [List.length_flatMap, u32str_length]
  simp [h]

@[simp] theorem hmacSha256_length (key m : List Byte) : (hmacSha256 key m).length = 32 := by
  unfold hmacSha256
  exact sha256_length _


/-! ### A signature verifies -/

theorem cutBytes_append (a b : List Byte) (off n : Nat) (h : a.length ≤ off) : cutBytes (a ++ b) off n = cutBytes b (off - a.length) n := by
  unfold cutBytes
  rw [List.drop_append, List.drop_of_length_le h, List.nil_append]
theorem cutBytes_left (a b : List Byte) (n : Nat) (h : a.length = n) : cutBytes (a ++ b) 0 n = a := by
  unfold cutBytes
  rw [List.drop_zero, List.take_append_of_le_length (by omega), List.take_of_length_le (by omega)]
theorem cutBytes_whole (a : List Byte) (n : Nat) (h : a.length = n) : cutBytes a 0 n = a := by
  have := cutBytes_left a [] n h
  rwa [List.append_nil] at this
theorem bytesNat_u32str (v : Nat) : bytesNat (u32str v).reverse = v % 2 ^ 32 := by
  have h (w : Nat) : (BitVec.ofNat 8 w).toNat = w % 256 := rfl
  simp [u32str, natBytesBE, natBytes, bytesNat]
  omega
theorem wordBE_left (v : Nat) (b : List Byte) (h : v < 2 ^ 32) : wordBE (u32str v ++ b) 0 = v := by
  unfold wordBE
  rw [cutBytes_left _ _ _ (u32str_length v), bytesNat_u32str, Nat.mod_eq_of_lt h]
theorem wordBE_append (a b : List Byte) (off : Nat) (h : a.length ≤ off) : wordBE (a ++ b) off = wordBE b (off - a.length) := by
  unfold wordBE
  rw [cutBytes_append _ _ _ _ h]

theorem flatMap_length (f : Nat → List Byte) (hf : ∀ i, (f i).length = 32) (n : Nat) : ((List.range n).flatMap f).length = 32 * n := by
  simp [List.length_flatMap, hf, Nat.mul_comm]
theorem cutBytes_flatMap (f : Nat → List Byte) (hf : ∀ i, (f i).length = 32) (rest : List Byte) (n i : Nat) (hi : i < n) :
    cutBytes ((List.range n).flatMap f ++ rest) (32 * i) 32 = f i := by
  induction n with
  | zero => omega
  | succ n ih =>
    rw [List.range_succ, List.flatMap_append, List.append_assoc]
    by_cases h : i = n
    · subst h
      rw [cutBytes_append _ _ _ _ (by rw [flatMap_length f hf]), flatMap_length f hf, Nat.sub_self]
      simp only [List.flatMap_cons, List.flatMap_nil, List.append_nil]
      exact cutBytes_left _ _ _ (hf i)
    · have hl : 32 * i + 32 ≤ ((List.range n).flatMap f).length := by rw [flatMap_length f hf]; omega
      have := ih (by omega)
      unfold cutBytes at this ⊢
      rw [List.drop_append_of_le_length (by omega), List.take_append_of_le_length (by rw [List.length_drop]; omega)] at this ⊢
      exact this

theorem chainStep_add (id : List Byte) (q i : Nat) (n m : Nat) : ∀ (j : Nat) (x : List Byte),
    chainStep id q i m (j + n) (chainStep id q i n j x) = chainStep id q i (n + m) j x := by
  induction n with
  | zero => simp [chainStep]
  | succ n ih =>
    intro j x
    have := ih (j + 1) (sha256 (id ++ u32str q ++ u16str i ++ natBytesBE 1 j ++ x))
    rw [show n + 1 + m = (n + m) + 1 by omega]
    simp only [chainStep]
    rw [← this]
    congr 1
    omega
theorem chainStep_length (id : List Byte) (q i : Nat) (n : Nat) : ∀ (j : Nat) (x : List Byte), x.length = 32 → (chainStep id q i n j x).length = 32 := by
  induction n with
  | zero => exact fun _ _ h => h
  | succ n ih => exact fun j x _ => ih _ _ (sha256_length _)
theorem chain_length (k : LmsKey) (q i n : Nat) : (k.chain q i n).length = 32 := chainStep_length _ _ _ _ _ _ (sha256_length _)
theorem node_length (k : LmsKey) (p : LmsSet) (n r : Nat) : (k.node p n r).length = 32 := by
  cases n <;> simp [LmsKey.node, lmsLeaf, lmsInner]
theorem digit_lt (p : LmsSet) (s : List Byte) (i : Nat) : p.digit s i < 2 ^ p.width := Nat.mod_lt _ (Nat.two_pow_pos _)

theorem xor_one (r : Nat) : r ^^^ 1 = if r % 2 = 1 then r - 1 else r + 1 := by
  have h1 : (r ^^^ 1) / 2 = r / 2 := by rw [Nat.xor_div_two]; simp
  have h2 : (r ^^^ 1) % 2 = (r + 1) % 2 := by rw [Nat.xor_mod_two_eq]
  split <;> omega
theorem climb_node (k : LmsKey) (p : LmsSet) (r n : Nat) : ∀ l : Nat,
    lmsClimb k.id n (r / 2 ^ l) (k.node p l (r / 2 ^ l)) ((List.range' l n).flatMap (fun j => k.node p j ((r / 2 ^ j) ^^^ 1)))
      = k.node p (l + n) (r / 2 ^ (l + n)) := by
  induction n with
  | zero => intro l; rfl
  | succ n ih =>
    intro l
    have hd : r / 2 ^ (l + 1) = r / 2 ^ l / 2 := by rw [pow_succ, Nat.div_div_eq_div_mul]
    have hn : k.node p (l + 1) (r / 2 ^ (l + 1)) = if r / 2 ^ l % 2 = 1
        then lmsInner k.id (r / 2 ^ l / 2) (k.node p l ((r / 2 ^ l) ^^^ 1)) (k.node p l (r / 2 ^ l))
        else lmsInner k.id (r / 2 ^ l / 2) (k.node p l (r / 2 ^ l)) (k.node p l ((r / 2 ^ l) ^^^ 1)) := by
      rw [hd, xor_one]
      simp only [LmsKey.node]
      generalize r / 2 ^ l = x
      split
      · rw [show 2 * (x / 2) = x - 1 by omega, show x - 1 + 1 = x by omega]
      · rw [show 2 * (x / 2) = x by omega]
    rw [List.range'_succ, List.flatMap_cons, lmsClimb]
    simp only [List.take_left' (node_length k p l _), List.drop_left' (node_length k p l _)]
    rw [← hn, ← hd, ih (l + 1)]
    congr 1 <;> ring_nf

theorem public_length (x : LmsKey) (p : LmsSet) (h : x.id.length = 16) : (x.public p).length = lmsKeyLen := by
  simp [LmsKey.public, u32str_length, h, node_length, lmsKeyLen]
theorem sign_length (x : LmsKey) (p : LmsSet) (q : Nat) (c m : List Byte) (h : c.length = 32) : (x.sign p q c m).length = p.sigLen := by
  have h1 : (x.path p q).length = 32 * p.height := flatMap_length _ (fun _ => node_length _ _ _ _) _
  have h2 (f : Nat → Nat) : ((List.range p.chains).flatMap (fun i => x.chain q i (f i))).length = 32 * p.chains :=
    flatMap_length _ (fun _ => chain_length _ _ _ _) _
  simp [LmsKey.sign, u32str_length, h, h1, h2, LmsSet.sigLen, LmsSet.otsLen]
  omega

/-- An LMS signature verifies under the public key of its private key (RFC 8554, sections 4.5, 4.6, 5.4). -/
theorem lms_verifies (k : LmsKey) (p : LmsSet) (q : Nat) (c m : List Byte) (hi : k.id.length = 16) (hc : c.length = 32)
    (ht : p.type < 2 ^ 32) (ho : p.ots < 2 ^ 32) (hq : q < 2 ^ p.height) (hh : p.height ≤ 32) : p.verifies (k.public p) m (k.sign p q c m) = true := by
  have hq32 : q < 2 ^ 32 := Nat.lt_of_lt_of_le hq (Nat.pow_le_pow_right (by decide) hh)
  have hu (v : Nat) : (u32str v).length = 4 := u32str_length v
  have hroot : (k.node p p.height 1).length = 32 := node_length _ _ _ _
  let w := p.message k.id q c m
  let ys := (List.range p.chains).flatMap (fun i => k.chain q i (p.digit w i))
  have hys : ys.length = 32 * p.chains := flatMap_length _ (fun _ => chain_length _ _ _ _) _
  have hsig : k.sign p q c m = u32str q ++ (u32str p.ots ++ (c ++ (ys ++ (u32str p.type ++ k.path p q)))) := by
    simp only [LmsKey.sign, List.append_assoc, w, ys]
  have hkey : k.public p = u32str p.type ++ (u32str p.ots ++ (k.id ++ k.node p p.height 1)) := by
    simp only [LmsKey.public, List.append_assoc]
  have k8 : cutBytes (k.public p) 8 16 = k.id := by
    rw [hkey, cutBytes_append _ _ _ _ (by simp [hu]), cutBytes_append _ _ _ _ (by simp [hu])]
    simp only [hu]
    exact cutBytes_left _ _ _ hi
  have k24 : cutBytes (k.public p) 24 32 = k.node p p.height 1 := by
    rw [hkey, cutBytes_append _ _ _ _ (by simp [hu]), cutBytes_append _ _ _ _ (by simp [hu]), cutBytes_append _ _ _ _ (by simp [hu, hi])]
    simp only [hu, hi]
    exact cutBytes_whole _ _ hroot
  have k4 : wordBE (k.public p) 4 = p.ots := by
    rw [hkey, wordBE_append _ _ _ (by simp [hu]), hu]
    exact wordBE_left _ _ ho
  have s4 : wordBE (k.sign p q c m) 4 = p.ots := by
    rw [hsig, wordBE_append _ _ _ (by simp [hu]), hu]
    exact wordBE_left _ _ ho
  have s8 : cutBytes (k.sign p q c m) 8 32 = c := by
    rw [hsig, cutBytes_append _ _ _ _ (by simp [hu]), cutBytes_append _ _ _ _ (by simp [hu])]
    simp only [hu]
    exact cutBytes_left _ _ _ hc
  have s40 (i : Nat) (hl : i < p.chains) : cutBytes (k.sign p q c m) (40 + 32 * i) 32 = k.chain q i (p.digit w i) := by
    rw [hsig, cutBytes_append _ _ _ _ (by simp [hu]; omega), cutBytes_append _ _ _ _ (by simp [hu]; omega),
      cutBytes_append _ _ _ _ (by simp [hu, hc]; omega)]
    simp only [hu, hc]
    rw [show 40 + 32 * i - 4 - 4 - 32 = 32 * i by omega]
    exact cutBytes_flatMap _ (fun _ => chain_length _ _ _ _) _ _ _ hl
  have sty : wordBE (k.sign p q c m) (4 + p.otsLen) = p.type := by
    unfold LmsSet.otsLen
    rw [hsig, wordBE_append _ _ _ (by simp [hu]), wordBE_append _ _ _ (by simp [hu]; omega), wordBE_append _ _ _ (by simp [hu, hc]; omega),
      wordBE_append _ _ _ (by simp [hu, hc, hys]; omega)]
    simp only [hu, hc, hys]
    rw [show 4 + (36 + 32 * p.chains) - 4 - 4 - 32 - 32 * p.chains = 0 by omega]
    exact wordBE_left _ _ ht
  have sdrop : (k.sign p q c m).drop (8 + p.otsLen) = k.path p q := by
    rw [hsig]
    simp only [← List.append_assoc]
    exact List.drop_left' (by simp [hu, hc, hys, LmsSet.otsLen]; omega)
  have slen : (k.sign p q c m).length = p.sigLen := sign_length k p q c m hc
  have klen : (k.public p).length = lmsKeyLen := public_length k p hi
  have s0 : wordBE (k.sign p q c m) 0 = q := by rw [hsig]; exact wordBE_left _ _ hq32
  have k0 : wordBE (k.public p) 0 = p.type := by rw [hkey]; exact wordBE_left _ _ ht
  have hends : (List.range p.chains).map (fun i => chainStep k.id q i (2 ^ p.width - 1 - p.digit w i) (p.digit w i)
        (cutBytes (k.sign p q c m) (40 + 32 * i) 32)) = (List.range p.chains).map (fun i => k.chain q i (2 ^ p.width - 1)) := by
    refine List.map_congr_left (fun i hl => ?_)
    rw [s40 i (List.mem_range.1 hl)]
    have := chainStep_add k.id q i (p.digit w i) (2 ^ p.width - 1 - p.digit w i) 0 (k.chainStart q i)
    rw [Nat.zero_add] at this
    have hd := digit_lt p w i
    rw [show p.digit w i + (2 ^ p.width - 1 - p.digit w i) = 2 ^ p.width - 1 by omega] at this
    exact this
  have hclimb := climb_node k p (2 ^ p.height + q) p.height 0
  have htop : (2 ^ p.height + q) / 2 ^ p.height = 1 := by
    rw [Nat.add_div_left _ (Nat.two_pow_pos _), Nat.div_eq_of_lt hq]
  rw [Nat.zero_add, htop, Nat.pow_zero, Nat.div_one, ← List.range_eq_range'] at hclimb
  have hleaf : k.node p 0 (2 ^ p.height + q) = lmsLeaf k.id (2 ^ p.height + q)
      (otsKey k.id q ((List.range p.chains).map (fun i => k.chain q i (2 ^ p.width - 1)))) := by
    simp only [LmsKey.node, Nat.add_sub_cancel_left]
  unfold LmsSet.verifies
  simp only [k8, k24, k4, k0, s0, s4, s8, sty, sdrop, slen, klen, hq, decide_true, Bool.and_self, Bool.true_and, decide_eq_true_eq]
  rw [hends, ← hleaf]
  exact hclimb

/-- An HSS signature of two levels verifies under the level-0 public key (RFC 8554, section 6). -/
theorem hss_verifies (k t : LmsKey) (p : LmsSet) (q j : Nat) (c d m : List Byte) (hi : k.id.length = 16) (hj : t.id.length = 16)
    (hc : c.length = 32) (hd : d.length = 32) (ht : p.type < 2 ^ 32) (ho : p.ots < 2 ^ 32) (hq : q < 2 ^ p.height) (hr : j < 2 ^ p.height)
    (hh : p.height ≤ 32) :
    p.hssVerifies (u32str 2 ++ k.public p) m (u32str 1 ++ k.sign p j c (t.public p) ++ t.public p ++ t.sign p q d m) = true := by
  have hu (v : Nat) : (u32str v).length = 4 := u32str_length v
  have klen (x : LmsKey) (h : x.id.length = 16) : (x.public p).length = lmsKeyLen := public_length x p h
  have slen (x : LmsKey) (q : Nat) (c m : List Byte) (h : c.length = 32) : (x.sign p q c m).length = p.sigLen := sign_length x p q c m h
  have hmid : cutBytes (u32str 1 ++ k.sign p j c (t.public p) ++ t.public p ++ t.sign p q d m) (4 + p.sigLen) lmsKeyLen = t.public p := by
    rw [List.append_assoc, cutBytes_append _ _ _ _ (by simp [hu, slen k j c _ hc])]
    simp only [List.length_append, hu, slen k j c _ hc, Nat.sub_self]
    exact cutBytes_left _ _ _ (klen t hj)
  have h0 : cutBytes (u32str 1 ++ k.sign p j c (t.public p) ++ t.public p ++ t.sign p q d m) 4 p.sigLen = k.sign p j c (t.public p) := by
    simp only [List.append_assoc]
    rw [cutBytes_append _ _ _ _ (by simp [hu]), hu, Nat.sub_self]
    exact cutBytes_left _ _ _ (slen k j c _ hc)
  have h1 : (u32str 1 ++ k.sign p j c (t.public p) ++ t.public p ++ t.sign p q d m).drop (4 + p.sigLen + lmsKeyLen) = t.sign p q d m :=
    List.drop_left' (by simp only [List.length_append, hu, slen k j c _ hc, klen t hj])
  have hl : wordBE (u32str 1 ++ k.sign p j c (t.public p) ++ t.public p ++ t.sign p q d m) 0 = 1 := by
    simp only [List.append_assoc]
    exact wordBE_left _ _ (by decide)
  unfold LmsSet.hssVerifies
  simp only [hmid, h0, h1, hl, List.drop_left' (hu 2), wordBE_left 2 _ (by decide : 2 < 2 ^ 32), lms_verifies k p j c _ hi hc ht ho hr hh,
    lms_verifies t p q d m hj hd ht ho hq hh, List.length_append, hu, klen k hi, decide_true, Bool.and_self]

theorem fitBytes_length (n : Nat) (bs : List Byte) : (fitBytes n bs).length = n := by
  simp [fitBytes]
/-- The signatures of the identity key verify, and are 5,716 bytes (R446, R447). -/
theorem identity_verifies (k : LmsKey) (q : Nat) (m : List Byte) (hi : k.id.length = 16) (hq : q < 2 ^ 40) :
    lmsIdentity.hssVerifies k.hssPublic m (k.hssSign q m) = true :=
  hss_verifies k (k.child (q / 2 ^ 20)) lmsIdentity (q % 2 ^ 20) (q / 2 ^ 20) _ _ m hi (fitBytes_length _ _) (fitBytes_length _ _)
    (fitBytes_length _ _) (by decide) (by decide) (Nat.mod_lt _ (by decide)) (show q / 2 ^ 20 < 2 ^ 20 by omega) (by decide)
theorem hssSign_length (k : LmsKey) (q : Nat) (m : List Byte) : (k.hssSign q m).length = 5716 := by
  simp only [LmsKey.hssSign, List.length_append, u32str_length, sign_length _ _ _ _ _ (fitBytes_length 32 _),
    public_length (k.child _) _ (fitBytes_length 16 _)]
  rfl

end Sys2Proof.Machine
end

