-- ==== Sys2Proof/Laws/Map.lean ====
section
/-! SUPPORT. The laws of sparse tables: what a write does to a read, and that every operation keeps the canonical form. -/

namespace Sys2Proof.Machine

variable {α : Type}

@[simp] theorem mfind_nil (k : Nat) : mfind ([] : Map α) k = none := rfl

theorem mfind_mdel (m : Map α) (k j : Nat) : mfind (mdel m k) j = if j = k then none else mfind m j := by
  induction m with
  | nil => simp [mdel, mfind]
  | cons e m ih =>
    obtain ⟨k', v⟩ := e
    by_cases h : k' = k
    · subst h
      by_cases hj : j = k'
      · subst hj
        simpa [mdel] using ih
      · simp [mdel, ih, hj, mfind, Ne.symm hj]
    · by_cases hj : k' = j
      · subst hj
        simp [mdel, h, mfind]
      · simp [mdel, h, mfind, hj, ih]

theorem mfind_mins (m : Map α) (k j : Nat) (v : α) (h : mfind m k = none) :
    mfind (mins m k v) j = if j = k then some v else mfind m j := by
  induction m with
  | nil => by_cases hj : k = j <;> simp [mins, mfind, hj, eq_comm]
  | cons e m ih =>
    obtain ⟨k', v'⟩ := e
    have hk : k' ≠ k := by
      rintro rfl
      simp [mfind] at h
    have hm : mfind m k = none := by simpa [mfind, hk] using h
    by_cases hl : k < k'
    · by_cases hj : k = j
      · subst hj
        simp [mins, hl, mfind]
      · simp [mins, hl, mfind, hj, Ne.symm hj]
    · by_cases hj : k' = j
      · subst hj
        simp [mins, hl, mfind, hk]
      · simp [mins, hl, mfind, hj, ih hm]

theorem mfind_mput (m : Map α) (k j : Nat) (v : α) : mfind (mput m k v) j = if j = k then some v else mfind m j := by
  unfold mput
  rw [mfind_mins _ _ _ _ (by simp [mfind_mdel]), mfind_mdel]
  by_cases h : j = k <;> simp [h]

theorem mdel_mdel (m : Map α) (k : Nat) : mdel (mdel m k) k = mdel m k := by
  induction m with
  | nil => rfl
  | cons e m ih =>
    obtain ⟨k', v⟩ := e
    by_cases h : k' = k <;> simp [mdel, h, ih]

theorem mdel_mins (m : Map α) (k : Nat) (v : α) : mdel (mins m k v) k = mdel m k := by
  induction m with
  | nil => simp [mins, mdel]
  | cons e m ih =>
    obtain ⟨k', v'⟩ := e
    by_cases hl : k < k'
    · simp [mins, hl, mdel]
    · by_cases h : k' = k <;> simp [mins, hl, mdel, h, ih]

/-- Of two writes of one key the later stands. -/
@[simp] theorem mset_mset [DecidableEq α] (d : Nat → α) (m : Map α) (k : Nat) (v w : α) :
    mset d (mset d m k v) k w = mset d m k w := by
  unfold mset mput
  by_cases hv : v = d k <;> by_cases hw : w = d k <;> simp [hv, hw, mdel_mdel, mdel_mins]

theorem mget_mput (d : Nat → α) (m : Map α) (k j : Nat) (v : α) :
    mget d (mput m k v) j = if j = k then v else mget d m j := by
  by_cases h : j = k <;> simp [mget, mfind_mput, h]

theorem mget_mdel (d : Nat → α) (m : Map α) (k j : Nat) :
    mget d (mdel m k) j = if j = k then d k else mget d m j := by
  by_cases h : j = k <;> simp [mget, mfind_mdel, h]

/-- A write followed by a read. -/
theorem mget_mset [DecidableEq α] (d : Nat → α) (m : Map α) (k j : Nat) (v : α) :
    mget d (mset d m k v) j = if j = k then v else mget d m j := by
  unfold mset
  split
  · next h => rw [mget_mdel, h]
  · rw [mget_mput]

@[simp] theorem mget_mset_same [DecidableEq α] (d : Nat → α) (m : Map α) (k : Nat) (v : α) :
    mget d (mset d m k v) k = v := by
  simp [mget_mset]

theorem mget_mset_ne [DecidableEq α] (d : Nat → α) (m : Map α) (k j : Nat) (v : α) (h : j ≠ k) :
    mget d (mset d m k v) j = mget d m j := by
  simp [mget_mset, h]

/-! ### The canonical form -/

/-- Every key of `m` is above `lo`. -/
def mabove (lo : Nat) (m : Map α) : Bool := mrising (some lo) m

theorem mrising_some_iff (lo : Nat) (k : Nat) (v : α) (m : Map α) :
    mrising (some lo) ((k, v) :: m) = true ↔ lo < k ∧ mrising (some k) m = true := by
  simp [mrising]

theorem mrising_weaken (m : Map α) {a b : Nat} (h : a ≤ b) (hm : mrising (some b) m = true) :
    mrising (some a) m = true := by
  cases m with
  | nil => rfl
  | cons e m =>
    obtain ⟨k, v⟩ := e
    rw [mrising_some_iff] at *
    exact ⟨by omega, hm.2⟩

theorem mrising_none (m : Map α) {a : Nat} (hm : mrising (some a) m = true) : mrising none m = true := by
  cases m with
  | nil => rfl
  | cons e m =>
    obtain ⟨k, v⟩ := e
    rw [mrising_some_iff] at hm
    simpa [mrising] using hm.2

theorem mrising_mdel (m : Map α) (k : Nat) (lo : Option Nat) (h : mrising lo m = true) :
    mrising lo (mdel m k) = true := by
  induction m generalizing lo with
  | nil => rfl
  | cons e m ih =>
    obtain ⟨k', v⟩ := e
    have h2 : mrising (some k') m = true := by
      cases lo <;> simp [mrising] at h <;> simp [h]
    by_cases hk : k' = k
    · rw [mdel, if_pos hk]
      apply ih
      cases lo with
      | none => exact mrising_none m h2
      | some l => exact mrising_weaken m (Nat.le_of_lt ((mrising_some_iff _ _ _ _).1 h).1) h2
    · rw [mdel, if_neg hk]
      have := ih (some k') h2
      cases lo with
      | none => simpa [mrising] using this
      | some l => exact (mrising_some_iff _ _ _ _).2 ⟨((mrising_some_iff _ _ _ _).1 h).1, this⟩

theorem mrising_mins (m : Map α) (k : Nat) (v : α) (lo : Option Nat) (hlo : ∀ l, lo = some l → l < k)
    (hk : mfind m k = none) (h : mrising lo m = true) : mrising lo (mins m k v) = true := by
  induction m generalizing lo with
  | nil => cases lo <;> simp_all [mins, mrising]
  | cons e m ih =>
    obtain ⟨k', v'⟩ := e
    have hne : k' ≠ k := by
      rintro rfl
      simp [mfind] at hk
    have hm : mfind m k = none := by simpa [mfind, hne] using hk
    have h2 : mrising (some k') m = true := by
      cases lo <;> simp [mrising] at h <;> simp [h]
    by_cases hl : k < k'
    · rw [mins, if_pos hl]
      cases lo <;> simp_all [mrising]
    · rw [mins, if_neg hl]
      have := ih (some k') (by intro l hl; cases hl; omega) hm h2
      cases lo <;> simp_all [mrising]

theorem mrising_mput (m : Map α) (k : Nat) (v : α) (h : mrising none m = true) : mrising none (mput m k v) = true :=
  mrising_mins _ k v none (by intro l hl; cases hl) (by simp [mfind_mdel]) (mrising_mdel m k none h)

theorem mem_mdel (m : Map α) (k : Nat) (e : Nat × α) (h : e ∈ mdel m k) : e ∈ m := by
  induction m with
  | nil => exact h
  | cons a m ih =>
    obtain ⟨k', v⟩ := a
    unfold mdel at h
    split at h
    · exact List.mem_cons_of_mem _ (ih h)
    · rcases List.mem_cons.1 h with h | h
      · exact h ▸ List.mem_cons_self
      · exact List.mem_cons_of_mem _ (ih h)

theorem mem_mins (m : Map α) (k : Nat) (v : α) (e : Nat × α) (h : e ∈ mins m k v) : e = (k, v) ∨ e ∈ m := by
  induction m with
  | nil => simpa [mins] using h
  | cons a m ih =>
    obtain ⟨k', v'⟩ := a
    unfold mins at h
    split at h
    · simpa using h
    · rcases List.mem_cons.1 h with h | h
      · exact .inr (h ▸ List.mem_cons_self)
      · rcases ih h with h | h
        · exact .inl h
        · exact .inr (List.mem_cons_of_mem _ h)

theorem mem_mput (m : Map α) (k : Nat) (v : α) (e : Nat × α) (h : e ∈ mput m k v) : e = (k, v) ∨ e ∈ m := by
  rcases mem_mins _ k v e h with h | h
  · exact .inl h
  · exact .inr (mem_mdel m k e h)

theorem mwf_iff [DecidableEq α] (d : Nat → α) (m : Map α) :
    mwf d m = true ↔ mrising none m = true ∧ ∀ e ∈ m, e.2 ≠ d e.1 := by
  simp [mwf]

@[simp] theorem mwf_nil [DecidableEq α] (d : Nat → α) : mwf d [] = true := rfl

theorem mwf_mdel [DecidableEq α] (d : Nat → α) (m : Map α) (k : Nat) (h : mwf d m = true) :
    mwf d (mdel m k) = true := by
  rw [mwf_iff] at *
  exact ⟨mrising_mdel m k none h.1, fun e he => h.2 e (mem_mdel m k e he)⟩

/-- A write keeps the canonical form. -/
theorem mwf_mset [DecidableEq α] (d : Nat → α) (m : Map α) (k : Nat) (v : α) (h : mwf d m = true) :
    mwf d (mset d m k v) = true := by
  unfold mset
  split
  · exact mwf_mdel d m k h
  · next hv =>
    rw [mwf_iff] at *
    refine ⟨mrising_mput m k v h.1, fun e he => ?_⟩
    rcases mem_mput m k v e he with rfl | he
    · exact hv
    · exact h.2 e he

theorem mrising_mupd [DecidableEq α] (d : Nat → α) (f : Nat → α → α) (m : Map α) (lo : Option Nat)
    (h : mrising lo m = true) : mrising lo (mupd d f m) = true := by
  induction m generalizing lo with
  | nil => rfl
  | cons e m ih =>
    obtain ⟨k', v⟩ := e
    have h2 : mrising (some k') m = true := by
      cases lo <;> simp [mrising] at h <;> simp [h]
    unfold mupd
    split
    · apply ih
      cases lo with
      | none => exact mrising_none m h2
      | some l => exact mrising_weaken m (Nat.le_of_lt ((mrising_some_iff _ _ _ _).1 h).1) h2
    · have := ih (some k') h2
      cases lo <;> simp_all [mrising]

/-- An update of every listed value keeps the canonical form. -/
theorem mwf_mupd [DecidableEq α] (d : Nat → α) (f : Nat → α → α) (m : Map α) (h : mwf d m = true) :
    mwf d (mupd d f m) = true := by
  rw [mwf_iff] at *
  refine ⟨mrising_mupd d f m none h.1, ?_⟩
  have key : ∀ m : Map α, ∀ e ∈ mupd d f m, e.2 ≠ d e.1 := by
    intro m
    induction m with
    | nil => intro e he; cases he
    | cons a m ih =>
      obtain ⟨k, v⟩ := a
      intro e he
      unfold mupd at he
      split at he
      · exact ih e he
      · next hv =>
        rcases List.mem_cons.1 he with rfl | he
        · exact hv
        · exact ih e he
  exact key m

theorem mrising_filter (p : Nat × α → Bool) (m : Map α) (lo : Option Nat) (h : mrising lo m = true) :
    mrising lo (m.filter p) = true := by
  induction m generalizing lo with
  | nil => rfl
  | cons e m ih =>
    obtain ⟨k', v⟩ := e
    have h2 : mrising (some k') m = true := by
      cases lo <;> simp [mrising] at h <;> simp [h]
    rw [List.filter_cons]
    split
    · have := ih (some k') h2
      cases lo <;> simp_all [mrising]
    · apply ih
      cases lo with
      | none => exact mrising_none m h2
      | some l => exact mrising_weaken m (Nat.le_of_lt ((mrising_some_iff _ _ _ _).1 h).1) h2

/-- Leaving entries out keeps the canonical form. -/
theorem mwf_filter [DecidableEq α] (d : Nat → α) (p : Nat × α → Bool) (m : Map α) (h : mwf d m = true) :
    mwf d (m.filter p) = true := by
  rw [mwf_iff] at *
  exact ⟨mrising_filter p m none h.1, fun e he => h.2 e (List.mem_filter.1 he).1⟩

end Sys2Proof.Machine
end

