-- ==== Sys2Proof/Laws/State.lean ====
section
/-! SUPPORT. The laws of the state's updates: what each setter leaves of each field, and what a read of a unit, of an
object or of a byte gives after it. -/

namespace Sys2Proof.Machine

variable (s : State)

@[simp] theorem State.modCore_eq (c : Nat) (f : Core → Core) : s.modCore c f = s.setCore c (f (s.core c)) := rfl
@[simp] theorem State.modCluster_eq (c : Nat) (f : Cluster → Cluster) : s.modCluster c f = s.setCluster c (f (s.cluster c)) := rfl
@[simp] theorem State.modDomain_eq (c : Nat) (f : Domain → Domain) : s.modDomain c f = s.setDomain c (f (s.domain c)) := rfl
@[simp] theorem State.modPlinth_eq (c : Nat) (f : Plinth → Plinth) : s.modPlinth c f = s.setPlinth c (f (s.plinth c)) := rfl
@[simp] theorem State.modSaddle_eq (c : Nat) (f : Saddle → Saddle) : s.modSaddle c f = s.setSaddle c (f (s.saddle c)) := rfl
@[simp] theorem State.modLink_eq (c : Nat) (f : Link → Link) : s.modLink c f = s.setLink c (f (s.link c)) := rfl

/-! ### setCore -/

@[simp] theorem State.setCore_pending (c : Nat) (k : Core) : (s.setCore c k).pending = s.pending := rfl
@[simp] theorem State.setCore_fresh (c : Nat) (k : Core) : (s.setCore c k).fresh = s.fresh := rfl
@[simp] theorem State.setCore_nextId (c : Nat) (k : Core) : (s.setCore c k).nextId = s.nextId := rfl
@[simp] theorem State.setCore_clusters (c : Nat) (k : Core) : (s.setCore c k).clusters = s.clusters := rfl
@[simp] theorem State.setCore_domains (c : Nat) (k : Core) : (s.setCore c k).domains = s.domains := rfl
@[simp] theorem State.setCore_plinths (c : Nat) (k : Core) : (s.setCore c k).plinths = s.plinths := rfl
@[simp] theorem State.setCore_saddles (c : Nat) (k : Core) : (s.setCore c k).saddles = s.saddles := rfl
@[simp] theorem State.setCore_cairns (c : Nat) (k : Core) : (s.setCore c k).cairns = s.cairns := rfl
@[simp] theorem State.setCore_dram (c : Nat) (k : Core) : (s.setCore c k).dram = s.dram := rfl
@[simp] theorem State.setCore_poison (c : Nat) (k : Core) : (s.setCore c k).poison = s.poison := rfl
@[simp] theorem State.setCore_dramBad (c : Nat) (k : Core) : (s.setCore c k).dramBad = s.dramBad := rfl
@[simp] theorem State.setCore_dramSoft (c : Nat) (k : Core) : (s.setCore c k).dramSoft = s.dramSoft := rfl
@[simp] theorem State.setCore_reqs (c : Nat) (k : Core) : (s.setCore c k).reqs = s.reqs := rfl
@[simp] theorem State.setCore_answers (c : Nat) (k : Core) : (s.setCore c k).answers = s.answers := rfl
@[simp] theorem State.setCore_resend (c : Nat) (k : Core) : (s.setCore c k).resend = s.resend := rfl
@[simp] theorem State.setCore_epochHeld (c : Nat) (k : Core) : (s.setCore c k).epochHeld = s.epochHeld := rfl
@[simp] theorem State.setCore_remote (c : Nat) (k : Core) : (s.setCore c k).remote = s.remote := rfl
@[simp] theorem State.setCore_links (c : Nat) (k : Core) : (s.setCore c k).links = s.links := rfl
@[simp] theorem State.setCore_host (c : Nat) (k : Core) : (s.setCore c k).host = s.host := rfl
@[simp] theorem State.setCore_recovs (c : Nat) (k : Core) : (s.setCore c k).recovs = s.recovs := rfl
@[simp] theorem State.setCore_faultSeq (c : Nat) (k : Core) : (s.setCore c k).faultSeq = s.faultSeq := rfl
@[simp] theorem State.setCore_power (c : Nat) (k : Core) : (s.setCore c k).power = s.power := rfl
@[simp] theorem State.setCore_dict (c : Nat) (k : Core) : (s.setCore c k).dict = s.dict := rfl
@[simp] theorem State.setCore_inUse (c : Nat) (k : Core) : (s.setCore c k).inUse = s.inUse := rfl
@[simp] theorem State.setCore_sessions (c : Nat) (k : Core) : (s.setCore c k).sessions = s.sessions := rfl
@[simp] theorem State.setCore_holder (c : Nat) (k : Core) : (s.setCore c k).holder = s.holder := rfl
@[simp] theorem State.setCore_holderWord (c : Nat) (k : Core) : (s.setCore c k).holderWord = s.holderWord := rfl
@[simp] theorem State.setCore_lease (c : Nat) (k : Core) : (s.setCore c k).lease = s.lease := rfl
@[simp] theorem State.setCore_mailboxes (c : Nat) (k : Core) : (s.setCore c k).mailboxes = s.mailboxes := rfl
@[simp] theorem State.setCore_replies (c : Nat) (k : Core) : (s.setCore c k).replies = s.replies := rfl
@[simp] theorem State.setCore_netSent (c : Nat) (k : Core) : (s.setCore c k).netSent = s.netSent := rfl
@[simp] theorem State.setCore_mgrSent (c : Nat) (k : Core) : (s.setCore c k).mgrSent = s.mgrSent := rfl
@[simp] theorem State.setCore_flash (c : Nat) (k : Core) : (s.setCore c k).flash = s.flash := rfl
@[simp] theorem State.setCore_fuses (c : Nat) (k : Core) : (s.setCore c k).fuses = s.fuses := rfl
@[simp] theorem State.setCore_bist (c : Nat) (k : Core) : (s.setCore c k).bist = s.bist := rfl
@[simp] theorem State.setCore_halted (c : Nat) (k : Core) : (s.setCore c k).halted = s.halted := rfl
@[simp] theorem State.setCore_signQ (c : Nat) (k : Core) : (s.setCore c k).signQ = s.signQ := rfl
@[simp] theorem State.setCore_signWait (c : Nat) (k : Core) : (s.setCore c k).signWait = s.signWait := rfl
@[simp] theorem State.setCore_treeDue (c : Nat) (k : Core) : (s.setCore c k).treeDue = s.treeDue := rfl
@[simp] theorem State.setCore_heldDebug (c : Nat) (k : Core) : (s.setCore c k).heldDebug = s.heldDebug := rfl
@[simp] theorem State.setCore_linksUp (c : Nat) (k : Core) : (s.setCore c k).linksUp = s.linksUp := rfl
@[simp] theorem State.setCore_members (c : Nat) (k : Core) : (s.setCore c k).members = s.members := rfl
@[simp] theorem State.setCore_leaving (c : Nat) (k : Core) : (s.setCore c k).leaving = s.leaving := rfl
@[simp] theorem State.setCore_epochTable (c : Nat) (k : Core) : (s.setCore c k).epochTable = s.epochTable := rfl
@[simp] theorem State.setCore_reports (c : Nat) (k : Core) : (s.setCore c k).reports = s.reports := rfl
@[simp] theorem State.setCore_joining (c : Nat) (k : Core) : (s.setCore c k).joining = s.joining := rfl
@[simp] theorem State.setCore_routeWait (c : Nat) (k : Core) : (s.setCore c k).routeWait = s.routeWait := rfl
@[simp] theorem State.setCore_lost (c : Nat) (k : Core) : (s.setCore c k).lost = s.lost := rfl
@[simp] theorem State.setCore_sumWait (c : Nat) (k : Core) : (s.setCore c k).sumWait = s.sumWait := rfl
@[simp] theorem State.setCore_restores (c : Nat) (k : Core) : (s.setCore c k).restores = s.restores := rfl
@[simp] theorem State.setCore_restored (c : Nat) (k : Core) : (s.setCore c k).restored = s.restored := rfl
@[simp] theorem State.setCore_abandoned (c : Nat) (k : Core) : (s.setCore c k).abandoned = s.abandoned := rfl
@[simp] theorem State.setCore_parked (c : Nat) (k : Core) : (s.setCore c k).parked = s.parked := rfl
@[simp] theorem State.setCore_refugePorts (c : Nat) (k : Core) : (s.setCore c k).refugePorts = s.refugePorts := rfl
@[simp] theorem State.setCore_refugeRest (c : Nat) (k : Core) : (s.setCore c k).refugeRest = s.refugeRest := rfl
@[simp] theorem State.setCore_refuge (c : Nat) (k : Core) : (s.setCore c k).refuge = s.refuge := rfl
@[simp] theorem State.setCore_saveDir (c : Nat) (k : Core) : (s.setCore c k).saveDir = s.saveDir := rfl

@[simp] theorem State.setCore_setCore (c : Nat) (k : Core) (w : Core) :
    (s.setCore c k).setCore c w = s.setCore c w := by
  simp [State.setCore]

theorem State.setCore_core (c : Nat) (k : Core) (j : Nat) : (s.setCore c k).core j = if j = c then k else s.core j :=
  mget_mset coreDef s.cores c j k

@[simp] theorem State.setCore_core_same (c : Nat) (k : Core) : (s.setCore c k).core c = k :=
  mget_mset_same coreDef s.cores c k

theorem State.setCore_core_ne (c : Nat) (k : Core) (j : Nat) (h : j ≠ c) : (s.setCore c k).core j = s.core j :=
  mget_mset_ne coreDef s.cores c j k h

@[simp] theorem State.setCore_cluster_frame (c : Nat) (k : Core) (j : Nat) : (s.setCore c k).cluster j = s.cluster j := rfl
@[simp] theorem State.setCore_domain_frame (c : Nat) (k : Core) (j : Nat) : (s.setCore c k).domain j = s.domain j := rfl
@[simp] theorem State.setCore_plinth_frame (c : Nat) (k : Core) (j : Nat) : (s.setCore c k).plinth j = s.plinth j := rfl
@[simp] theorem State.setCore_saddle_frame (c : Nat) (k : Core) (j : Nat) : (s.setCore c k).saddle j = s.saddle j := rfl
@[simp] theorem State.setCore_cairn_frame (c : Nat) (k : Core) (j : Nat) : (s.setCore c k).cairn j = s.cairn j := rfl
@[simp] theorem State.setCore_link_frame (c : Nat) (k : Core) (j : Nat) : (s.setCore c k).link j = s.link j := rfl
@[simp] theorem State.setCore_session_frame (c : Nat) (k : Core) (j : Nat) : (s.setCore c k).session j = s.session j := rfl
@[simp] theorem State.setCore_mailbox_frame (c : Nat) (k : Core) (j : Nat) : (s.setCore c k).mailbox j = s.mailbox j := rfl
@[simp] theorem State.setCore_obj (c : Nat) (k : Core) (x y : Nat) : (s.setCore c k).obj x y = s.obj x y := rfl
@[simp] theorem State.setCore_byte (c : Nat) (k : Core) (j : Nat) : (s.setCore c k).byte j = s.byte j := rfl
@[simp] theorem State.setCore_beat (c : Nat) (k : Core) (j : Nat) : (s.setCore c k).beat j = s.beat j := rfl

/-! ### setCluster -/

@[simp] theorem State.setCluster_pending (k : Nat) (v : Cluster) : (s.setCluster k v).pending = s.pending := rfl
@[simp] theorem State.setCluster_fresh (k : Nat) (v : Cluster) : (s.setCluster k v).fresh = s.fresh := rfl
@[simp] theorem State.setCluster_nextId (k : Nat) (v : Cluster) : (s.setCluster k v).nextId = s.nextId := rfl
@[simp] theorem State.setCluster_cores (k : Nat) (v : Cluster) : (s.setCluster k v).cores = s.cores := rfl
@[simp] theorem State.setCluster_domains (k : Nat) (v : Cluster) : (s.setCluster k v).domains = s.domains := rfl
@[simp] theorem State.setCluster_plinths (k : Nat) (v : Cluster) : (s.setCluster k v).plinths = s.plinths := rfl
@[simp] theorem State.setCluster_saddles (k : Nat) (v : Cluster) : (s.setCluster k v).saddles = s.saddles := rfl
@[simp] theorem State.setCluster_cairns (k : Nat) (v : Cluster) : (s.setCluster k v).cairns = s.cairns := rfl
@[simp] theorem State.setCluster_dram (k : Nat) (v : Cluster) : (s.setCluster k v).dram = s.dram := rfl
@[simp] theorem State.setCluster_poison (k : Nat) (v : Cluster) : (s.setCluster k v).poison = s.poison := rfl
@[simp] theorem State.setCluster_dramBad (k : Nat) (v : Cluster) : (s.setCluster k v).dramBad = s.dramBad := rfl
@[simp] theorem State.setCluster_dramSoft (k : Nat) (v : Cluster) : (s.setCluster k v).dramSoft = s.dramSoft := rfl
@[simp] theorem State.setCluster_reqs (k : Nat) (v : Cluster) : (s.setCluster k v).reqs = s.reqs := rfl
@[simp] theorem State.setCluster_answers (k : Nat) (v : Cluster) : (s.setCluster k v).answers = s.answers := rfl
@[simp] theorem State.setCluster_resend (k : Nat) (v : Cluster) : (s.setCluster k v).resend = s.resend := rfl
@[simp] theorem State.setCluster_epochHeld (k : Nat) (v : Cluster) : (s.setCluster k v).epochHeld = s.epochHeld := rfl
@[simp] theorem State.setCluster_remote (k : Nat) (v : Cluster) : (s.setCluster k v).remote = s.remote := rfl
@[simp] theorem State.setCluster_links (k : Nat) (v : Cluster) : (s.setCluster k v).links = s.links := rfl
@[simp] theorem State.setCluster_host (k : Nat) (v : Cluster) : (s.setCluster k v).host = s.host := rfl
@[simp] theorem State.setCluster_recovs (k : Nat) (v : Cluster) : (s.setCluster k v).recovs = s.recovs := rfl
@[simp] theorem State.setCluster_faultSeq (k : Nat) (v : Cluster) : (s.setCluster k v).faultSeq = s.faultSeq := rfl
@[simp] theorem State.setCluster_power (k : Nat) (v : Cluster) : (s.setCluster k v).power = s.power := rfl
@[simp] theorem State.setCluster_dict (k : Nat) (v : Cluster) : (s.setCluster k v).dict = s.dict := rfl
@[simp] theorem State.setCluster_inUse (k : Nat) (v : Cluster) : (s.setCluster k v).inUse = s.inUse := rfl
@[simp] theorem State.setCluster_sessions (k : Nat) (v : Cluster) : (s.setCluster k v).sessions = s.sessions := rfl
@[simp] theorem State.setCluster_holder (k : Nat) (v : Cluster) : (s.setCluster k v).holder = s.holder := rfl
@[simp] theorem State.setCluster_holderWord (k : Nat) (v : Cluster) : (s.setCluster k v).holderWord = s.holderWord := rfl
@[simp] theorem State.setCluster_lease (k : Nat) (v : Cluster) : (s.setCluster k v).lease = s.lease := rfl
@[simp] theorem State.setCluster_mailboxes (k : Nat) (v : Cluster) : (s.setCluster k v).mailboxes = s.mailboxes := rfl
@[simp] theorem State.setCluster_replies (k : Nat) (v : Cluster) : (s.setCluster k v).replies = s.replies := rfl
@[simp] theorem State.setCluster_netSent (k : Nat) (v : Cluster) : (s.setCluster k v).netSent = s.netSent := rfl
@[simp] theorem State.setCluster_mgrSent (k : Nat) (v : Cluster) : (s.setCluster k v).mgrSent = s.mgrSent := rfl
@[simp] theorem State.setCluster_flash (k : Nat) (v : Cluster) : (s.setCluster k v).flash = s.flash := rfl
@[simp] theorem State.setCluster_fuses (k : Nat) (v : Cluster) : (s.setCluster k v).fuses = s.fuses := rfl
@[simp] theorem State.setCluster_bist (k : Nat) (v : Cluster) : (s.setCluster k v).bist = s.bist := rfl
@[simp] theorem State.setCluster_halted (k : Nat) (v : Cluster) : (s.setCluster k v).halted = s.halted := rfl
@[simp] theorem State.setCluster_signQ (k : Nat) (v : Cluster) : (s.setCluster k v).signQ = s.signQ := rfl
@[simp] theorem State.setCluster_signWait (k : Nat) (v : Cluster) : (s.setCluster k v).signWait = s.signWait := rfl
@[simp] theorem State.setCluster_treeDue (k : Nat) (v : Cluster) : (s.setCluster k v).treeDue = s.treeDue := rfl
@[simp] theorem State.setCluster_heldDebug (k : Nat) (v : Cluster) : (s.setCluster k v).heldDebug = s.heldDebug := rfl
@[simp] theorem State.setCluster_linksUp (k : Nat) (v : Cluster) : (s.setCluster k v).linksUp = s.linksUp := rfl
@[simp] theorem State.setCluster_members (k : Nat) (v : Cluster) : (s.setCluster k v).members = s.members := rfl
@[simp] theorem State.setCluster_leaving (k : Nat) (v : Cluster) : (s.setCluster k v).leaving = s.leaving := rfl
@[simp] theorem State.setCluster_epochTable (k : Nat) (v : Cluster) : (s.setCluster k v).epochTable = s.epochTable := rfl
@[simp] theorem State.setCluster_reports (k : Nat) (v : Cluster) : (s.setCluster k v).reports = s.reports := rfl
@[simp] theorem State.setCluster_joining (k : Nat) (v : Cluster) : (s.setCluster k v).joining = s.joining := rfl
@[simp] theorem State.setCluster_routeWait (k : Nat) (v : Cluster) : (s.setCluster k v).routeWait = s.routeWait := rfl
@[simp] theorem State.setCluster_lost (k : Nat) (v : Cluster) : (s.setCluster k v).lost = s.lost := rfl
@[simp] theorem State.setCluster_sumWait (k : Nat) (v : Cluster) : (s.setCluster k v).sumWait = s.sumWait := rfl
@[simp] theorem State.setCluster_restores (k : Nat) (v : Cluster) : (s.setCluster k v).restores = s.restores := rfl
@[simp] theorem State.setCluster_restored (k : Nat) (v : Cluster) : (s.setCluster k v).restored = s.restored := rfl
@[simp] theorem State.setCluster_abandoned (k : Nat) (v : Cluster) : (s.setCluster k v).abandoned = s.abandoned := rfl
@[simp] theorem State.setCluster_parked (k : Nat) (v : Cluster) : (s.setCluster k v).parked = s.parked := rfl
@[simp] theorem State.setCluster_refugePorts (k : Nat) (v : Cluster) : (s.setCluster k v).refugePorts = s.refugePorts := rfl
@[simp] theorem State.setCluster_refugeRest (k : Nat) (v : Cluster) : (s.setCluster k v).refugeRest = s.refugeRest := rfl
@[simp] theorem State.setCluster_refuge (k : Nat) (v : Cluster) : (s.setCluster k v).refuge = s.refuge := rfl
@[simp] theorem State.setCluster_saveDir (k : Nat) (v : Cluster) : (s.setCluster k v).saveDir = s.saveDir := rfl

@[simp] theorem State.setCluster_setCluster (k : Nat) (v : Cluster) (w : Cluster) :
    (s.setCluster k v).setCluster k w = s.setCluster k w := by
  simp [State.setCluster]

theorem State.setCluster_cluster (k : Nat) (v : Cluster) (j : Nat) : (s.setCluster k v).cluster j = if j = k then v else s.cluster j :=
  mget_mset clusterDef s.clusters k j v

@[simp] theorem State.setCluster_cluster_same (k : Nat) (v : Cluster) : (s.setCluster k v).cluster k = v :=
  mget_mset_same clusterDef s.clusters k v

theorem State.setCluster_cluster_ne (k : Nat) (v : Cluster) (j : Nat) (h : j ≠ k) : (s.setCluster k v).cluster j = s.cluster j :=
  mget_mset_ne clusterDef s.clusters k j v h

@[simp] theorem State.setCluster_core_frame (k : Nat) (v : Cluster) (j : Nat) : (s.setCluster k v).core j = s.core j := rfl
@[simp] theorem State.setCluster_domain_frame (k : Nat) (v : Cluster) (j : Nat) : (s.setCluster k v).domain j = s.domain j := rfl
@[simp] theorem State.setCluster_plinth_frame (k : Nat) (v : Cluster) (j : Nat) : (s.setCluster k v).plinth j = s.plinth j := rfl
@[simp] theorem State.setCluster_saddle_frame (k : Nat) (v : Cluster) (j : Nat) : (s.setCluster k v).saddle j = s.saddle j := rfl
@[simp] theorem State.setCluster_cairn_frame (k : Nat) (v : Cluster) (j : Nat) : (s.setCluster k v).cairn j = s.cairn j := rfl
@[simp] theorem State.setCluster_link_frame (k : Nat) (v : Cluster) (j : Nat) : (s.setCluster k v).link j = s.link j := rfl
@[simp] theorem State.setCluster_session_frame (k : Nat) (v : Cluster) (j : Nat) : (s.setCluster k v).session j = s.session j := rfl
@[simp] theorem State.setCluster_mailbox_frame (k : Nat) (v : Cluster) (j : Nat) : (s.setCluster k v).mailbox j = s.mailbox j := rfl
@[simp] theorem State.setCluster_obj (k : Nat) (v : Cluster) (x y : Nat) : (s.setCluster k v).obj x y = s.obj x y := rfl
@[simp] theorem State.setCluster_byte (k : Nat) (v : Cluster) (j : Nat) : (s.setCluster k v).byte j = s.byte j := rfl
@[simp] theorem State.setCluster_beat (k : Nat) (v : Cluster) (j : Nat) : (s.setCluster k v).beat j = s.beat j := rfl

/-! ### setDomain -/

@[simp] theorem State.setDomain_pending (d : Nat) (v : Domain) : (s.setDomain d v).pending = s.pending := rfl
@[simp] theorem State.setDomain_fresh (d : Nat) (v : Domain) : (s.setDomain d v).fresh = s.fresh := rfl
@[simp] theorem State.setDomain_nextId (d : Nat) (v : Domain) : (s.setDomain d v).nextId = s.nextId := rfl
@[simp] theorem State.setDomain_cores (d : Nat) (v : Domain) : (s.setDomain d v).cores = s.cores := rfl
@[simp] theorem State.setDomain_clusters (d : Nat) (v : Domain) : (s.setDomain d v).clusters = s.clusters := rfl
@[simp] theorem State.setDomain_plinths (d : Nat) (v : Domain) : (s.setDomain d v).plinths = s.plinths := rfl
@[simp] theorem State.setDomain_saddles (d : Nat) (v : Domain) : (s.setDomain d v).saddles = s.saddles := rfl
@[simp] theorem State.setDomain_cairns (d : Nat) (v : Domain) : (s.setDomain d v).cairns = s.cairns := rfl
@[simp] theorem State.setDomain_dram (d : Nat) (v : Domain) : (s.setDomain d v).dram = s.dram := rfl
@[simp] theorem State.setDomain_poison (d : Nat) (v : Domain) : (s.setDomain d v).poison = s.poison := rfl
@[simp] theorem State.setDomain_dramBad (d : Nat) (v : Domain) : (s.setDomain d v).dramBad = s.dramBad := rfl
@[simp] theorem State.setDomain_dramSoft (d : Nat) (v : Domain) : (s.setDomain d v).dramSoft = s.dramSoft := rfl
@[simp] theorem State.setDomain_reqs (d : Nat) (v : Domain) : (s.setDomain d v).reqs = s.reqs := rfl
@[simp] theorem State.setDomain_answers (d : Nat) (v : Domain) : (s.setDomain d v).answers = s.answers := rfl
@[simp] theorem State.setDomain_resend (d : Nat) (v : Domain) : (s.setDomain d v).resend = s.resend := rfl
@[simp] theorem State.setDomain_epochHeld (d : Nat) (v : Domain) : (s.setDomain d v).epochHeld = s.epochHeld := rfl
@[simp] theorem State.setDomain_remote (d : Nat) (v : Domain) : (s.setDomain d v).remote = s.remote := rfl
@[simp] theorem State.setDomain_links (d : Nat) (v : Domain) : (s.setDomain d v).links = s.links := rfl
@[simp] theorem State.setDomain_host (d : Nat) (v : Domain) : (s.setDomain d v).host = s.host := rfl
@[simp] theorem State.setDomain_recovs (d : Nat) (v : Domain) : (s.setDomain d v).recovs = s.recovs := rfl
@[simp] theorem State.setDomain_faultSeq (d : Nat) (v : Domain) : (s.setDomain d v).faultSeq = s.faultSeq := rfl
@[simp] theorem State.setDomain_power (d : Nat) (v : Domain) : (s.setDomain d v).power = s.power := rfl
@[simp] theorem State.setDomain_dict (d : Nat) (v : Domain) : (s.setDomain d v).dict = s.dict := rfl
@[simp] theorem State.setDomain_inUse (d : Nat) (v : Domain) : (s.setDomain d v).inUse = s.inUse := rfl
@[simp] theorem State.setDomain_sessions (d : Nat) (v : Domain) : (s.setDomain d v).sessions = s.sessions := rfl
@[simp] theorem State.setDomain_holder (d : Nat) (v : Domain) : (s.setDomain d v).holder = s.holder := rfl
@[simp] theorem State.setDomain_holderWord (d : Nat) (v : Domain) : (s.setDomain d v).holderWord = s.holderWord := rfl
@[simp] theorem State.setDomain_lease (d : Nat) (v : Domain) : (s.setDomain d v).lease = s.lease := rfl
@[simp] theorem State.setDomain_mailboxes (d : Nat) (v : Domain) : (s.setDomain d v).mailboxes = s.mailboxes := rfl
@[simp] theorem State.setDomain_replies (d : Nat) (v : Domain) : (s.setDomain d v).replies = s.replies := rfl
@[simp] theorem State.setDomain_netSent (d : Nat) (v : Domain) : (s.setDomain d v).netSent = s.netSent := rfl
@[simp] theorem State.setDomain_mgrSent (d : Nat) (v : Domain) : (s.setDomain d v).mgrSent = s.mgrSent := rfl
@[simp] theorem State.setDomain_flash (d : Nat) (v : Domain) : (s.setDomain d v).flash = s.flash := rfl
@[simp] theorem State.setDomain_fuses (d : Nat) (v : Domain) : (s.setDomain d v).fuses = s.fuses := rfl
@[simp] theorem State.setDomain_bist (d : Nat) (v : Domain) : (s.setDomain d v).bist = s.bist := rfl
@[simp] theorem State.setDomain_halted (d : Nat) (v : Domain) : (s.setDomain d v).halted = s.halted := rfl
@[simp] theorem State.setDomain_signQ (d : Nat) (v : Domain) : (s.setDomain d v).signQ = s.signQ := rfl
@[simp] theorem State.setDomain_signWait (d : Nat) (v : Domain) : (s.setDomain d v).signWait = s.signWait := rfl
@[simp] theorem State.setDomain_treeDue (d : Nat) (v : Domain) : (s.setDomain d v).treeDue = s.treeDue := rfl
@[simp] theorem State.setDomain_heldDebug (d : Nat) (v : Domain) : (s.setDomain d v).heldDebug = s.heldDebug := rfl
@[simp] theorem State.setDomain_linksUp (d : Nat) (v : Domain) : (s.setDomain d v).linksUp = s.linksUp := rfl
@[simp] theorem State.setDomain_members (d : Nat) (v : Domain) : (s.setDomain d v).members = s.members := rfl
@[simp] theorem State.setDomain_leaving (d : Nat) (v : Domain) : (s.setDomain d v).leaving = s.leaving := rfl
@[simp] theorem State.setDomain_epochTable (d : Nat) (v : Domain) : (s.setDomain d v).epochTable = s.epochTable := rfl
@[simp] theorem State.setDomain_reports (d : Nat) (v : Domain) : (s.setDomain d v).reports = s.reports := rfl
@[simp] theorem State.setDomain_joining (d : Nat) (v : Domain) : (s.setDomain d v).joining = s.joining := rfl
@[simp] theorem State.setDomain_routeWait (d : Nat) (v : Domain) : (s.setDomain d v).routeWait = s.routeWait := rfl
@[simp] theorem State.setDomain_lost (d : Nat) (v : Domain) : (s.setDomain d v).lost = s.lost := rfl
@[simp] theorem State.setDomain_sumWait (d : Nat) (v : Domain) : (s.setDomain d v).sumWait = s.sumWait := rfl
@[simp] theorem State.setDomain_restores (d : Nat) (v : Domain) : (s.setDomain d v).restores = s.restores := rfl
@[simp] theorem State.setDomain_restored (d : Nat) (v : Domain) : (s.setDomain d v).restored = s.restored := rfl
@[simp] theorem State.setDomain_abandoned (d : Nat) (v : Domain) : (s.setDomain d v).abandoned = s.abandoned := rfl
@[simp] theorem State.setDomain_parked (d : Nat) (v : Domain) : (s.setDomain d v).parked = s.parked := rfl
@[simp] theorem State.setDomain_refugePorts (d : Nat) (v : Domain) : (s.setDomain d v).refugePorts = s.refugePorts := rfl
@[simp] theorem State.setDomain_refugeRest (d : Nat) (v : Domain) : (s.setDomain d v).refugeRest = s.refugeRest := rfl
@[simp] theorem State.setDomain_refuge (d : Nat) (v : Domain) : (s.setDomain d v).refuge = s.refuge := rfl
@[simp] theorem State.setDomain_saveDir (d : Nat) (v : Domain) : (s.setDomain d v).saveDir = s.saveDir := rfl

@[simp] theorem State.setDomain_setDomain (d : Nat) (v : Domain) (w : Domain) :
    (s.setDomain d v).setDomain d w = s.setDomain d w := by
  simp [State.setDomain]

theorem State.setDomain_domain (d : Nat) (v : Domain) (j : Nat) : (s.setDomain d v).domain j = if j = d then v else s.domain j :=
  mget_mset domainDef s.domains d j v

@[simp] theorem State.setDomain_domain_same (d : Nat) (v : Domain) : (s.setDomain d v).domain d = v :=
  mget_mset_same domainDef s.domains d v

theorem State.setDomain_domain_ne (d : Nat) (v : Domain) (j : Nat) (h : j ≠ d) : (s.setDomain d v).domain j = s.domain j :=
  mget_mset_ne domainDef s.domains d j v h

@[simp] theorem State.setDomain_core_frame (d : Nat) (v : Domain) (j : Nat) : (s.setDomain d v).core j = s.core j := rfl
@[simp] theorem State.setDomain_cluster_frame (d : Nat) (v : Domain) (j : Nat) : (s.setDomain d v).cluster j = s.cluster j := rfl
@[simp] theorem State.setDomain_plinth_frame (d : Nat) (v : Domain) (j : Nat) : (s.setDomain d v).plinth j = s.plinth j := rfl
@[simp] theorem State.setDomain_saddle_frame (d : Nat) (v : Domain) (j : Nat) : (s.setDomain d v).saddle j = s.saddle j := rfl
@[simp] theorem State.setDomain_cairn_frame (d : Nat) (v : Domain) (j : Nat) : (s.setDomain d v).cairn j = s.cairn j := rfl
@[simp] theorem State.setDomain_link_frame (d : Nat) (v : Domain) (j : Nat) : (s.setDomain d v).link j = s.link j := rfl
@[simp] theorem State.setDomain_session_frame (d : Nat) (v : Domain) (j : Nat) : (s.setDomain d v).session j = s.session j := rfl
@[simp] theorem State.setDomain_mailbox_frame (d : Nat) (v : Domain) (j : Nat) : (s.setDomain d v).mailbox j = s.mailbox j := rfl
@[simp] theorem State.setDomain_obj (d : Nat) (v : Domain) (x y : Nat) : (s.setDomain d v).obj x y = s.obj x y := rfl
@[simp] theorem State.setDomain_byte (d : Nat) (v : Domain) (j : Nat) : (s.setDomain d v).byte j = s.byte j := rfl

/-! ### setPlinth -/

@[simp] theorem State.setPlinth_pending (p : Nat) (v : Plinth) : (s.setPlinth p v).pending = s.pending := rfl
@[simp] theorem State.setPlinth_fresh (p : Nat) (v : Plinth) : (s.setPlinth p v).fresh = s.fresh := rfl
@[simp] theorem State.setPlinth_nextId (p : Nat) (v : Plinth) : (s.setPlinth p v).nextId = s.nextId := rfl
@[simp] theorem State.setPlinth_cores (p : Nat) (v : Plinth) : (s.setPlinth p v).cores = s.cores := rfl
@[simp] theorem State.setPlinth_clusters (p : Nat) (v : Plinth) : (s.setPlinth p v).clusters = s.clusters := rfl
@[simp] theorem State.setPlinth_domains (p : Nat) (v : Plinth) : (s.setPlinth p v).domains = s.domains := rfl
@[simp] theorem State.setPlinth_saddles (p : Nat) (v : Plinth) : (s.setPlinth p v).saddles = s.saddles := rfl
@[simp] theorem State.setPlinth_cairns (p : Nat) (v : Plinth) : (s.setPlinth p v).cairns = s.cairns := rfl
@[simp] theorem State.setPlinth_dram (p : Nat) (v : Plinth) : (s.setPlinth p v).dram = s.dram := rfl
@[simp] theorem State.setPlinth_poison (p : Nat) (v : Plinth) : (s.setPlinth p v).poison = s.poison := rfl
@[simp] theorem State.setPlinth_dramBad (p : Nat) (v : Plinth) : (s.setPlinth p v).dramBad = s.dramBad := rfl
@[simp] theorem State.setPlinth_dramSoft (p : Nat) (v : Plinth) : (s.setPlinth p v).dramSoft = s.dramSoft := rfl
@[simp] theorem State.setPlinth_reqs (p : Nat) (v : Plinth) : (s.setPlinth p v).reqs = s.reqs := rfl
@[simp] theorem State.setPlinth_answers (p : Nat) (v : Plinth) : (s.setPlinth p v).answers = s.answers := rfl
@[simp] theorem State.setPlinth_resend (p : Nat) (v : Plinth) : (s.setPlinth p v).resend = s.resend := rfl
@[simp] theorem State.setPlinth_epochHeld (p : Nat) (v : Plinth) : (s.setPlinth p v).epochHeld = s.epochHeld := rfl
@[simp] theorem State.setPlinth_remote (p : Nat) (v : Plinth) : (s.setPlinth p v).remote = s.remote := rfl
@[simp] theorem State.setPlinth_links (p : Nat) (v : Plinth) : (s.setPlinth p v).links = s.links := rfl
@[simp] theorem State.setPlinth_host (p : Nat) (v : Plinth) : (s.setPlinth p v).host = s.host := rfl
@[simp] theorem State.setPlinth_recovs (p : Nat) (v : Plinth) : (s.setPlinth p v).recovs = s.recovs := rfl
@[simp] theorem State.setPlinth_faultSeq (p : Nat) (v : Plinth) : (s.setPlinth p v).faultSeq = s.faultSeq := rfl
@[simp] theorem State.setPlinth_power (p : Nat) (v : Plinth) : (s.setPlinth p v).power = s.power := rfl
@[simp] theorem State.setPlinth_dict (p : Nat) (v : Plinth) : (s.setPlinth p v).dict = s.dict := rfl
@[simp] theorem State.setPlinth_inUse (p : Nat) (v : Plinth) : (s.setPlinth p v).inUse = s.inUse := rfl
@[simp] theorem State.setPlinth_sessions (p : Nat) (v : Plinth) : (s.setPlinth p v).sessions = s.sessions := rfl
@[simp] theorem State.setPlinth_holder (p : Nat) (v : Plinth) : (s.setPlinth p v).holder = s.holder := rfl
@[simp] theorem State.setPlinth_holderWord (p : Nat) (v : Plinth) : (s.setPlinth p v).holderWord = s.holderWord := rfl
@[simp] theorem State.setPlinth_lease (p : Nat) (v : Plinth) : (s.setPlinth p v).lease = s.lease := rfl
@[simp] theorem State.setPlinth_mailboxes (p : Nat) (v : Plinth) : (s.setPlinth p v).mailboxes = s.mailboxes := rfl
@[simp] theorem State.setPlinth_replies (p : Nat) (v : Plinth) : (s.setPlinth p v).replies = s.replies := rfl
@[simp] theorem State.setPlinth_netSent (p : Nat) (v : Plinth) : (s.setPlinth p v).netSent = s.netSent := rfl
@[simp] theorem State.setPlinth_mgrSent (p : Nat) (v : Plinth) : (s.setPlinth p v).mgrSent = s.mgrSent := rfl
@[simp] theorem State.setPlinth_flash (p : Nat) (v : Plinth) : (s.setPlinth p v).flash = s.flash := rfl
@[simp] theorem State.setPlinth_fuses (p : Nat) (v : Plinth) : (s.setPlinth p v).fuses = s.fuses := rfl
@[simp] theorem State.setPlinth_bist (p : Nat) (v : Plinth) : (s.setPlinth p v).bist = s.bist := rfl
@[simp] theorem State.setPlinth_halted (p : Nat) (v : Plinth) : (s.setPlinth p v).halted = s.halted := rfl
@[simp] theorem State.setPlinth_signQ (p : Nat) (v : Plinth) : (s.setPlinth p v).signQ = s.signQ := rfl
@[simp] theorem State.setPlinth_signWait (p : Nat) (v : Plinth) : (s.setPlinth p v).signWait = s.signWait := rfl
@[simp] theorem State.setPlinth_treeDue (p : Nat) (v : Plinth) : (s.setPlinth p v).treeDue = s.treeDue := rfl
@[simp] theorem State.setPlinth_heldDebug (p : Nat) (v : Plinth) : (s.setPlinth p v).heldDebug = s.heldDebug := rfl
@[simp] theorem State.setPlinth_linksUp (p : Nat) (v : Plinth) : (s.setPlinth p v).linksUp = s.linksUp := rfl
@[simp] theorem State.setPlinth_members (p : Nat) (v : Plinth) : (s.setPlinth p v).members = s.members := rfl
@[simp] theorem State.setPlinth_leaving (p : Nat) (v : Plinth) : (s.setPlinth p v).leaving = s.leaving := rfl
@[simp] theorem State.setPlinth_epochTable (p : Nat) (v : Plinth) : (s.setPlinth p v).epochTable = s.epochTable := rfl
@[simp] theorem State.setPlinth_reports (p : Nat) (v : Plinth) : (s.setPlinth p v).reports = s.reports := rfl
@[simp] theorem State.setPlinth_joining (p : Nat) (v : Plinth) : (s.setPlinth p v).joining = s.joining := rfl
@[simp] theorem State.setPlinth_routeWait (p : Nat) (v : Plinth) : (s.setPlinth p v).routeWait = s.routeWait := rfl
@[simp] theorem State.setPlinth_lost (p : Nat) (v : Plinth) : (s.setPlinth p v).lost = s.lost := rfl
@[simp] theorem State.setPlinth_sumWait (p : Nat) (v : Plinth) : (s.setPlinth p v).sumWait = s.sumWait := rfl
@[simp] theorem State.setPlinth_restores (p : Nat) (v : Plinth) : (s.setPlinth p v).restores = s.restores := rfl
@[simp] theorem State.setPlinth_restored (p : Nat) (v : Plinth) : (s.setPlinth p v).restored = s.restored := rfl
@[simp] theorem State.setPlinth_abandoned (p : Nat) (v : Plinth) : (s.setPlinth p v).abandoned = s.abandoned := rfl
@[simp] theorem State.setPlinth_parked (p : Nat) (v : Plinth) : (s.setPlinth p v).parked = s.parked := rfl
@[simp] theorem State.setPlinth_refugePorts (p : Nat) (v : Plinth) : (s.setPlinth p v).refugePorts = s.refugePorts := rfl
@[simp] theorem State.setPlinth_refugeRest (p : Nat) (v : Plinth) : (s.setPlinth p v).refugeRest = s.refugeRest := rfl
@[simp] theorem State.setPlinth_refuge (p : Nat) (v : Plinth) : (s.setPlinth p v).refuge = s.refuge := rfl
@[simp] theorem State.setPlinth_saveDir (p : Nat) (v : Plinth) : (s.setPlinth p v).saveDir = s.saveDir := rfl

@[simp] theorem State.setPlinth_setPlinth (p : Nat) (v : Plinth) (w : Plinth) :
    (s.setPlinth p v).setPlinth p w = s.setPlinth p w := by
  simp [State.setPlinth]

theorem State.setPlinth_plinth (p : Nat) (v : Plinth) (j : Nat) : (s.setPlinth p v).plinth j = if j = p then v else s.plinth j :=
  mget_mset plinthDef s.plinths p j v

@[simp] theorem State.setPlinth_plinth_same (p : Nat) (v : Plinth) : (s.setPlinth p v).plinth p = v :=
  mget_mset_same plinthDef s.plinths p v

theorem State.setPlinth_plinth_ne (p : Nat) (v : Plinth) (j : Nat) (h : j ≠ p) : (s.setPlinth p v).plinth j = s.plinth j :=
  mget_mset_ne plinthDef s.plinths p j v h

@[simp] theorem State.setPlinth_core_frame (p : Nat) (v : Plinth) (j : Nat) : (s.setPlinth p v).core j = s.core j := rfl
@[simp] theorem State.setPlinth_cluster_frame (p : Nat) (v : Plinth) (j : Nat) : (s.setPlinth p v).cluster j = s.cluster j := rfl
@[simp] theorem State.setPlinth_domain_frame (p : Nat) (v : Plinth) (j : Nat) : (s.setPlinth p v).domain j = s.domain j := rfl
@[simp] theorem State.setPlinth_saddle_frame (p : Nat) (v : Plinth) (j : Nat) : (s.setPlinth p v).saddle j = s.saddle j := rfl
@[simp] theorem State.setPlinth_cairn_frame (p : Nat) (v : Plinth) (j : Nat) : (s.setPlinth p v).cairn j = s.cairn j := rfl
@[simp] theorem State.setPlinth_link_frame (p : Nat) (v : Plinth) (j : Nat) : (s.setPlinth p v).link j = s.link j := rfl
@[simp] theorem State.setPlinth_session_frame (p : Nat) (v : Plinth) (j : Nat) : (s.setPlinth p v).session j = s.session j := rfl
@[simp] theorem State.setPlinth_mailbox_frame (p : Nat) (v : Plinth) (j : Nat) : (s.setPlinth p v).mailbox j = s.mailbox j := rfl
@[simp] theorem State.setPlinth_obj (p : Nat) (v : Plinth) (x y : Nat) : (s.setPlinth p v).obj x y = s.obj x y := rfl
@[simp] theorem State.setPlinth_byte (p : Nat) (v : Plinth) (j : Nat) : (s.setPlinth p v).byte j = s.byte j := rfl
@[simp] theorem State.setPlinth_beat (p : Nat) (v : Plinth) (j : Nat) : (s.setPlinth p v).beat j = s.beat j := rfl

/-! ### setSaddle -/

@[simp] theorem State.setSaddle_pending (n : Nat) (v : Saddle) : (s.setSaddle n v).pending = s.pending := rfl
@[simp] theorem State.setSaddle_fresh (n : Nat) (v : Saddle) : (s.setSaddle n v).fresh = s.fresh := rfl
@[simp] theorem State.setSaddle_nextId (n : Nat) (v : Saddle) : (s.setSaddle n v).nextId = s.nextId := rfl
@[simp] theorem State.setSaddle_cores (n : Nat) (v : Saddle) : (s.setSaddle n v).cores = s.cores := rfl
@[simp] theorem State.setSaddle_clusters (n : Nat) (v : Saddle) : (s.setSaddle n v).clusters = s.clusters := rfl
@[simp] theorem State.setSaddle_domains (n : Nat) (v : Saddle) : (s.setSaddle n v).domains = s.domains := rfl
@[simp] theorem State.setSaddle_plinths (n : Nat) (v : Saddle) : (s.setSaddle n v).plinths = s.plinths := rfl
@[simp] theorem State.setSaddle_cairns (n : Nat) (v : Saddle) : (s.setSaddle n v).cairns = s.cairns := rfl
@[simp] theorem State.setSaddle_dram (n : Nat) (v : Saddle) : (s.setSaddle n v).dram = s.dram := rfl
@[simp] theorem State.setSaddle_poison (n : Nat) (v : Saddle) : (s.setSaddle n v).poison = s.poison := rfl
@[simp] theorem State.setSaddle_dramBad (n : Nat) (v : Saddle) : (s.setSaddle n v).dramBad = s.dramBad := rfl
@[simp] theorem State.setSaddle_dramSoft (n : Nat) (v : Saddle) : (s.setSaddle n v).dramSoft = s.dramSoft := rfl
@[simp] theorem State.setSaddle_reqs (n : Nat) (v : Saddle) : (s.setSaddle n v).reqs = s.reqs := rfl
@[simp] theorem State.setSaddle_answers (n : Nat) (v : Saddle) : (s.setSaddle n v).answers = s.answers := rfl
@[simp] theorem State.setSaddle_resend (n : Nat) (v : Saddle) : (s.setSaddle n v).resend = s.resend := rfl
@[simp] theorem State.setSaddle_epochHeld (n : Nat) (v : Saddle) : (s.setSaddle n v).epochHeld = s.epochHeld := rfl
@[simp] theorem State.setSaddle_remote (n : Nat) (v : Saddle) : (s.setSaddle n v).remote = s.remote := rfl
@[simp] theorem State.setSaddle_links (n : Nat) (v : Saddle) : (s.setSaddle n v).links = s.links := rfl
@[simp] theorem State.setSaddle_host (n : Nat) (v : Saddle) : (s.setSaddle n v).host = s.host := rfl
@[simp] theorem State.setSaddle_recovs (n : Nat) (v : Saddle) : (s.setSaddle n v).recovs = s.recovs := rfl
@[simp] theorem State.setSaddle_faultSeq (n : Nat) (v : Saddle) : (s.setSaddle n v).faultSeq = s.faultSeq := rfl
@[simp] theorem State.setSaddle_power (n : Nat) (v : Saddle) : (s.setSaddle n v).power = s.power := rfl
@[simp] theorem State.setSaddle_dict (n : Nat) (v : Saddle) : (s.setSaddle n v).dict = s.dict := rfl
@[simp] theorem State.setSaddle_inUse (n : Nat) (v : Saddle) : (s.setSaddle n v).inUse = s.inUse := rfl
@[simp] theorem State.setSaddle_sessions (n : Nat) (v : Saddle) : (s.setSaddle n v).sessions = s.sessions := rfl
@[simp] theorem State.setSaddle_holder (n : Nat) (v : Saddle) : (s.setSaddle n v).holder = s.holder := rfl
@[simp] theorem State.setSaddle_holderWord (n : Nat) (v : Saddle) : (s.setSaddle n v).holderWord = s.holderWord := rfl
@[simp] theorem State.setSaddle_lease (n : Nat) (v : Saddle) : (s.setSaddle n v).lease = s.lease := rfl
@[simp] theorem State.setSaddle_mailboxes (n : Nat) (v : Saddle) : (s.setSaddle n v).mailboxes = s.mailboxes := rfl
@[simp] theorem State.setSaddle_replies (n : Nat) (v : Saddle) : (s.setSaddle n v).replies = s.replies := rfl
@[simp] theorem State.setSaddle_netSent (n : Nat) (v : Saddle) : (s.setSaddle n v).netSent = s.netSent := rfl
@[simp] theorem State.setSaddle_mgrSent (n : Nat) (v : Saddle) : (s.setSaddle n v).mgrSent = s.mgrSent := rfl
@[simp] theorem State.setSaddle_flash (n : Nat) (v : Saddle) : (s.setSaddle n v).flash = s.flash := rfl
@[simp] theorem State.setSaddle_fuses (n : Nat) (v : Saddle) : (s.setSaddle n v).fuses = s.fuses := rfl
@[simp] theorem State.setSaddle_bist (n : Nat) (v : Saddle) : (s.setSaddle n v).bist = s.bist := rfl
@[simp] theorem State.setSaddle_halted (n : Nat) (v : Saddle) : (s.setSaddle n v).halted = s.halted := rfl
@[simp] theorem State.setSaddle_signQ (n : Nat) (v : Saddle) : (s.setSaddle n v).signQ = s.signQ := rfl
@[simp] theorem State.setSaddle_signWait (n : Nat) (v : Saddle) : (s.setSaddle n v).signWait = s.signWait := rfl
@[simp] theorem State.setSaddle_treeDue (n : Nat) (v : Saddle) : (s.setSaddle n v).treeDue = s.treeDue := rfl
@[simp] theorem State.setSaddle_heldDebug (n : Nat) (v : Saddle) : (s.setSaddle n v).heldDebug = s.heldDebug := rfl
@[simp] theorem State.setSaddle_linksUp (n : Nat) (v : Saddle) : (s.setSaddle n v).linksUp = s.linksUp := rfl
@[simp] theorem State.setSaddle_members (n : Nat) (v : Saddle) : (s.setSaddle n v).members = s.members := rfl
@[simp] theorem State.setSaddle_leaving (n : Nat) (v : Saddle) : (s.setSaddle n v).leaving = s.leaving := rfl
@[simp] theorem State.setSaddle_epochTable (n : Nat) (v : Saddle) : (s.setSaddle n v).epochTable = s.epochTable := rfl
@[simp] theorem State.setSaddle_reports (n : Nat) (v : Saddle) : (s.setSaddle n v).reports = s.reports := rfl
@[simp] theorem State.setSaddle_joining (n : Nat) (v : Saddle) : (s.setSaddle n v).joining = s.joining := rfl
@[simp] theorem State.setSaddle_routeWait (n : Nat) (v : Saddle) : (s.setSaddle n v).routeWait = s.routeWait := rfl
@[simp] theorem State.setSaddle_lost (n : Nat) (v : Saddle) : (s.setSaddle n v).lost = s.lost := rfl
@[simp] theorem State.setSaddle_sumWait (n : Nat) (v : Saddle) : (s.setSaddle n v).sumWait = s.sumWait := rfl
@[simp] theorem State.setSaddle_restores (n : Nat) (v : Saddle) : (s.setSaddle n v).restores = s.restores := rfl
@[simp] theorem State.setSaddle_restored (n : Nat) (v : Saddle) : (s.setSaddle n v).restored = s.restored := rfl
@[simp] theorem State.setSaddle_abandoned (n : Nat) (v : Saddle) : (s.setSaddle n v).abandoned = s.abandoned := rfl
@[simp] theorem State.setSaddle_parked (n : Nat) (v : Saddle) : (s.setSaddle n v).parked = s.parked := rfl
@[simp] theorem State.setSaddle_refugePorts (n : Nat) (v : Saddle) : (s.setSaddle n v).refugePorts = s.refugePorts := rfl
@[simp] theorem State.setSaddle_refugeRest (n : Nat) (v : Saddle) : (s.setSaddle n v).refugeRest = s.refugeRest := rfl
@[simp] theorem State.setSaddle_refuge (n : Nat) (v : Saddle) : (s.setSaddle n v).refuge = s.refuge := rfl
@[simp] theorem State.setSaddle_saveDir (n : Nat) (v : Saddle) : (s.setSaddle n v).saveDir = s.saveDir := rfl

@[simp] theorem State.setSaddle_setSaddle (n : Nat) (v : Saddle) (w : Saddle) :
    (s.setSaddle n v).setSaddle n w = s.setSaddle n w := by
  simp [State.setSaddle]

theorem State.setSaddle_saddle (n : Nat) (v : Saddle) (j : Nat) : (s.setSaddle n v).saddle j = if j = n then v else s.saddle j :=
  mget_mset saddleDef s.saddles n j v

@[simp] theorem State.setSaddle_saddle_same (n : Nat) (v : Saddle) : (s.setSaddle n v).saddle n = v :=
  mget_mset_same saddleDef s.saddles n v

theorem State.setSaddle_saddle_ne (n : Nat) (v : Saddle) (j : Nat) (h : j ≠ n) : (s.setSaddle n v).saddle j = s.saddle j :=
  mget_mset_ne saddleDef s.saddles n j v h

@[simp] theorem State.setSaddle_core_frame (n : Nat) (v : Saddle) (j : Nat) : (s.setSaddle n v).core j = s.core j := rfl
@[simp] theorem State.setSaddle_cluster_frame (n : Nat) (v : Saddle) (j : Nat) : (s.setSaddle n v).cluster j = s.cluster j := rfl
@[simp] theorem State.setSaddle_domain_frame (n : Nat) (v : Saddle) (j : Nat) : (s.setSaddle n v).domain j = s.domain j := rfl
@[simp] theorem State.setSaddle_plinth_frame (n : Nat) (v : Saddle) (j : Nat) : (s.setSaddle n v).plinth j = s.plinth j := rfl
@[simp] theorem State.setSaddle_cairn_frame (n : Nat) (v : Saddle) (j : Nat) : (s.setSaddle n v).cairn j = s.cairn j := rfl
@[simp] theorem State.setSaddle_link_frame (n : Nat) (v : Saddle) (j : Nat) : (s.setSaddle n v).link j = s.link j := rfl
@[simp] theorem State.setSaddle_session_frame (n : Nat) (v : Saddle) (j : Nat) : (s.setSaddle n v).session j = s.session j := rfl
@[simp] theorem State.setSaddle_mailbox_frame (n : Nat) (v : Saddle) (j : Nat) : (s.setSaddle n v).mailbox j = s.mailbox j := rfl
@[simp] theorem State.setSaddle_obj (n : Nat) (v : Saddle) (x y : Nat) : (s.setSaddle n v).obj x y = s.obj x y := rfl
@[simp] theorem State.setSaddle_byte (n : Nat) (v : Saddle) (j : Nat) : (s.setSaddle n v).byte j = s.byte j := rfl
@[simp] theorem State.setSaddle_beat (n : Nat) (v : Saddle) (j : Nat) : (s.setSaddle n v).beat j = s.beat j := rfl

/-! ### setCairn -/

@[simp] theorem State.setCairn_pending (q : Nat) (v : Cairn) : (s.setCairn q v).pending = s.pending := rfl
@[simp] theorem State.setCairn_fresh (q : Nat) (v : Cairn) : (s.setCairn q v).fresh = s.fresh := rfl
@[simp] theorem State.setCairn_nextId (q : Nat) (v : Cairn) : (s.setCairn q v).nextId = s.nextId := rfl
@[simp] theorem State.setCairn_cores (q : Nat) (v : Cairn) : (s.setCairn q v).cores = s.cores := rfl
@[simp] theorem State.setCairn_clusters (q : Nat) (v : Cairn) : (s.setCairn q v).clusters = s.clusters := rfl
@[simp] theorem State.setCairn_domains (q : Nat) (v : Cairn) : (s.setCairn q v).domains = s.domains := rfl
@[simp] theorem State.setCairn_plinths (q : Nat) (v : Cairn) : (s.setCairn q v).plinths = s.plinths := rfl
@[simp] theorem State.setCairn_saddles (q : Nat) (v : Cairn) : (s.setCairn q v).saddles = s.saddles := rfl
@[simp] theorem State.setCairn_dram (q : Nat) (v : Cairn) : (s.setCairn q v).dram = s.dram := rfl
@[simp] theorem State.setCairn_poison (q : Nat) (v : Cairn) : (s.setCairn q v).poison = s.poison := rfl
@[simp] theorem State.setCairn_dramBad (q : Nat) (v : Cairn) : (s.setCairn q v).dramBad = s.dramBad := rfl
@[simp] theorem State.setCairn_dramSoft (q : Nat) (v : Cairn) : (s.setCairn q v).dramSoft = s.dramSoft := rfl
@[simp] theorem State.setCairn_reqs (q : Nat) (v : Cairn) : (s.setCairn q v).reqs = s.reqs := rfl
@[simp] theorem State.setCairn_answers (q : Nat) (v : Cairn) : (s.setCairn q v).answers = s.answers := rfl
@[simp] theorem State.setCairn_resend (q : Nat) (v : Cairn) : (s.setCairn q v).resend = s.resend := rfl
@[simp] theorem State.setCairn_epochHeld (q : Nat) (v : Cairn) : (s.setCairn q v).epochHeld = s.epochHeld := rfl
@[simp] theorem State.setCairn_remote (q : Nat) (v : Cairn) : (s.setCairn q v).remote = s.remote := rfl
@[simp] theorem State.setCairn_links (q : Nat) (v : Cairn) : (s.setCairn q v).links = s.links := rfl
@[simp] theorem State.setCairn_host (q : Nat) (v : Cairn) : (s.setCairn q v).host = s.host := rfl
@[simp] theorem State.setCairn_recovs (q : Nat) (v : Cairn) : (s.setCairn q v).recovs = s.recovs := rfl
@[simp] theorem State.setCairn_faultSeq (q : Nat) (v : Cairn) : (s.setCairn q v).faultSeq = s.faultSeq := rfl
@[simp] theorem State.setCairn_power (q : Nat) (v : Cairn) : (s.setCairn q v).power = s.power := rfl
@[simp] theorem State.setCairn_dict (q : Nat) (v : Cairn) : (s.setCairn q v).dict = s.dict := rfl
@[simp] theorem State.setCairn_inUse (q : Nat) (v : Cairn) : (s.setCairn q v).inUse = s.inUse := rfl
@[simp] theorem State.setCairn_sessions (q : Nat) (v : Cairn) : (s.setCairn q v).sessions = s.sessions := rfl
@[simp] theorem State.setCairn_holder (q : Nat) (v : Cairn) : (s.setCairn q v).holder = s.holder := rfl
@[simp] theorem State.setCairn_holderWord (q : Nat) (v : Cairn) : (s.setCairn q v).holderWord = s.holderWord := rfl
@[simp] theorem State.setCairn_lease (q : Nat) (v : Cairn) : (s.setCairn q v).lease = s.lease := rfl
@[simp] theorem State.setCairn_mailboxes (q : Nat) (v : Cairn) : (s.setCairn q v).mailboxes = s.mailboxes := rfl
@[simp] theorem State.setCairn_replies (q : Nat) (v : Cairn) : (s.setCairn q v).replies = s.replies := rfl
@[simp] theorem State.setCairn_netSent (q : Nat) (v : Cairn) : (s.setCairn q v).netSent = s.netSent := rfl
@[simp] theorem State.setCairn_mgrSent (q : Nat) (v : Cairn) : (s.setCairn q v).mgrSent = s.mgrSent := rfl
@[simp] theorem State.setCairn_flash (q : Nat) (v : Cairn) : (s.setCairn q v).flash = s.flash := rfl
@[simp] theorem State.setCairn_fuses (q : Nat) (v : Cairn) : (s.setCairn q v).fuses = s.fuses := rfl
@[simp] theorem State.setCairn_bist (q : Nat) (v : Cairn) : (s.setCairn q v).bist = s.bist := rfl
@[simp] theorem State.setCairn_halted (q : Nat) (v : Cairn) : (s.setCairn q v).halted = s.halted := rfl
@[simp] theorem State.setCairn_signQ (q : Nat) (v : Cairn) : (s.setCairn q v).signQ = s.signQ := rfl
@[simp] theorem State.setCairn_signWait (q : Nat) (v : Cairn) : (s.setCairn q v).signWait = s.signWait := rfl
@[simp] theorem State.setCairn_treeDue (q : Nat) (v : Cairn) : (s.setCairn q v).treeDue = s.treeDue := rfl
@[simp] theorem State.setCairn_heldDebug (q : Nat) (v : Cairn) : (s.setCairn q v).heldDebug = s.heldDebug := rfl
@[simp] theorem State.setCairn_linksUp (q : Nat) (v : Cairn) : (s.setCairn q v).linksUp = s.linksUp := rfl
@[simp] theorem State.setCairn_members (q : Nat) (v : Cairn) : (s.setCairn q v).members = s.members := rfl
@[simp] theorem State.setCairn_leaving (q : Nat) (v : Cairn) : (s.setCairn q v).leaving = s.leaving := rfl
@[simp] theorem State.setCairn_epochTable (q : Nat) (v : Cairn) : (s.setCairn q v).epochTable = s.epochTable := rfl
@[simp] theorem State.setCairn_reports (q : Nat) (v : Cairn) : (s.setCairn q v).reports = s.reports := rfl
@[simp] theorem State.setCairn_joining (q : Nat) (v : Cairn) : (s.setCairn q v).joining = s.joining := rfl
@[simp] theorem State.setCairn_routeWait (q : Nat) (v : Cairn) : (s.setCairn q v).routeWait = s.routeWait := rfl
@[simp] theorem State.setCairn_lost (q : Nat) (v : Cairn) : (s.setCairn q v).lost = s.lost := rfl
@[simp] theorem State.setCairn_sumWait (q : Nat) (v : Cairn) : (s.setCairn q v).sumWait = s.sumWait := rfl
@[simp] theorem State.setCairn_restores (q : Nat) (v : Cairn) : (s.setCairn q v).restores = s.restores := rfl
@[simp] theorem State.setCairn_restored (q : Nat) (v : Cairn) : (s.setCairn q v).restored = s.restored := rfl
@[simp] theorem State.setCairn_abandoned (q : Nat) (v : Cairn) : (s.setCairn q v).abandoned = s.abandoned := rfl
@[simp] theorem State.setCairn_parked (q : Nat) (v : Cairn) : (s.setCairn q v).parked = s.parked := rfl
@[simp] theorem State.setCairn_refugePorts (q : Nat) (v : Cairn) : (s.setCairn q v).refugePorts = s.refugePorts := rfl
@[simp] theorem State.setCairn_refugeRest (q : Nat) (v : Cairn) : (s.setCairn q v).refugeRest = s.refugeRest := rfl
@[simp] theorem State.setCairn_refuge (q : Nat) (v : Cairn) : (s.setCairn q v).refuge = s.refuge := rfl
@[simp] theorem State.setCairn_saveDir (q : Nat) (v : Cairn) : (s.setCairn q v).saveDir = s.saveDir := rfl

@[simp] theorem State.setCairn_setCairn (q : Nat) (v : Cairn) (w : Cairn) :
    (s.setCairn q v).setCairn q w = s.setCairn q w := by
  simp [State.setCairn]

theorem State.setCairn_cairn (q : Nat) (v : Cairn) (j : Nat) : (s.setCairn q v).cairn j = if j = q then v else s.cairn j :=
  mget_mset cairnDef s.cairns q j v

@[simp] theorem State.setCairn_cairn_same (q : Nat) (v : Cairn) : (s.setCairn q v).cairn q = v :=
  mget_mset_same cairnDef s.cairns q v

theorem State.setCairn_cairn_ne (q : Nat) (v : Cairn) (j : Nat) (h : j ≠ q) : (s.setCairn q v).cairn j = s.cairn j :=
  mget_mset_ne cairnDef s.cairns q j v h

@[simp] theorem State.setCairn_core_frame (q : Nat) (v : Cairn) (j : Nat) : (s.setCairn q v).core j = s.core j := rfl
@[simp] theorem State.setCairn_cluster_frame (q : Nat) (v : Cairn) (j : Nat) : (s.setCairn q v).cluster j = s.cluster j := rfl
@[simp] theorem State.setCairn_domain_frame (q : Nat) (v : Cairn) (j : Nat) : (s.setCairn q v).domain j = s.domain j := rfl
@[simp] theorem State.setCairn_plinth_frame (q : Nat) (v : Cairn) (j : Nat) : (s.setCairn q v).plinth j = s.plinth j := rfl
@[simp] theorem State.setCairn_saddle_frame (q : Nat) (v : Cairn) (j : Nat) : (s.setCairn q v).saddle j = s.saddle j := rfl
@[simp] theorem State.setCairn_link_frame (q : Nat) (v : Cairn) (j : Nat) : (s.setCairn q v).link j = s.link j := rfl
@[simp] theorem State.setCairn_session_frame (q : Nat) (v : Cairn) (j : Nat) : (s.setCairn q v).session j = s.session j := rfl
@[simp] theorem State.setCairn_mailbox_frame (q : Nat) (v : Cairn) (j : Nat) : (s.setCairn q v).mailbox j = s.mailbox j := rfl
@[simp] theorem State.setCairn_obj (q : Nat) (v : Cairn) (x y : Nat) : (s.setCairn q v).obj x y = s.obj x y := rfl
@[simp] theorem State.setCairn_byte (q : Nat) (v : Cairn) (j : Nat) : (s.setCairn q v).byte j = s.byte j := rfl
@[simp] theorem State.setCairn_beat (q : Nat) (v : Cairn) (j : Nat) : (s.setCairn q v).beat j = s.beat j := rfl

/-! ### setLink -/

@[simp] theorem State.setLink_pending (l : Nat) (v : Link) : (s.setLink l v).pending = s.pending := rfl
@[simp] theorem State.setLink_fresh (l : Nat) (v : Link) : (s.setLink l v).fresh = s.fresh := rfl
@[simp] theorem State.setLink_nextId (l : Nat) (v : Link) : (s.setLink l v).nextId = s.nextId := rfl
@[simp] theorem State.setLink_cores (l : Nat) (v : Link) : (s.setLink l v).cores = s.cores := rfl
@[simp] theorem State.setLink_clusters (l : Nat) (v : Link) : (s.setLink l v).clusters = s.clusters := rfl
@[simp] theorem State.setLink_domains (l : Nat) (v : Link) : (s.setLink l v).domains = s.domains := rfl
@[simp] theorem State.setLink_plinths (l : Nat) (v : Link) : (s.setLink l v).plinths = s.plinths := rfl
@[simp] theorem State.setLink_saddles (l : Nat) (v : Link) : (s.setLink l v).saddles = s.saddles := rfl
@[simp] theorem State.setLink_cairns (l : Nat) (v : Link) : (s.setLink l v).cairns = s.cairns := rfl
@[simp] theorem State.setLink_dram (l : Nat) (v : Link) : (s.setLink l v).dram = s.dram := rfl
@[simp] theorem State.setLink_poison (l : Nat) (v : Link) : (s.setLink l v).poison = s.poison := rfl
@[simp] theorem State.setLink_dramBad (l : Nat) (v : Link) : (s.setLink l v).dramBad = s.dramBad := rfl
@[simp] theorem State.setLink_dramSoft (l : Nat) (v : Link) : (s.setLink l v).dramSoft = s.dramSoft := rfl
@[simp] theorem State.setLink_reqs (l : Nat) (v : Link) : (s.setLink l v).reqs = s.reqs := rfl
@[simp] theorem State.setLink_answers (l : Nat) (v : Link) : (s.setLink l v).answers = s.answers := rfl
@[simp] theorem State.setLink_resend (l : Nat) (v : Link) : (s.setLink l v).resend = s.resend := rfl
@[simp] theorem State.setLink_epochHeld (l : Nat) (v : Link) : (s.setLink l v).epochHeld = s.epochHeld := rfl
@[simp] theorem State.setLink_remote (l : Nat) (v : Link) : (s.setLink l v).remote = s.remote := rfl
@[simp] theorem State.setLink_host (l : Nat) (v : Link) : (s.setLink l v).host = s.host := rfl
@[simp] theorem State.setLink_recovs (l : Nat) (v : Link) : (s.setLink l v).recovs = s.recovs := rfl
@[simp] theorem State.setLink_faultSeq (l : Nat) (v : Link) : (s.setLink l v).faultSeq = s.faultSeq := rfl
@[simp] theorem State.setLink_power (l : Nat) (v : Link) : (s.setLink l v).power = s.power := rfl
@[simp] theorem State.setLink_dict (l : Nat) (v : Link) : (s.setLink l v).dict = s.dict := rfl
@[simp] theorem State.setLink_inUse (l : Nat) (v : Link) : (s.setLink l v).inUse = s.inUse := rfl
@[simp] theorem State.setLink_sessions (l : Nat) (v : Link) : (s.setLink l v).sessions = s.sessions := rfl
@[simp] theorem State.setLink_holder (l : Nat) (v : Link) : (s.setLink l v).holder = s.holder := rfl
@[simp] theorem State.setLink_holderWord (l : Nat) (v : Link) : (s.setLink l v).holderWord = s.holderWord := rfl
@[simp] theorem State.setLink_lease (l : Nat) (v : Link) : (s.setLink l v).lease = s.lease := rfl
@[simp] theorem State.setLink_mailboxes (l : Nat) (v : Link) : (s.setLink l v).mailboxes = s.mailboxes := rfl
@[simp] theorem State.setLink_replies (l : Nat) (v : Link) : (s.setLink l v).replies = s.replies := rfl
@[simp] theorem State.setLink_netSent (l : Nat) (v : Link) : (s.setLink l v).netSent = s.netSent := rfl
@[simp] theorem State.setLink_mgrSent (l : Nat) (v : Link) : (s.setLink l v).mgrSent = s.mgrSent := rfl
@[simp] theorem State.setLink_flash (l : Nat) (v : Link) : (s.setLink l v).flash = s.flash := rfl
@[simp] theorem State.setLink_fuses (l : Nat) (v : Link) : (s.setLink l v).fuses = s.fuses := rfl
@[simp] theorem State.setLink_bist (l : Nat) (v : Link) : (s.setLink l v).bist = s.bist := rfl
@[simp] theorem State.setLink_halted (l : Nat) (v : Link) : (s.setLink l v).halted = s.halted := rfl
@[simp] theorem State.setLink_signQ (l : Nat) (v : Link) : (s.setLink l v).signQ = s.signQ := rfl
@[simp] theorem State.setLink_signWait (l : Nat) (v : Link) : (s.setLink l v).signWait = s.signWait := rfl
@[simp] theorem State.setLink_treeDue (l : Nat) (v : Link) : (s.setLink l v).treeDue = s.treeDue := rfl
@[simp] theorem State.setLink_heldDebug (l : Nat) (v : Link) : (s.setLink l v).heldDebug = s.heldDebug := rfl
@[simp] theorem State.setLink_linksUp (l : Nat) (v : Link) : (s.setLink l v).linksUp = s.linksUp := rfl
@[simp] theorem State.setLink_members (l : Nat) (v : Link) : (s.setLink l v).members = s.members := rfl
@[simp] theorem State.setLink_leaving (l : Nat) (v : Link) : (s.setLink l v).leaving = s.leaving := rfl
@[simp] theorem State.setLink_epochTable (l : Nat) (v : Link) : (s.setLink l v).epochTable = s.epochTable := rfl
@[simp] theorem State.setLink_reports (l : Nat) (v : Link) : (s.setLink l v).reports = s.reports := rfl
@[simp] theorem State.setLink_joining (l : Nat) (v : Link) : (s.setLink l v).joining = s.joining := rfl
@[simp] theorem State.setLink_routeWait (l : Nat) (v : Link) : (s.setLink l v).routeWait = s.routeWait := rfl
@[simp] theorem State.setLink_lost (l : Nat) (v : Link) : (s.setLink l v).lost = s.lost := rfl
@[simp] theorem State.setLink_sumWait (l : Nat) (v : Link) : (s.setLink l v).sumWait = s.sumWait := rfl
@[simp] theorem State.setLink_restores (l : Nat) (v : Link) : (s.setLink l v).restores = s.restores := rfl
@[simp] theorem State.setLink_restored (l : Nat) (v : Link) : (s.setLink l v).restored = s.restored := rfl
@[simp] theorem State.setLink_abandoned (l : Nat) (v : Link) : (s.setLink l v).abandoned = s.abandoned := rfl
@[simp] theorem State.setLink_parked (l : Nat) (v : Link) : (s.setLink l v).parked = s.parked := rfl
@[simp] theorem State.setLink_refugePorts (l : Nat) (v : Link) : (s.setLink l v).refugePorts = s.refugePorts := rfl
@[simp] theorem State.setLink_refugeRest (l : Nat) (v : Link) : (s.setLink l v).refugeRest = s.refugeRest := rfl
@[simp] theorem State.setLink_refuge (l : Nat) (v : Link) : (s.setLink l v).refuge = s.refuge := rfl
@[simp] theorem State.setLink_saveDir (l : Nat) (v : Link) : (s.setLink l v).saveDir = s.saveDir := rfl

@[simp] theorem State.setLink_setLink (l : Nat) (v : Link) (w : Link) :
    (s.setLink l v).setLink l w = s.setLink l w := by
  simp [State.setLink]

theorem State.setLink_link (l : Nat) (v : Link) (j : Nat) : (s.setLink l v).link j = if j = l then v else s.link j :=
  mget_mset linkDef s.links l j v

@[simp] theorem State.setLink_link_same (l : Nat) (v : Link) : (s.setLink l v).link l = v :=
  mget_mset_same linkDef s.links l v

theorem State.setLink_link_ne (l : Nat) (v : Link) (j : Nat) (h : j ≠ l) : (s.setLink l v).link j = s.link j :=
  mget_mset_ne linkDef s.links l j v h

@[simp] theorem State.setLink_core_frame (l : Nat) (v : Link) (j : Nat) : (s.setLink l v).core j = s.core j := rfl
@[simp] theorem State.setLink_cluster_frame (l : Nat) (v : Link) (j : Nat) : (s.setLink l v).cluster j = s.cluster j := rfl
@[simp] theorem State.setLink_domain_frame (l : Nat) (v : Link) (j : Nat) : (s.setLink l v).domain j = s.domain j := rfl
@[simp] theorem State.setLink_plinth_frame (l : Nat) (v : Link) (j : Nat) : (s.setLink l v).plinth j = s.plinth j := rfl
@[simp] theorem State.setLink_saddle_frame (l : Nat) (v : Link) (j : Nat) : (s.setLink l v).saddle j = s.saddle j := rfl
@[simp] theorem State.setLink_cairn_frame (l : Nat) (v : Link) (j : Nat) : (s.setLink l v).cairn j = s.cairn j := rfl
@[simp] theorem State.setLink_session_frame (l : Nat) (v : Link) (j : Nat) : (s.setLink l v).session j = s.session j := rfl
@[simp] theorem State.setLink_mailbox_frame (l : Nat) (v : Link) (j : Nat) : (s.setLink l v).mailbox j = s.mailbox j := rfl
@[simp] theorem State.setLink_obj (l : Nat) (v : Link) (x y : Nat) : (s.setLink l v).obj x y = s.obj x y := rfl
@[simp] theorem State.setLink_byte (l : Nat) (v : Link) (j : Nat) : (s.setLink l v).byte j = s.byte j := rfl
@[simp] theorem State.setLink_beat (l : Nat) (v : Link) (j : Nat) : (s.setLink l v).beat j = s.beat j := rfl

/-! ### setSession -/

@[simp] theorem State.setSession_pending (i : Nat) (v : Session) : (s.setSession i v).pending = s.pending := rfl
@[simp] theorem State.setSession_fresh (i : Nat) (v : Session) : (s.setSession i v).fresh = s.fresh := rfl
@[simp] theorem State.setSession_nextId (i : Nat) (v : Session) : (s.setSession i v).nextId = s.nextId := rfl
@[simp] theorem State.setSession_cores (i : Nat) (v : Session) : (s.setSession i v).cores = s.cores := rfl
@[simp] theorem State.setSession_clusters (i : Nat) (v : Session) : (s.setSession i v).clusters = s.clusters := rfl
@[simp] theorem State.setSession_domains (i : Nat) (v : Session) : (s.setSession i v).domains = s.domains := rfl
@[simp] theorem State.setSession_plinths (i : Nat) (v : Session) : (s.setSession i v).plinths = s.plinths := rfl
@[simp] theorem State.setSession_saddles (i : Nat) (v : Session) : (s.setSession i v).saddles = s.saddles := rfl
@[simp] theorem State.setSession_cairns (i : Nat) (v : Session) : (s.setSession i v).cairns = s.cairns := rfl
@[simp] theorem State.setSession_dram (i : Nat) (v : Session) : (s.setSession i v).dram = s.dram := rfl
@[simp] theorem State.setSession_poison (i : Nat) (v : Session) : (s.setSession i v).poison = s.poison := rfl
@[simp] theorem State.setSession_dramBad (i : Nat) (v : Session) : (s.setSession i v).dramBad = s.dramBad := rfl
@[simp] theorem State.setSession_dramSoft (i : Nat) (v : Session) : (s.setSession i v).dramSoft = s.dramSoft := rfl
@[simp] theorem State.setSession_reqs (i : Nat) (v : Session) : (s.setSession i v).reqs = s.reqs := rfl
@[simp] theorem State.setSession_answers (i : Nat) (v : Session) : (s.setSession i v).answers = s.answers := rfl
@[simp] theorem State.setSession_resend (i : Nat) (v : Session) : (s.setSession i v).resend = s.resend := rfl
@[simp] theorem State.setSession_epochHeld (i : Nat) (v : Session) : (s.setSession i v).epochHeld = s.epochHeld := rfl
@[simp] theorem State.setSession_remote (i : Nat) (v : Session) : (s.setSession i v).remote = s.remote := rfl
@[simp] theorem State.setSession_links (i : Nat) (v : Session) : (s.setSession i v).links = s.links := rfl
@[simp] theorem State.setSession_host (i : Nat) (v : Session) : (s.setSession i v).host = s.host := rfl
@[simp] theorem State.setSession_recovs (i : Nat) (v : Session) : (s.setSession i v).recovs = s.recovs := rfl
@[simp] theorem State.setSession_faultSeq (i : Nat) (v : Session) : (s.setSession i v).faultSeq = s.faultSeq := rfl
@[simp] theorem State.setSession_power (i : Nat) (v : Session) : (s.setSession i v).power = s.power := rfl
@[simp] theorem State.setSession_dict (i : Nat) (v : Session) : (s.setSession i v).dict = s.dict := rfl
@[simp] theorem State.setSession_inUse (i : Nat) (v : Session) : (s.setSession i v).inUse = s.inUse := rfl
@[simp] theorem State.setSession_holder (i : Nat) (v : Session) : (s.setSession i v).holder = s.holder := rfl
@[simp] theorem State.setSession_holderWord (i : Nat) (v : Session) : (s.setSession i v).holderWord = s.holderWord := rfl
@[simp] theorem State.setSession_lease (i : Nat) (v : Session) : (s.setSession i v).lease = s.lease := rfl
@[simp] theorem State.setSession_mailboxes (i : Nat) (v : Session) : (s.setSession i v).mailboxes = s.mailboxes := rfl
@[simp] theorem State.setSession_replies (i : Nat) (v : Session) : (s.setSession i v).replies = s.replies := rfl
@[simp] theorem State.setSession_netSent (i : Nat) (v : Session) : (s.setSession i v).netSent = s.netSent := rfl
@[simp] theorem State.setSession_mgrSent (i : Nat) (v : Session) : (s.setSession i v).mgrSent = s.mgrSent := rfl
@[simp] theorem State.setSession_flash (i : Nat) (v : Session) : (s.setSession i v).flash = s.flash := rfl
@[simp] theorem State.setSession_fuses (i : Nat) (v : Session) : (s.setSession i v).fuses = s.fuses := rfl
@[simp] theorem State.setSession_bist (i : Nat) (v : Session) : (s.setSession i v).bist = s.bist := rfl
@[simp] theorem State.setSession_halted (i : Nat) (v : Session) : (s.setSession i v).halted = s.halted := rfl
@[simp] theorem State.setSession_signQ (i : Nat) (v : Session) : (s.setSession i v).signQ = s.signQ := rfl
@[simp] theorem State.setSession_signWait (i : Nat) (v : Session) : (s.setSession i v).signWait = s.signWait := rfl
@[simp] theorem State.setSession_treeDue (i : Nat) (v : Session) : (s.setSession i v).treeDue = s.treeDue := rfl
@[simp] theorem State.setSession_heldDebug (i : Nat) (v : Session) : (s.setSession i v).heldDebug = s.heldDebug := rfl
@[simp] theorem State.setSession_linksUp (i : Nat) (v : Session) : (s.setSession i v).linksUp = s.linksUp := rfl
@[simp] theorem State.setSession_members (i : Nat) (v : Session) : (s.setSession i v).members = s.members := rfl
@[simp] theorem State.setSession_leaving (i : Nat) (v : Session) : (s.setSession i v).leaving = s.leaving := rfl
@[simp] theorem State.setSession_epochTable (i : Nat) (v : Session) : (s.setSession i v).epochTable = s.epochTable := rfl
@[simp] theorem State.setSession_reports (i : Nat) (v : Session) : (s.setSession i v).reports = s.reports := rfl
@[simp] theorem State.setSession_joining (i : Nat) (v : Session) : (s.setSession i v).joining = s.joining := rfl
@[simp] theorem State.setSession_routeWait (i : Nat) (v : Session) : (s.setSession i v).routeWait = s.routeWait := rfl
@[simp] theorem State.setSession_lost (i : Nat) (v : Session) : (s.setSession i v).lost = s.lost := rfl
@[simp] theorem State.setSession_sumWait (i : Nat) (v : Session) : (s.setSession i v).sumWait = s.sumWait := rfl
@[simp] theorem State.setSession_restores (i : Nat) (v : Session) : (s.setSession i v).restores = s.restores := rfl
@[simp] theorem State.setSession_restored (i : Nat) (v : Session) : (s.setSession i v).restored = s.restored := rfl
@[simp] theorem State.setSession_abandoned (i : Nat) (v : Session) : (s.setSession i v).abandoned = s.abandoned := rfl
@[simp] theorem State.setSession_parked (i : Nat) (v : Session) : (s.setSession i v).parked = s.parked := rfl
@[simp] theorem State.setSession_refugePorts (i : Nat) (v : Session) : (s.setSession i v).refugePorts = s.refugePorts := rfl
@[simp] theorem State.setSession_refugeRest (i : Nat) (v : Session) : (s.setSession i v).refugeRest = s.refugeRest := rfl
@[simp] theorem State.setSession_refuge (i : Nat) (v : Session) : (s.setSession i v).refuge = s.refuge := rfl
@[simp] theorem State.setSession_saveDir (i : Nat) (v : Session) : (s.setSession i v).saveDir = s.saveDir := rfl

@[simp] theorem State.setSession_setSession (i : Nat) (v : Session) (w : Session) :
    (s.setSession i v).setSession i w = s.setSession i w := by
  simp [State.setSession]

theorem State.setSession_session (i : Nat) (v : Session) (j : Nat) : (s.setSession i v).session j = if j = i then v else s.session j :=
  mget_mset sessionDef s.sessions i j v

@[simp] theorem State.setSession_session_same (i : Nat) (v : Session) : (s.setSession i v).session i = v :=
  mget_mset_same sessionDef s.sessions i v

theorem State.setSession_session_ne (i : Nat) (v : Session) (j : Nat) (h : j ≠ i) : (s.setSession i v).session j = s.session j :=
  mget_mset_ne sessionDef s.sessions i j v h

@[simp] theorem State.setSession_core_frame (i : Nat) (v : Session) (j : Nat) : (s.setSession i v).core j = s.core j := rfl
@[simp] theorem State.setSession_cluster_frame (i : Nat) (v : Session) (j : Nat) : (s.setSession i v).cluster j = s.cluster j := rfl
@[simp] theorem State.setSession_domain_frame (i : Nat) (v : Session) (j : Nat) : (s.setSession i v).domain j = s.domain j := rfl
@[simp] theorem State.setSession_plinth_frame (i : Nat) (v : Session) (j : Nat) : (s.setSession i v).plinth j = s.plinth j := rfl
@[simp] theorem State.setSession_saddle_frame (i : Nat) (v : Session) (j : Nat) : (s.setSession i v).saddle j = s.saddle j := rfl
@[simp] theorem State.setSession_cairn_frame (i : Nat) (v : Session) (j : Nat) : (s.setSession i v).cairn j = s.cairn j := rfl
@[simp] theorem State.setSession_link_frame (i : Nat) (v : Session) (j : Nat) : (s.setSession i v).link j = s.link j := rfl
@[simp] theorem State.setSession_mailbox_frame (i : Nat) (v : Session) (j : Nat) : (s.setSession i v).mailbox j = s.mailbox j := rfl
@[simp] theorem State.setSession_obj (i : Nat) (v : Session) (x y : Nat) : (s.setSession i v).obj x y = s.obj x y := rfl
@[simp] theorem State.setSession_byte (i : Nat) (v : Session) (j : Nat) : (s.setSession i v).byte j = s.byte j := rfl
@[simp] theorem State.setSession_beat (i : Nat) (v : Session) (j : Nat) : (s.setSession i v).beat j = s.beat j := rfl

/-! ### setMailbox -/

@[simp] theorem State.setMailbox_pending (i : Nat) (v : Mailbox) : (s.setMailbox i v).pending = s.pending := rfl
@[simp] theorem State.setMailbox_fresh (i : Nat) (v : Mailbox) : (s.setMailbox i v).fresh = s.fresh := rfl
@[simp] theorem State.setMailbox_nextId (i : Nat) (v : Mailbox) : (s.setMailbox i v).nextId = s.nextId := rfl
@[simp] theorem State.setMailbox_cores (i : Nat) (v : Mailbox) : (s.setMailbox i v).cores = s.cores := rfl
@[simp] theorem State.setMailbox_clusters (i : Nat) (v : Mailbox) : (s.setMailbox i v).clusters = s.clusters := rfl
@[simp] theorem State.setMailbox_domains (i : Nat) (v : Mailbox) : (s.setMailbox i v).domains = s.domains := rfl
@[simp] theorem State.setMailbox_plinths (i : Nat) (v : Mailbox) : (s.setMailbox i v).plinths = s.plinths := rfl
@[simp] theorem State.setMailbox_saddles (i : Nat) (v : Mailbox) : (s.setMailbox i v).saddles = s.saddles := rfl
@[simp] theorem State.setMailbox_cairns (i : Nat) (v : Mailbox) : (s.setMailbox i v).cairns = s.cairns := rfl
@[simp] theorem State.setMailbox_dram (i : Nat) (v : Mailbox) : (s.setMailbox i v).dram = s.dram := rfl
@[simp] theorem State.setMailbox_poison (i : Nat) (v : Mailbox) : (s.setMailbox i v).poison = s.poison := rfl
@[simp] theorem State.setMailbox_dramBad (i : Nat) (v : Mailbox) : (s.setMailbox i v).dramBad = s.dramBad := rfl
@[simp] theorem State.setMailbox_dramSoft (i : Nat) (v : Mailbox) : (s.setMailbox i v).dramSoft = s.dramSoft := rfl
@[simp] theorem State.setMailbox_reqs (i : Nat) (v : Mailbox) : (s.setMailbox i v).reqs = s.reqs := rfl
@[simp] theorem State.setMailbox_answers (i : Nat) (v : Mailbox) : (s.setMailbox i v).answers = s.answers := rfl
@[simp] theorem State.setMailbox_resend (i : Nat) (v : Mailbox) : (s.setMailbox i v).resend = s.resend := rfl
@[simp] theorem State.setMailbox_epochHeld (i : Nat) (v : Mailbox) : (s.setMailbox i v).epochHeld = s.epochHeld := rfl
@[simp] theorem State.setMailbox_remote (i : Nat) (v : Mailbox) : (s.setMailbox i v).remote = s.remote := rfl
@[simp] theorem State.setMailbox_links (i : Nat) (v : Mailbox) : (s.setMailbox i v).links = s.links := rfl
@[simp] theorem State.setMailbox_host (i : Nat) (v : Mailbox) : (s.setMailbox i v).host = s.host := rfl
@[simp] theorem State.setMailbox_recovs (i : Nat) (v : Mailbox) : (s.setMailbox i v).recovs = s.recovs := rfl
@[simp] theorem State.setMailbox_faultSeq (i : Nat) (v : Mailbox) : (s.setMailbox i v).faultSeq = s.faultSeq := rfl
@[simp] theorem State.setMailbox_power (i : Nat) (v : Mailbox) : (s.setMailbox i v).power = s.power := rfl
@[simp] theorem State.setMailbox_dict (i : Nat) (v : Mailbox) : (s.setMailbox i v).dict = s.dict := rfl
@[simp] theorem State.setMailbox_inUse (i : Nat) (v : Mailbox) : (s.setMailbox i v).inUse = s.inUse := rfl
@[simp] theorem State.setMailbox_sessions (i : Nat) (v : Mailbox) : (s.setMailbox i v).sessions = s.sessions := rfl
@[simp] theorem State.setMailbox_holder (i : Nat) (v : Mailbox) : (s.setMailbox i v).holder = s.holder := rfl
@[simp] theorem State.setMailbox_holderWord (i : Nat) (v : Mailbox) : (s.setMailbox i v).holderWord = s.holderWord := rfl
@[simp] theorem State.setMailbox_lease (i : Nat) (v : Mailbox) : (s.setMailbox i v).lease = s.lease := rfl
@[simp] theorem State.setMailbox_replies (i : Nat) (v : Mailbox) : (s.setMailbox i v).replies = s.replies := rfl
@[simp] theorem State.setMailbox_netSent (i : Nat) (v : Mailbox) : (s.setMailbox i v).netSent = s.netSent := rfl
@[simp] theorem State.setMailbox_mgrSent (i : Nat) (v : Mailbox) : (s.setMailbox i v).mgrSent = s.mgrSent := rfl
@[simp] theorem State.setMailbox_flash (i : Nat) (v : Mailbox) : (s.setMailbox i v).flash = s.flash := rfl
@[simp] theorem State.setMailbox_fuses (i : Nat) (v : Mailbox) : (s.setMailbox i v).fuses = s.fuses := rfl
@[simp] theorem State.setMailbox_bist (i : Nat) (v : Mailbox) : (s.setMailbox i v).bist = s.bist := rfl
@[simp] theorem State.setMailbox_halted (i : Nat) (v : Mailbox) : (s.setMailbox i v).halted = s.halted := rfl
@[simp] theorem State.setMailbox_signQ (i : Nat) (v : Mailbox) : (s.setMailbox i v).signQ = s.signQ := rfl
@[simp] theorem State.setMailbox_signWait (i : Nat) (v : Mailbox) : (s.setMailbox i v).signWait = s.signWait := rfl
@[simp] theorem State.setMailbox_treeDue (i : Nat) (v : Mailbox) : (s.setMailbox i v).treeDue = s.treeDue := rfl
@[simp] theorem State.setMailbox_heldDebug (i : Nat) (v : Mailbox) : (s.setMailbox i v).heldDebug = s.heldDebug := rfl
@[simp] theorem State.setMailbox_linksUp (i : Nat) (v : Mailbox) : (s.setMailbox i v).linksUp = s.linksUp := rfl
@[simp] theorem State.setMailbox_members (i : Nat) (v : Mailbox) : (s.setMailbox i v).members = s.members := rfl
@[simp] theorem State.setMailbox_leaving (i : Nat) (v : Mailbox) : (s.setMailbox i v).leaving = s.leaving := rfl
@[simp] theorem State.setMailbox_epochTable (i : Nat) (v : Mailbox) : (s.setMailbox i v).epochTable = s.epochTable := rfl
@[simp] theorem State.setMailbox_reports (i : Nat) (v : Mailbox) : (s.setMailbox i v).reports = s.reports := rfl
@[simp] theorem State.setMailbox_joining (i : Nat) (v : Mailbox) : (s.setMailbox i v).joining = s.joining := rfl
@[simp] theorem State.setMailbox_routeWait (i : Nat) (v : Mailbox) : (s.setMailbox i v).routeWait = s.routeWait := rfl
@[simp] theorem State.setMailbox_lost (i : Nat) (v : Mailbox) : (s.setMailbox i v).lost = s.lost := rfl
@[simp] theorem State.setMailbox_sumWait (i : Nat) (v : Mailbox) : (s.setMailbox i v).sumWait = s.sumWait := rfl
@[simp] theorem State.setMailbox_restores (i : Nat) (v : Mailbox) : (s.setMailbox i v).restores = s.restores := rfl
@[simp] theorem State.setMailbox_restored (i : Nat) (v : Mailbox) : (s.setMailbox i v).restored = s.restored := rfl
@[simp] theorem State.setMailbox_abandoned (i : Nat) (v : Mailbox) : (s.setMailbox i v).abandoned = s.abandoned := rfl
@[simp] theorem State.setMailbox_parked (i : Nat) (v : Mailbox) : (s.setMailbox i v).parked = s.parked := rfl
@[simp] theorem State.setMailbox_refugePorts (i : Nat) (v : Mailbox) : (s.setMailbox i v).refugePorts = s.refugePorts := rfl
@[simp] theorem State.setMailbox_refugeRest (i : Nat) (v : Mailbox) : (s.setMailbox i v).refugeRest = s.refugeRest := rfl
@[simp] theorem State.setMailbox_refuge (i : Nat) (v : Mailbox) : (s.setMailbox i v).refuge = s.refuge := rfl
@[simp] theorem State.setMailbox_saveDir (i : Nat) (v : Mailbox) : (s.setMailbox i v).saveDir = s.saveDir := rfl

@[simp] theorem State.setMailbox_setMailbox (i : Nat) (v : Mailbox) (w : Mailbox) :
    (s.setMailbox i v).setMailbox i w = s.setMailbox i w := by
  simp [State.setMailbox]

theorem State.setMailbox_mailbox (i : Nat) (v : Mailbox) (j : Nat) : (s.setMailbox i v).mailbox j = if j = i then v else s.mailbox j :=
  mget_mset mailboxDef s.mailboxes i j v

@[simp] theorem State.setMailbox_mailbox_same (i : Nat) (v : Mailbox) : (s.setMailbox i v).mailbox i = v :=
  mget_mset_same mailboxDef s.mailboxes i v

theorem State.setMailbox_mailbox_ne (i : Nat) (v : Mailbox) (j : Nat) (h : j ≠ i) : (s.setMailbox i v).mailbox j = s.mailbox j :=
  mget_mset_ne mailboxDef s.mailboxes i j v h

@[simp] theorem State.setMailbox_core_frame (i : Nat) (v : Mailbox) (j : Nat) : (s.setMailbox i v).core j = s.core j := rfl
@[simp] theorem State.setMailbox_cluster_frame (i : Nat) (v : Mailbox) (j : Nat) : (s.setMailbox i v).cluster j = s.cluster j := rfl
@[simp] theorem State.setMailbox_domain_frame (i : Nat) (v : Mailbox) (j : Nat) : (s.setMailbox i v).domain j = s.domain j := rfl
@[simp] theorem State.setMailbox_plinth_frame (i : Nat) (v : Mailbox) (j : Nat) : (s.setMailbox i v).plinth j = s.plinth j := rfl
@[simp] theorem State.setMailbox_saddle_frame (i : Nat) (v : Mailbox) (j : Nat) : (s.setMailbox i v).saddle j = s.saddle j := rfl
@[simp] theorem State.setMailbox_cairn_frame (i : Nat) (v : Mailbox) (j : Nat) : (s.setMailbox i v).cairn j = s.cairn j := rfl
@[simp] theorem State.setMailbox_link_frame (i : Nat) (v : Mailbox) (j : Nat) : (s.setMailbox i v).link j = s.link j := rfl
@[simp] theorem State.setMailbox_session_frame (i : Nat) (v : Mailbox) (j : Nat) : (s.setMailbox i v).session j = s.session j := rfl
@[simp] theorem State.setMailbox_obj (i : Nat) (v : Mailbox) (x y : Nat) : (s.setMailbox i v).obj x y = s.obj x y := rfl
@[simp] theorem State.setMailbox_byte (i : Nat) (v : Mailbox) (j : Nat) : (s.setMailbox i v).byte j = s.byte j := rfl
@[simp] theorem State.setMailbox_beat (i : Nat) (v : Mailbox) (j : Nat) : (s.setMailbox i v).beat j = s.beat j := rfl

/-! ### setObj -/

@[simp] theorem State.setObj_pending (idx sub v : Nat) : (s.setObj idx sub v).pending = s.pending := rfl
@[simp] theorem State.setObj_fresh (idx sub v : Nat) : (s.setObj idx sub v).fresh = s.fresh := rfl
@[simp] theorem State.setObj_nextId (idx sub v : Nat) : (s.setObj idx sub v).nextId = s.nextId := rfl
@[simp] theorem State.setObj_cores (idx sub v : Nat) : (s.setObj idx sub v).cores = s.cores := rfl
@[simp] theorem State.setObj_clusters (idx sub v : Nat) : (s.setObj idx sub v).clusters = s.clusters := rfl
@[simp] theorem State.setObj_domains (idx sub v : Nat) : (s.setObj idx sub v).domains = s.domains := rfl
@[simp] theorem State.setObj_plinths (idx sub v : Nat) : (s.setObj idx sub v).plinths = s.plinths := rfl
@[simp] theorem State.setObj_saddles (idx sub v : Nat) : (s.setObj idx sub v).saddles = s.saddles := rfl
@[simp] theorem State.setObj_cairns (idx sub v : Nat) : (s.setObj idx sub v).cairns = s.cairns := rfl
@[simp] theorem State.setObj_dram (idx sub v : Nat) : (s.setObj idx sub v).dram = s.dram := rfl
@[simp] theorem State.setObj_poison (idx sub v : Nat) : (s.setObj idx sub v).poison = s.poison := rfl
@[simp] theorem State.setObj_dramBad (idx sub v : Nat) : (s.setObj idx sub v).dramBad = s.dramBad := rfl
@[simp] theorem State.setObj_dramSoft (idx sub v : Nat) : (s.setObj idx sub v).dramSoft = s.dramSoft := rfl
@[simp] theorem State.setObj_reqs (idx sub v : Nat) : (s.setObj idx sub v).reqs = s.reqs := rfl
@[simp] theorem State.setObj_answers (idx sub v : Nat) : (s.setObj idx sub v).answers = s.answers := rfl
@[simp] theorem State.setObj_resend (idx sub v : Nat) : (s.setObj idx sub v).resend = s.resend := rfl
@[simp] theorem State.setObj_epochHeld (idx sub v : Nat) : (s.setObj idx sub v).epochHeld = s.epochHeld := rfl
@[simp] theorem State.setObj_remote (idx sub v : Nat) : (s.setObj idx sub v).remote = s.remote := rfl
@[simp] theorem State.setObj_links (idx sub v : Nat) : (s.setObj idx sub v).links = s.links := rfl
@[simp] theorem State.setObj_host (idx sub v : Nat) : (s.setObj idx sub v).host = s.host := rfl
@[simp] theorem State.setObj_recovs (idx sub v : Nat) : (s.setObj idx sub v).recovs = s.recovs := rfl
@[simp] theorem State.setObj_faultSeq (idx sub v : Nat) : (s.setObj idx sub v).faultSeq = s.faultSeq := rfl
@[simp] theorem State.setObj_power (idx sub v : Nat) : (s.setObj idx sub v).power = s.power := rfl
@[simp] theorem State.setObj_inUse (idx sub v : Nat) : (s.setObj idx sub v).inUse = s.inUse := rfl
@[simp] theorem State.setObj_sessions (idx sub v : Nat) : (s.setObj idx sub v).sessions = s.sessions := rfl
@[simp] theorem State.setObj_holder (idx sub v : Nat) : (s.setObj idx sub v).holder = s.holder := rfl
@[simp] theorem State.setObj_holderWord (idx sub v : Nat) : (s.setObj idx sub v).holderWord = s.holderWord := rfl
@[simp] theorem State.setObj_lease (idx sub v : Nat) : (s.setObj idx sub v).lease = s.lease := rfl
@[simp] theorem State.setObj_mailboxes (idx sub v : Nat) : (s.setObj idx sub v).mailboxes = s.mailboxes := rfl
@[simp] theorem State.setObj_replies (idx sub v : Nat) : (s.setObj idx sub v).replies = s.replies := rfl
@[simp] theorem State.setObj_netSent (idx sub v : Nat) : (s.setObj idx sub v).netSent = s.netSent := rfl
@[simp] theorem State.setObj_mgrSent (idx sub v : Nat) : (s.setObj idx sub v).mgrSent = s.mgrSent := rfl
@[simp] theorem State.setObj_flash (idx sub v : Nat) : (s.setObj idx sub v).flash = s.flash := rfl
@[simp] theorem State.setObj_fuses (idx sub v : Nat) : (s.setObj idx sub v).fuses = s.fuses := rfl
@[simp] theorem State.setObj_bist (idx sub v : Nat) : (s.setObj idx sub v).bist = s.bist := rfl
@[simp] theorem State.setObj_halted (idx sub v : Nat) : (s.setObj idx sub v).halted = s.halted := rfl
@[simp] theorem State.setObj_signQ (idx sub v : Nat) : (s.setObj idx sub v).signQ = s.signQ := rfl
@[simp] theorem State.setObj_signWait (idx sub v : Nat) : (s.setObj idx sub v).signWait = s.signWait := rfl
@[simp] theorem State.setObj_treeDue (idx sub v : Nat) : (s.setObj idx sub v).treeDue = s.treeDue := rfl
@[simp] theorem State.setObj_heldDebug (idx sub v : Nat) : (s.setObj idx sub v).heldDebug = s.heldDebug := rfl
@[simp] theorem State.setObj_linksUp (idx sub v : Nat) : (s.setObj idx sub v).linksUp = s.linksUp := rfl
@[simp] theorem State.setObj_members (idx sub v : Nat) : (s.setObj idx sub v).members = s.members := rfl
@[simp] theorem State.setObj_leaving (idx sub v : Nat) : (s.setObj idx sub v).leaving = s.leaving := rfl
@[simp] theorem State.setObj_epochTable (idx sub v : Nat) : (s.setObj idx sub v).epochTable = s.epochTable := rfl
@[simp] theorem State.setObj_reports (idx sub v : Nat) : (s.setObj idx sub v).reports = s.reports := rfl
@[simp] theorem State.setObj_joining (idx sub v : Nat) : (s.setObj idx sub v).joining = s.joining := rfl
@[simp] theorem State.setObj_routeWait (idx sub v : Nat) : (s.setObj idx sub v).routeWait = s.routeWait := rfl
@[simp] theorem State.setObj_lost (idx sub v : Nat) : (s.setObj idx sub v).lost = s.lost := rfl
@[simp] theorem State.setObj_sumWait (idx sub v : Nat) : (s.setObj idx sub v).sumWait = s.sumWait := rfl
@[simp] theorem State.setObj_restores (idx sub v : Nat) : (s.setObj idx sub v).restores = s.restores := rfl
@[simp] theorem State.setObj_restored (idx sub v : Nat) : (s.setObj idx sub v).restored = s.restored := rfl
@[simp] theorem State.setObj_abandoned (idx sub v : Nat) : (s.setObj idx sub v).abandoned = s.abandoned := rfl
@[simp] theorem State.setObj_parked (idx sub v : Nat) : (s.setObj idx sub v).parked = s.parked := rfl
@[simp] theorem State.setObj_refugePorts (idx sub v : Nat) : (s.setObj idx sub v).refugePorts = s.refugePorts := rfl
@[simp] theorem State.setObj_refugeRest (idx sub v : Nat) : (s.setObj idx sub v).refugeRest = s.refugeRest := rfl
@[simp] theorem State.setObj_refuge (idx sub v : Nat) : (s.setObj idx sub v).refuge = s.refuge := rfl
@[simp] theorem State.setObj_saveDir (idx sub v : Nat) : (s.setObj idx sub v).saveDir = s.saveDir := rfl

@[simp] theorem State.setObj_setObj (idx sub v : Nat) (w : Nat) :
    (s.setObj idx sub v).setObj idx sub w = s.setObj idx sub w := by
  simp [State.setObj]

@[simp] theorem State.setObj_core_frame (idx sub v : Nat) (j : Nat) : (s.setObj idx sub v).core j = s.core j := rfl
@[simp] theorem State.setObj_cluster_frame (idx sub v : Nat) (j : Nat) : (s.setObj idx sub v).cluster j = s.cluster j := rfl
@[simp] theorem State.setObj_domain_frame (idx sub v : Nat) (j : Nat) : (s.setObj idx sub v).domain j = s.domain j := rfl
@[simp] theorem State.setObj_plinth_frame (idx sub v : Nat) (j : Nat) : (s.setObj idx sub v).plinth j = s.plinth j := rfl
@[simp] theorem State.setObj_saddle_frame (idx sub v : Nat) (j : Nat) : (s.setObj idx sub v).saddle j = s.saddle j := rfl
@[simp] theorem State.setObj_cairn_frame (idx sub v : Nat) (j : Nat) : (s.setObj idx sub v).cairn j = s.cairn j := rfl
@[simp] theorem State.setObj_link_frame (idx sub v : Nat) (j : Nat) : (s.setObj idx sub v).link j = s.link j := rfl
@[simp] theorem State.setObj_session_frame (idx sub v : Nat) (j : Nat) : (s.setObj idx sub v).session j = s.session j := rfl
@[simp] theorem State.setObj_mailbox_frame (idx sub v : Nat) (j : Nat) : (s.setObj idx sub v).mailbox j = s.mailbox j := rfl
@[simp] theorem State.setObj_byte (idx sub v : Nat) (j : Nat) : (s.setObj idx sub v).byte j = s.byte j := rfl
@[simp] theorem State.setObj_beat (idx sub v : Nat) (j : Nat) : (s.setObj idx sub v).beat j = s.beat j := rfl

/-! ### setByte -/

@[simp] theorem State.setByte_pending (a : Nat) (b : Byte) : (s.setByte a b).pending = s.pending := rfl
@[simp] theorem State.setByte_fresh (a : Nat) (b : Byte) : (s.setByte a b).fresh = s.fresh := rfl
@[simp] theorem State.setByte_nextId (a : Nat) (b : Byte) : (s.setByte a b).nextId = s.nextId := rfl
@[simp] theorem State.setByte_cores (a : Nat) (b : Byte) : (s.setByte a b).cores = s.cores := rfl
@[simp] theorem State.setByte_clusters (a : Nat) (b : Byte) : (s.setByte a b).clusters = s.clusters := rfl
@[simp] theorem State.setByte_domains (a : Nat) (b : Byte) : (s.setByte a b).domains = s.domains := rfl
@[simp] theorem State.setByte_plinths (a : Nat) (b : Byte) : (s.setByte a b).plinths = s.plinths := rfl
@[simp] theorem State.setByte_saddles (a : Nat) (b : Byte) : (s.setByte a b).saddles = s.saddles := rfl
@[simp] theorem State.setByte_cairns (a : Nat) (b : Byte) : (s.setByte a b).cairns = s.cairns := rfl
@[simp] theorem State.setByte_poison (a : Nat) (b : Byte) : (s.setByte a b).poison = s.poison := rfl
@[simp] theorem State.setByte_dramBad (a : Nat) (b : Byte) : (s.setByte a b).dramBad = s.dramBad := rfl
@[simp] theorem State.setByte_dramSoft (a : Nat) (b : Byte) : (s.setByte a b).dramSoft = s.dramSoft := rfl
@[simp] theorem State.setByte_reqs (a : Nat) (b : Byte) : (s.setByte a b).reqs = s.reqs := rfl
@[simp] theorem State.setByte_answers (a : Nat) (b : Byte) : (s.setByte a b).answers = s.answers := rfl
@[simp] theorem State.setByte_resend (a : Nat) (b : Byte) : (s.setByte a b).resend = s.resend := rfl
@[simp] theorem State.setByte_epochHeld (a : Nat) (b : Byte) : (s.setByte a b).epochHeld = s.epochHeld := rfl
@[simp] theorem State.setByte_remote (a : Nat) (b : Byte) : (s.setByte a b).remote = s.remote := rfl
@[simp] theorem State.setByte_links (a : Nat) (b : Byte) : (s.setByte a b).links = s.links := rfl
@[simp] theorem State.setByte_host (a : Nat) (b : Byte) : (s.setByte a b).host = s.host := rfl
@[simp] theorem State.setByte_recovs (a : Nat) (b : Byte) : (s.setByte a b).recovs = s.recovs := rfl
@[simp] theorem State.setByte_faultSeq (a : Nat) (b : Byte) : (s.setByte a b).faultSeq = s.faultSeq := rfl
@[simp] theorem State.setByte_power (a : Nat) (b : Byte) : (s.setByte a b).power = s.power := rfl
@[simp] theorem State.setByte_dict (a : Nat) (b : Byte) : (s.setByte a b).dict = s.dict := rfl
@[simp] theorem State.setByte_inUse (a : Nat) (b : Byte) : (s.setByte a b).inUse = s.inUse := rfl
@[simp] theorem State.setByte_sessions (a : Nat) (b : Byte) : (s.setByte a b).sessions = s.sessions := rfl
@[simp] theorem State.setByte_holder (a : Nat) (b : Byte) : (s.setByte a b).holder = s.holder := rfl
@[simp] theorem State.setByte_holderWord (a : Nat) (b : Byte) : (s.setByte a b).holderWord = s.holderWord := rfl
@[simp] theorem State.setByte_lease (a : Nat) (b : Byte) : (s.setByte a b).lease = s.lease := rfl
@[simp] theorem State.setByte_mailboxes (a : Nat) (b : Byte) : (s.setByte a b).mailboxes = s.mailboxes := rfl
@[simp] theorem State.setByte_replies (a : Nat) (b : Byte) : (s.setByte a b).replies = s.replies := rfl
@[simp] theorem State.setByte_netSent (a : Nat) (b : Byte) : (s.setByte a b).netSent = s.netSent := rfl
@[simp] theorem State.setByte_mgrSent (a : Nat) (b : Byte) : (s.setByte a b).mgrSent = s.mgrSent := rfl
@[simp] theorem State.setByte_flash (a : Nat) (b : Byte) : (s.setByte a b).flash = s.flash := rfl
@[simp] theorem State.setByte_fuses (a : Nat) (b : Byte) : (s.setByte a b).fuses = s.fuses := rfl
@[simp] theorem State.setByte_bist (a : Nat) (b : Byte) : (s.setByte a b).bist = s.bist := rfl
@[simp] theorem State.setByte_halted (a : Nat) (b : Byte) : (s.setByte a b).halted = s.halted := rfl
@[simp] theorem State.setByte_signQ (a : Nat) (b : Byte) : (s.setByte a b).signQ = s.signQ := rfl
@[simp] theorem State.setByte_signWait (a : Nat) (b : Byte) : (s.setByte a b).signWait = s.signWait := rfl
@[simp] theorem State.setByte_treeDue (a : Nat) (b : Byte) : (s.setByte a b).treeDue = s.treeDue := rfl
@[simp] theorem State.setByte_heldDebug (a : Nat) (b : Byte) : (s.setByte a b).heldDebug = s.heldDebug := rfl
@[simp] theorem State.setByte_linksUp (a : Nat) (b : Byte) : (s.setByte a b).linksUp = s.linksUp := rfl
@[simp] theorem State.setByte_members (a : Nat) (b : Byte) : (s.setByte a b).members = s.members := rfl
@[simp] theorem State.setByte_leaving (a : Nat) (b : Byte) : (s.setByte a b).leaving = s.leaving := rfl
@[simp] theorem State.setByte_epochTable (a : Nat) (b : Byte) : (s.setByte a b).epochTable = s.epochTable := rfl
@[simp] theorem State.setByte_reports (a : Nat) (b : Byte) : (s.setByte a b).reports = s.reports := rfl
@[simp] theorem State.setByte_joining (a : Nat) (b : Byte) : (s.setByte a b).joining = s.joining := rfl
@[simp] theorem State.setByte_routeWait (a : Nat) (b : Byte) : (s.setByte a b).routeWait = s.routeWait := rfl
@[simp] theorem State.setByte_lost (a : Nat) (b : Byte) : (s.setByte a b).lost = s.lost := rfl
@[simp] theorem State.setByte_sumWait (a : Nat) (b : Byte) : (s.setByte a b).sumWait = s.sumWait := rfl
@[simp] theorem State.setByte_restores (a : Nat) (b : Byte) : (s.setByte a b).restores = s.restores := rfl
@[simp] theorem State.setByte_restored (a : Nat) (b : Byte) : (s.setByte a b).restored = s.restored := rfl
@[simp] theorem State.setByte_abandoned (a : Nat) (b : Byte) : (s.setByte a b).abandoned = s.abandoned := rfl
@[simp] theorem State.setByte_parked (a : Nat) (b : Byte) : (s.setByte a b).parked = s.parked := rfl
@[simp] theorem State.setByte_refugePorts (a : Nat) (b : Byte) : (s.setByte a b).refugePorts = s.refugePorts := rfl
@[simp] theorem State.setByte_refugeRest (a : Nat) (b : Byte) : (s.setByte a b).refugeRest = s.refugeRest := rfl
@[simp] theorem State.setByte_refuge (a : Nat) (b : Byte) : (s.setByte a b).refuge = s.refuge := rfl
@[simp] theorem State.setByte_saveDir (a : Nat) (b : Byte) : (s.setByte a b).saveDir = s.saveDir := rfl

@[simp] theorem State.setByte_setByte (a : Nat) (b : Byte) (w : Byte) :
    (s.setByte a b).setByte a w = s.setByte a w := by
  simp [State.setByte]

@[simp] theorem State.setByte_core_frame (a : Nat) (b : Byte) (j : Nat) : (s.setByte a b).core j = s.core j := rfl
@[simp] theorem State.setByte_cluster_frame (a : Nat) (b : Byte) (j : Nat) : (s.setByte a b).cluster j = s.cluster j := rfl
@[simp] theorem State.setByte_domain_frame (a : Nat) (b : Byte) (j : Nat) : (s.setByte a b).domain j = s.domain j := rfl
@[simp] theorem State.setByte_plinth_frame (a : Nat) (b : Byte) (j : Nat) : (s.setByte a b).plinth j = s.plinth j := rfl
@[simp] theorem State.setByte_saddle_frame (a : Nat) (b : Byte) (j : Nat) : (s.setByte a b).saddle j = s.saddle j := rfl
@[simp] theorem State.setByte_cairn_frame (a : Nat) (b : Byte) (j : Nat) : (s.setByte a b).cairn j = s.cairn j := rfl
@[simp] theorem State.setByte_link_frame (a : Nat) (b : Byte) (j : Nat) : (s.setByte a b).link j = s.link j := rfl
@[simp] theorem State.setByte_session_frame (a : Nat) (b : Byte) (j : Nat) : (s.setByte a b).session j = s.session j := rfl
@[simp] theorem State.setByte_mailbox_frame (a : Nat) (b : Byte) (j : Nat) : (s.setByte a b).mailbox j = s.mailbox j := rfl
@[simp] theorem State.setByte_obj (a : Nat) (b : Byte) (x y : Nat) : (s.setByte a b).obj x y = s.obj x y := rfl
@[simp] theorem State.setByte_beat (a : Nat) (b : Byte) (j : Nat) : (s.setByte a b).beat j = s.beat j := rfl

theorem State.setByte_byte (a j : Nat) (b : Byte) : (s.setByte a b).byte j = if j = a then b else s.byte j :=
  mget_mset memDefault s.dram a j b

@[simp] theorem State.setByte_byte_same (a : Nat) (b : Byte) : (s.setByte a b).byte a = b :=
  mget_mset_same memDefault s.dram a b

theorem State.setByte_byte_ne (a j : Nat) (b : Byte) (h : j ≠ a) : (s.setByte a b).byte j = s.byte j :=
  mget_mset_ne memDefault s.dram a j b h

theorem State.setObj_obj (idx sub v i j : Nat) :
    (s.setObj idx sub v).obj i j = if okey i j = okey idx sub then v else s.obj i j :=
  mget_mset objDefault s.dict (okey idx sub) (okey i j) v

@[simp] theorem State.setObj_obj_same (idx sub v : Nat) : (s.setObj idx sub v).obj idx sub = v :=
  mget_mset_same objDefault s.dict (okey idx sub) v

theorem State.setObj_obj_ne (idx sub v i j : Nat) (h : okey i j ≠ okey idx sub) :
    (s.setObj idx sub v).obj i j = s.obj i j :=
  mget_mset_ne objDefault s.dict (okey idx sub) (okey i j) v h

/-! ### Memory -/

/-- The canonical form of memory: addresses strictly rising, no entry equal to what an unlisted address reads as. -/
theorem Memory.wf_setByte (a : Nat) (b : Byte) (h : Memory.wf s.dram = true) : Memory.wf (s.setByte a b).dram = true :=
  mwf_mset memDefault s.dram a b h

theorem Memory.wf_writeBytes (a : Nat) (bs : List Byte) (h : Memory.wf s.dram = true) :
    Memory.wf (s.writeBytes a bs).dram = true := by
  induction bs generalizing s a with
  | nil => exact h
  | cons b bs ih => exact ih (s.setByte a b) (a + 1) (Memory.wf_setByte s a b h)

theorem Memory.wf_writeMasked (a mask data n : Nat) (h : Memory.wf s.dram = true) :
    Memory.wf (s.writeMasked a mask data n).dram = true := by
  induction n generalizing s a mask data with
  | zero => exact h
  | succ n ih =>
    rw [State.writeMasked]
    apply ih
    split
    · exact Memory.wf_setByte s a _ h
    · exact h

theorem State.writeBytes_byte_ne (a j : Nat) (bs : List Byte) (h : j < a ∨ a + bs.length ≤ j) :
    (s.writeBytes a bs).byte j = s.byte j := by
  induction bs generalizing s a with
  | nil => rfl
  | cons b bs ih =>
    rw [State.writeBytes, ih (s.setByte a b) (a + 1) (by simp at h; omega), State.setByte_byte_ne]
    simp at h
    omega

theorem State.writeMasked_byte_ne (a mask data n j : Nat) (h : j < a ∨ a + n ≤ j) :
    (s.writeMasked a mask data n).byte j = s.byte j := by
  induction n generalizing s a mask data with
  | zero => rfl
  | succ n ih =>
    rw [State.writeMasked, ih _ (a + 1) _ _ (by omega)]
    split
    · exact State.setByte_byte_ne s a j _ (by omega)
    · rfl

end Sys2Proof.Machine
end

