-- ==== Sys2Proof/Laws/Issue.lean ====
section
/-! SUPPORT. What the issue of an instruction does, said once: where it issues it does what its body says at the state of its
issue beat, and an instruction that completes in sequence leaves its core past it. -/

namespace Sys2Proof.Machine

theorem State.mayIssue_iff (s : State) (c : Nat) :
    s.mayIssue c = true ↔ s.canIssue c = true ∧ (s.core c).absent (s.issueActive c) = none
      ∧ (!coreBoot c && s.stopAsked (clusterOf c) && (s.core c).boundary (s.issueBeat c)) = false
      ∧ ((s.core c).boundary (s.issueBeat c) && (((s.atIssue c).core c).interrupt (coreBoot c)).isSome) = false
      ∧ (s.atIssue c).fetch c = none := by
  simp only [State.mayIssue, Bool.and_eq_true, Option.isNone_iff_eq_none, Bool.not_eq_true']
  tauto

/-- A core that can be given an instruction makes no tile move. -/
theorem State.moveOver_of_canIssue {s : State} {c : Nat} (h : s.canIssue c = true) : s.moveOver c = s := by
  have hm : (s.core c).move = none := by
    simp only [State.canIssue, Core.free, Bool.and_eq_true, Option.isNone_iff_eq_none] at h
    tauto
  unfold State.moveOver
  rw [hm]

/-- Issue of an instruction that nothing keeps from issuing. -/
theorem State.issue_of_mayIssue {s : State} {c : CoreId} {i : Instr} (body : State → Nat → Res)
    (h : s.mayIssue c = true) :
    s.issue c i body =
      (if !legalInstr i || (isControl i && (((s.atIssue c).core c).slot.isSome || ((s.atIssue c).core c).atLend)) then
        (s.atIssue c).finish c (s.issueBeat c) i (.raise causeIllegal (wordOf i)) (s.atFreeze c)
      else (s.atIssue c).finish c (s.issueBeat c) i (body (s.atIssue c) (s.issueBeat c)) (s.atFreeze c)) := by
  obtain ⟨h1, h2, h3, h5, h4⟩ := (State.mayIssue_iff s c).1 h
  unfold State.issue State.issueNow
  rw [State.moveOver_of_canIssue h1]
  simp only [h1, Bool.not_true, Bool.false_eq_true, if_false]
  have h2' : (s.core c).absent ((s.core c).active (Nat.max (s.beat (coreDomain c)) (s.core c).next)) = none := h2
  rw [h2']
  dsimp only
  have h3' : (!coreBoot c && s.stopAsked (clusterOf c)
      && (s.core c).boundary (Nat.max (s.beat (coreDomain c)) (s.core c).next)) = false := h3
  rw [h3']
  have h5' : ((s.core c).boundary (Nat.max (s.beat (coreDomain c)) (s.core c).next) &&
      (((((s.toBeat (coreDomain c) (Nat.max (s.beat (coreDomain c)) (s.core c).next)).landAll c
        ((s.core c).active (Nat.max (s.beat (coreDomain c)) (s.core c).next))).modCore c
        (fun k => k.canvasTo (Nat.max (s.beat (coreDomain c)) (s.core c).next))).core c).interrupt (coreBoot c)).isSome)
      = false := h5
  rw [h5']
  simp only [Bool.false_eq_true, if_false]
  have h4' : (((s.toBeat (coreDomain c) (Nat.max (s.beat (coreDomain c)) (s.core c).next)).landAll c
      ((s.core c).active (Nat.max (s.beat (coreDomain c)) (s.core c).next))).modCore c
      (fun k => k.canvasTo (Nat.max (s.beat (coreDomain c)) (s.core c).next))).fetch c = none := h4
  rw [h4']
  rfl

/-- Issue of an instruction that issues and is legal where it stands: its body. -/
theorem State.issue_of_issues {s : State} {c : CoreId} {i : Instr} (body : State → Nat → Res)
    (h : s.issues c i = true) :
    s.issue c i body = (s.atIssue c).finish c (s.issueBeat c) i (body (s.atIssue c) (s.issueBeat c)) (s.atFreeze c) := by
  simp only [State.issues, Bool.and_eq_true, Bool.not_eq_true'] at h
  rw [State.issue_of_mayIssue body h.1.1, h.1.2, h.2]
  rfl

/-- Retirement in sequence, of a core at no loop's end. -/
theorem Core.retire_seq (k : Core) (x : Word) (b : Nat) :
    { (({ k with tprog := x } : Core).retire .seq) with next := Nat.max k.next (b + 1), noIntr := false } =
      { k.past b with tprog := x } := by
  have h : ({ k with tprog := x } : Core).atLend = k.atLend := rfl
  unfold Core.retire Core.past
  rw [h]
  generalize k.atLend = l
  rcases hs : k.slot with _ | t <;> cases l <;> by_cases h1 : wf k.lcnt 31 0 = 1 <;> simp [h1]

theorem State.modCore_congr (s : State) (c : Nat) (f g : Core → Core) (h : ∀ k, f k = g k) :
    s.modCore c f = s.modCore c g := by
  have : f = g := funext h
  rw [this]

/-- An instruction that completes in sequence and is neither a transfer nor a control transfer. -/
theorem State.finish_seq {s t u : State} {c : Nat} {b : Nat} {i : Instr} (ht : isTransfer i = false)
    (hc : isControl i = false) : s.finish c b i (.done t .seq) u = t.modCore c (fun k => k.past b) := by
  unfold State.finish
  refine State.modCore_congr t c _ _ fun k => ?_
  have h1 : k.clearValid i = { k with tprog := wsetb k.tprog 15 false } := by
    rw [Core.clearValid, ht]
    rfl
  have h2 := Core.retire_seq k (wsetb k.tprog 15 false) b
  rw [h1, hc]
  exact h2

/-- An instruction that only gives the core new registers and results. -/
theorem State.issue_coreBody {s : State} {c : CoreId} {i : Instr} (f : Core → Nat → Core) (ht : isTransfer i = false)
    (hc : isControl i = false) (h : s.issues c i = true) :
    s.issue c i (coreBody c f) = (s.atIssue c).modCore c
      (fun k => (f k (k.active (s.issueBeat c))).past (s.issueBeat c)) := by
  rw [State.issue_of_issues _ h, coreBody, State.finish_seq ht hc]
  simp only [State.modCore_eq, State.setCore_core_same, State.setCore_setCore]

end Sys2Proof.Machine
end

