-- ==== Sys2Proof/Laws/Memory.lean ====
section
/-! SUPPORT. The laws of local DRAM: every operation keeps its canonical form and changes nothing but DRAM; a read after a write
gives what was written, and every byte outside the written ones reads as before. -/

namespace Sys2Proof.Machine

/-! ### One byte -/

theorem State.byte_setByte (s : State) (a x : Nat) (b : Byte) : (s.setByte a b).byte x = if x = a then b else s.byte x :=
  mget_mset _ _ _ _ _

theorem State.setByte_eq (s : State) (a : Nat) (b : Byte) : s.setByte a b = { s with dram := (s.setByte a b).dram } := rfl

/-! ### Several bytes -/

/-- Writing bytes changes nothing but DRAM. -/
theorem State.writeBytes_eq (bs : List Byte) : ∀ (s : State) (a : Nat),
    s.writeBytes a bs = { s with dram := (s.writeBytes a bs).dram } := by
  induction bs with
  | nil => intro s a; rfl
  | cons b bs ih => intro s a; exact (ih (s.setByte a b) (a + 1)).trans rfl

theorem State.byte_writeBytes_below (bs : List Byte) : ∀ (s : State) (a x : Nat), x < a → (s.writeBytes a bs).byte x = s.byte x := by
  induction bs with
  | nil => intro s a x _; rfl
  | cons b bs ih =>
    intro s a x h
    rw [State.writeBytes, ih _ _ _ (by omega), State.byte_setByte, if_neg (by omega)]

/-- A read after a write of bytes. -/
theorem State.byte_writeBytes (bs : List Byte) : ∀ (s : State) (a x : Nat),
    (s.writeBytes a bs).byte x = if a ≤ x ∧ x < a + bs.length then bs.getD (x - a) 0 else s.byte x := by
  induction bs with
  | nil => intro s a x; rw [if_neg (by simp)]; rfl
  | cons b bs ih =>
    intro s a x
    rw [State.writeBytes]
    by_cases h : x = a
    · subst h
      rw [State.byte_writeBytes_below _ _ _ _ (by omega), State.byte_setByte, if_pos rfl, if_pos (by simp)]
      simp
    · rw [ih, State.byte_setByte, if_neg h]
      by_cases h1 : a + 1 ≤ x ∧ x < a + 1 + bs.length
      · rw [if_pos h1, if_pos (by simp only [List.length_cons]; omega)]
        have h2 : x - a = (x - (a + 1)) + 1 := by omega
        rw [h2, List.getD_cons_succ]
      · rw [if_neg h1, if_neg (by simp only [List.length_cons]; omega)]

/-! ### Bytes under a mask -/

theorem State.writeMasked_eq (n : Nat) : ∀ (s : State) (a mask data : Nat),
    s.writeMasked a mask data n = { s with dram := (s.writeMasked a mask data n).dram } := by
  induction n with
  | zero => intro s a m d; rfl
  | succ n ih =>
    intro s a m d
    unfold State.writeMasked
    refine (ih _ _ _ _).trans ?_
    dsimp only
    split <;> rfl

theorem State.byte_writeMasked_below (n : Nat) : ∀ (s : State) (a mask data x : Nat), x < a →
    (s.writeMasked a mask data n).byte x = s.byte x := by
  induction n with
  | zero => intro s a m d x _; rfl
  | succ n ih =>
    intro s a m d x h
    unfold State.writeMasked
    rw [ih _ _ _ _ _ (by omega)]
    split
    · rw [State.byte_setByte, if_neg (by omega)]
    · rfl

/-- A read after a write under a mask. -/
theorem State.byte_writeMasked (n : Nat) : ∀ (s : State) (a mask data x : Nat),
    (s.writeMasked a mask data n).byte x =
      if a ≤ x ∧ x < a + n ∧ mask.testBit (x - a) = true then BitVec.ofNat 8 (data / 256 ^ (x - a)) else s.byte x := by
  induction n with
  | zero => intro s a m d x; rw [if_neg (by omega)]; rfl
  | succ n ih =>
    intro s a m d x
    unfold State.writeMasked
    by_cases h : x = a
    · subst h
      rw [State.byte_writeMasked_below _ _ _ _ _ _ (by omega)]
      by_cases hm : m % 2 = 1
      · rw [if_pos (by simp [hm]), State.byte_setByte, if_pos rfl, if_pos (by simp [hm])]
        simp
      · rw [if_neg (by simp [hm]), if_neg (by simp [hm])]
    · rw [ih]
      have hs : (if (m % 2 == 1) = true then s.setByte a (BitVec.ofNat 8 d) else s).byte x = s.byte x := by
        split
        · rw [State.byte_setByte, if_neg h]
        · rfl
      rw [hs]
      by_cases h1 : a + 1 ≤ x
      · have h2 : x - a = (x - (a + 1)) + 1 := by omega
        have h3 : m.testBit (x - a) = (m / 2).testBit (x - (a + 1)) := by rw [h2, Nat.testBit_succ]
        have h4 : d / 256 ^ (x - a) = d / 256 / 256 ^ (x - (a + 1)) := by
          rw [h2, Nat.pow_succ, Nat.mul_comm, Nat.div_div_eq_div_mul]
        rw [h3, h4]
        by_cases h5 : x < a + (n + 1) ∧ (m / 2).testBit (x - (a + 1)) = true
        · rw [if_pos ⟨by omega, by omega, h5.2⟩, if_pos ⟨by omega, h5⟩]
        · rw [if_neg (by rintro ⟨_, h6, h7⟩; exact h5 ⟨by omega, h7⟩), if_neg (by rintro ⟨_, h6⟩; exact h5 h6)]
      · rw [if_neg (by omega), if_neg (by omega)]

/-! ### Reads -/

theorem State.readBytes_length (n : Nat) : ∀ (s : State) (a : Nat), (s.readBytes a n).length = n := by
  induction n with
  | zero => intro s a; rfl
  | succ n ih => intro s a; simp [State.readBytes, ih]

theorem State.readBytes_getD (n : Nat) : ∀ (s : State) (a i : Nat), i < n → (s.readBytes a n).getD i 0 = s.byte (a + i) := by
  induction n with
  | zero => intro s a i h; omega
  | succ n ih =>
    intro s a i h
    cases i with
    | zero => simp [State.readBytes]
    | succ i =>
      rw [State.readBytes, List.getD_cons_succ, ih _ _ _ (by omega)]
      congr 1
      omega

/-- What a read gives depends on the bytes read alone. -/
theorem State.readMem_congr (n : Nat) : ∀ (s t : State) (a : Nat), (∀ i, i < n → s.byte (a + i) = t.byte (a + i)) →
    s.readMem a n = t.readMem a n := by
  induction n with
  | zero => intro s t a _; rfl
  | succ n ih =>
    intro s t a h
    have h0 : s.byte a = t.byte a := by simpa using h 0 (by omega)
    rw [State.readMem, State.readMem, h0, ih s t (a + 1) (fun i hi => by
      have h1 := h (i + 1) (by omega)
      rwa [show a + (i + 1) = a + 1 + i by omega] at h1)]

end Sys2Proof.Machine
end

