-- ==== Sys2Proof/Laws/PerInstr.lean ====
section
/-! SUPPORT. One lemma per command about its word: the encoding of a core's instruction fits in the 32 bits of R119, and a
command that is no instruction has the word 0. -/

namespace Sys2Proof.Laws.WordFits

/-- The word of a command is one of 32 bits. -/
def Statement (i : Instr) : Prop := encodeWord i < 2 ^ 32

/-- Fields that lie in a word of `n` bits, each above the ones after it. -/
def fieldsFit : Nat → List (Nat × Nat) → Prop
  | _, [] => True
  | n, (l, v) :: fs => l ≤ n ∧ v < 2 ^ (n - l) ∧ fieldsFit l fs

theorem fieldsAt_lt : ∀ (fs : List (Nat × Nat)) (n : Nat), fieldsFit n fs → fieldsAt fs < 2 ^ n
  | [], n, _ => Nat.two_pow_pos n
  | (l, v) :: fs, n, ⟨hl, hv, hf⟩ => by
    have h := fieldsAt_lt fs l hf
    have h1 : v * 2 ^ l + 2 ^ l ≤ 2 ^ n := by
      have : (v + 1) * 2 ^ l ≤ 2 ^ (n - l) * 2 ^ l := Nat.mul_le_mul_right _ hv
      rwa [← Nat.pow_add, Nat.sub_add_cancel hl, Nat.add_mul, Nat.one_mul] at this
    simp only [fieldsAt, Nat.shiftLeft_eq]
    omega

theorem reg_fits (r : Reg) : r.toNat < 2 ^ 5 := r.isLt
theorem bool_fits (b : Bool) : b.toNat < 2 ^ 1 := by cases b <;> decide

theorem encR_fits (major : Nat) (d a b : Reg) (f : Nat) (hm : major < 2 ^ 6) (hf : f < 2 ^ 11) : encR major d a b f < 2 ^ 32 :=
  fieldsAt_lt _ 32 ⟨by decide, hm, by decide, d.isLt, by decide, a.isLt, by decide, b.isLt, by decide, hf, trivial⟩
theorem encI_fits (major : Nat) (d a : Reg) (i : Nat) (hm : major < 2 ^ 6) (hi : i < 2 ^ 16) : encI major d a i < 2 ^ 32 :=
  fieldsAt_lt _ 32 ⟨by decide, hm, by decide, d.isLt, by decide, a.isLt, by decide, hi, trivial⟩
theorem encU_fits (major : Nat) (d : Reg) (i : BitVec 21) (hm : major < 2 ^ 6) : encU major d i < 2 ^ 32 :=
  fieldsAt_lt _ 32 ⟨by decide, hm, by decide, d.isLt, by decide, i.isLt, trivial⟩
theorem encV_fits (major func : Nat) (f : VF) (hm : major < 2 ^ 6) (hf : func < 2 ^ 7) : encV major func f < 2 ^ 32 :=
  fieldsAt_lt _ 32 ⟨by decide, hm, by decide, f.vd.isLt, by decide, f.vs1.isLt, by decide, f.vs2.isLt, by decide, f.km.isLt, by decide,
    bool_fits f.x, by decide, hf, trivial⟩
theorem encBit_fits (op : Nat) (d a b : Reg) (w : BitVec 2) (h : op < 512) : encBit op d a b w < 2 ^ 32 :=
  encR_fits _ _ _ _ _ (by decide) (by have := w.isLt; omega)
theorem encLrSc_fits (op : Nat) (d a b : Reg) (aq rl dbl : Bool) (h : op < 2 ^ 3) : encLrSc op d a b aq rl dbl < 2 ^ 32 :=
  fieldsAt_lt _ 32 ⟨by decide, by decide, by decide, d.isLt, by decide, a.isLt, by decide, b.isLt, by decide, h, by decide, bool_fits aq,
    by decide, bool_fits rl, by decide, by cases dbl <;> decide, trivial⟩
theorem encCairn_fits (op : Nat) (a b : Reg) (q : Bool) (h : op < 2 ^ 3) : encCairn op a b q < 2 ^ 32 :=
  fieldsAt_lt _ 32 ⟨by decide, by decide, by decide, Nat.lt_trans a.isLt (by decide), by decide, b.isLt, by decide, h, by decide,
    bool_fits q, trivial⟩
theorem encTm_fits (m : Nat) (tc ta tb : BitVec 3) (acc : Bool) (v : Nat) (a b : Reg) (hm : m < 2 ^ 3) (hv : v < 2 ^ 2) :
    encTm m tc ta tb acc v a b < 2 ^ 32 :=
  fieldsAt_lt _ 32 ⟨by decide, by decide, by decide, hm, by decide, tc.isLt, by decide, ta.isLt, by decide, tb.isLt, by decide, bool_fits acc,
    by decide, hv, by decide, Nat.lt_trans a.isLt (by decide), by decide, b.isLt, trivial⟩
theorem encTx_fits (m : Nat) (tn : BitVec 3) (a b : Reg) (r : BitVec 2) (ca : Bool) (hm : m < 2 ^ 3) : encTx m tn a b r ca < 2 ^ 32 :=
  fieldsAt_lt _ 32 ⟨by decide, by decide, by decide, hm, by decide, tn.isLt, by decide, a.isLt, by decide, b.isLt, by decide, r.isLt,
    by decide, bool_fits ca, trivial⟩
theorem encX_fits (d a : Reg) (sr : BitVec 12) (op : Nat) (h : op < 2 ^ 4) : encX d a sr op < 2 ^ 32 :=
  fieldsAt_lt _ 32 ⟨by decide, by decide, by decide, d.isLt, by decide, a.isLt, by decide, sr.isLt, by decide, h, trivial⟩

theorem add (c : CoreId) (rd rs1 rs2 : Reg) : Statement (.add c rd rs1 rs2) := encR_fits _ _ _ _ _ (by decide) (by decide)
theorem sub (c : CoreId) (rd rs1 rs2 : Reg) : Statement (.sub c rd rs1 rs2) := encR_fits _ _ _ _ _ (by decide) (by decide)
theorem and (c : CoreId) (rd rs1 rs2 : Reg) : Statement (.and c rd rs1 rs2) := encR_fits _ _ _ _ _ (by decide) (by decide)
theorem or (c : CoreId) (rd rs1 rs2 : Reg) : Statement (.or c rd rs1 rs2) := encR_fits _ _ _ _ _ (by decide) (by decide)
theorem xor (c : CoreId) (rd rs1 rs2 : Reg) : Statement (.xor c rd rs1 rs2) := encR_fits _ _ _ _ _ (by decide) (by decide)
theorem sll (c : CoreId) (rd rs1 rs2 : Reg) : Statement (.sll c rd rs1 rs2) := encR_fits _ _ _ _ _ (by decide) (by decide)
theorem srl (c : CoreId) (rd rs1 rs2 : Reg) : Statement (.srl c rd rs1 rs2) := encR_fits _ _ _ _ _ (by decide) (by decide)
theorem sra (c : CoreId) (rd rs1 rs2 : Reg) : Statement (.sra c rd rs1 rs2) := encR_fits _ _ _ _ _ (by decide) (by decide)
theorem slt (c : CoreId) (rd rs1 rs2 : Reg) : Statement (.slt c rd rs1 rs2) := encR_fits _ _ _ _ _ (by decide) (by decide)
theorem sltu (c : CoreId) (rd rs1 rs2 : Reg) : Statement (.sltu c rd rs1 rs2) := encR_fits _ _ _ _ _ (by decide) (by decide)
theorem min (c : CoreId) (rd rs1 rs2 : Reg) : Statement (.min c rd rs1 rs2) := encR_fits _ _ _ _ _ (by decide) (by decide)
theorem max (c : CoreId) (rd rs1 rs2 : Reg) : Statement (.max c rd rs1 rs2) := encR_fits _ _ _ _ _ (by decide) (by decide)
theorem minu (c : CoreId) (rd rs1 rs2 : Reg) : Statement (.minu c rd rs1 rs2) := encR_fits _ _ _ _ _ (by decide) (by decide)
theorem maxu (c : CoreId) (rd rs1 rs2 : Reg) : Statement (.maxu c rd rs1 rs2) := encR_fits _ _ _ _ _ (by decide) (by decide)
theorem addi (c : CoreId) (rd rs1 : Reg) (imm : BitVec 16) : Statement (.addi c rd rs1 imm) := encI_fits _ _ _ _ (by decide) imm.isLt
theorem slti (c : CoreId) (rd rs1 : Reg) (imm : BitVec 16) : Statement (.slti c rd rs1 imm) := encI_fits _ _ _ _ (by decide) imm.isLt
theorem sltiu (c : CoreId) (rd rs1 : Reg) (imm : BitVec 16) : Statement (.sltiu c rd rs1 imm) := encI_fits _ _ _ _ (by decide) imm.isLt
theorem andi (c : CoreId) (rd rs1 : Reg) (imm : BitVec 16) : Statement (.andi c rd rs1 imm) := encI_fits _ _ _ _ (by decide) imm.isLt
theorem ori (c : CoreId) (rd rs1 : Reg) (imm : BitVec 16) : Statement (.ori c rd rs1 imm) := encI_fits _ _ _ _ (by decide) imm.isLt
theorem xori (c : CoreId) (rd rs1 : Reg) (imm : BitVec 16) : Statement (.xori c rd rs1 imm) := encI_fits _ _ _ _ (by decide) imm.isLt
theorem slli (c : CoreId) (rd rs1 : Reg) (sh : BitVec 6) : Statement (.slli c rd rs1 sh) :=
  encI_fits _ _ _ _ (by decide) (by have := sh.isLt; omega)
theorem srli (c : CoreId) (rd rs1 : Reg) (sh : BitVec 6) : Statement (.srli c rd rs1 sh) :=
  encI_fits _ _ _ _ (by decide) (by have := sh.isLt; omega)
theorem srai (c : CoreId) (rd rs1 : Reg) (sh : BitVec 6) : Statement (.srai c rd rs1 sh) :=
  encI_fits _ _ _ _ (by decide) (by have := sh.isLt; omega)
theorem lui (c : CoreId) (rd : Reg) (imm : BitVec 21) : Statement (.lui c rd imm) := encU_fits _ _ _ (by decide)
theorem auipc (c : CoreId) (rd : Reg) (imm : BitVec 21) : Statement (.auipc c rd imm) := encU_fits _ _ _ (by decide)
theorem mul (c : CoreId) (rd rs1 rs2 : Reg) : Statement (.mul c rd rs1 rs2) := encR_fits _ _ _ _ _ (by decide) (by decide)
theorem mulh (c : CoreId) (rd rs1 rs2 : Reg) : Statement (.mulh c rd rs1 rs2) := encR_fits _ _ _ _ _ (by decide) (by decide)
theorem mulhu (c : CoreId) (rd rs1 rs2 : Reg) : Statement (.mulhu c rd rs1 rs2) := encR_fits _ _ _ _ _ (by decide) (by decide)
theorem mulhsu (c : CoreId) (rd rs1 rs2 : Reg) : Statement (.mulhsu c rd rs1 rs2) := encR_fits _ _ _ _ _ (by decide) (by decide)
theorem crc32c (c : CoreId) (rd rs1 rs2 : Reg) (w : BitVec 2) : Statement (.crc32c c rd rs1 rs2 w) := encBit_fits _ _ _ _ _ (by decide)
theorem crc64 (c : CoreId) (rd rs1 rs2 : Reg) (w : BitVec 2) : Statement (.crc64 c rd rs1 rs2 w) := encBit_fits _ _ _ _ _ (by decide)
theorem parity (c : CoreId) (rd rs1 : Reg) (w : BitVec 2) : Statement (.parity c rd rs1 w) := encBit_fits _ _ _ _ _ (by decide)
theorem brev (c : CoreId) (rd rs1 : Reg) (w : BitVec 2) : Statement (.brev c rd rs1 w) := encBit_fits _ _ _ _ _ (by decide)
theorem clz (c : CoreId) (rd rs1 : Reg) (w : BitVec 2) : Statement (.clz c rd rs1 w) := encBit_fits _ _ _ _ _ (by decide)
theorem ctz (c : CoreId) (rd rs1 : Reg) (w : BitVec 2) : Statement (.ctz c rd rs1 w) := encBit_fits _ _ _ _ _ (by decide)
theorem popc (c : CoreId) (rd rs1 : Reg) (w : BitVec 2) : Statement (.popc c rd rs1 w) := encBit_fits _ _ _ _ _ (by decide)
theorem ldB (c : CoreId) (rd rs1 : Reg) (imm : BitVec 16) : Statement (.ldB c rd rs1 imm) := encI_fits _ _ _ _ (by decide) imm.isLt
theorem ldBu (c : CoreId) (rd rs1 : Reg) (imm : BitVec 16) : Statement (.ldBu c rd rs1 imm) := encI_fits _ _ _ _ (by decide) imm.isLt
theorem ldH (c : CoreId) (rd rs1 : Reg) (imm : BitVec 16) : Statement (.ldH c rd rs1 imm) := encI_fits _ _ _ _ (by decide) imm.isLt
theorem ldHu (c : CoreId) (rd rs1 : Reg) (imm : BitVec 16) : Statement (.ldHu c rd rs1 imm) := encI_fits _ _ _ _ (by decide) imm.isLt
theorem ldW (c : CoreId) (rd rs1 : Reg) (imm : BitVec 16) : Statement (.ldW c rd rs1 imm) := encI_fits _ _ _ _ (by decide) imm.isLt
theorem ldWu (c : CoreId) (rd rs1 : Reg) (imm : BitVec 16) : Statement (.ldWu c rd rs1 imm) := encI_fits _ _ _ _ (by decide) imm.isLt
theorem ldD (c : CoreId) (rd rs1 : Reg) (imm : BitVec 16) : Statement (.ldD c rd rs1 imm) := encI_fits _ _ _ _ (by decide) imm.isLt
theorem stB (c : CoreId) (rs2 rs1 : Reg) (imm : BitVec 16) : Statement (.stB c rs2 rs1 imm) := encI_fits _ _ _ _ (by decide) imm.isLt
theorem stH (c : CoreId) (rs2 rs1 : Reg) (imm : BitVec 16) : Statement (.stH c rs2 rs1 imm) := encI_fits _ _ _ _ (by decide) imm.isLt
theorem stW (c : CoreId) (rs2 rs1 : Reg) (imm : BitVec 16) : Statement (.stW c rs2 rs1 imm) := encI_fits _ _ _ _ (by decide) imm.isLt
theorem stD (c : CoreId) (rs2 rs1 : Reg) (imm : BitVec 16) : Statement (.stD c rs2 rs1 imm) := encI_fits _ _ _ _ (by decide) imm.isLt
theorem pref (c : CoreId) (hint rs1 : Reg) (imm : BitVec 16) : Statement (.pref c hint rs1 imm) := encI_fits _ _ _ _ (by decide) imm.isLt
theorem lr (c : CoreId) (rd rs1 : Reg) (aq dbl : Bool) : Statement (.lr c rd rs1 aq dbl) := encLrSc_fits _ _ _ _ _ _ _ (by decide)
theorem sc (c : CoreId) (rd rs1 rs2 : Reg) (rl dbl : Bool) : Statement (.sc c rd rs1 rs2 rl dbl) := encLrSc_fits _ _ _ _ _ _ _ (by decide)
theorem fenceL (c : CoreId) : Statement (.fenceL c) := encR_fits _ _ _ _ _ (by decide) (by decide)
theorem fenceM (c : CoreId) : Statement (.fenceM c) := encR_fits _ _ _ _ _ (by decide) (by decide)
theorem fenceG (c : CoreId) : Statement (.fenceG c) := encR_fits _ _ _ _ _ (by decide) (by decide)
theorem fenceI (c : CoreId) : Statement (.fenceI c) := encR_fits _ _ _ _ _ (by decide) (by decide)
theorem beq (c : CoreId) (rs1 rs2 : Reg) (off : BitVec 16) : Statement (.beq c rs1 rs2 off) := encI_fits _ _ _ _ (by decide) off.isLt
theorem bne (c : CoreId) (rs1 rs2 : Reg) (off : BitVec 16) : Statement (.bne c rs1 rs2 off) := encI_fits _ _ _ _ (by decide) off.isLt
theorem blt (c : CoreId) (rs1 rs2 : Reg) (off : BitVec 16) : Statement (.blt c rs1 rs2 off) := encI_fits _ _ _ _ (by decide) off.isLt
theorem bge (c : CoreId) (rs1 rs2 : Reg) (off : BitVec 16) : Statement (.bge c rs1 rs2 off) := encI_fits _ _ _ _ (by decide) off.isLt
theorem bltu (c : CoreId) (rs1 rs2 : Reg) (off : BitVec 16) : Statement (.bltu c rs1 rs2 off) := encI_fits _ _ _ _ (by decide) off.isLt
theorem bgeu (c : CoreId) (rs1 rs2 : Reg) (off : BitVec 16) : Statement (.bgeu c rs1 rs2 off) := encI_fits _ _ _ _ (by decide) off.isLt
theorem jal (c : CoreId) (off : BitVec 26) : Statement (.jal c off) :=
  fieldsAt_lt _ 32 ⟨by decide, by decide, by decide, off.isLt, trivial⟩
theorem jalr (c : CoreId) (rd rs1 : Reg) (imm : BitVec 16) : Statement (.jalr c rd rs1 imm) := encI_fits _ _ _ _ (by decide) imm.isLt
theorem loop (c : CoreId) (rs1 : Reg) (lenm1 : BitVec 11) : Statement (.loop c rs1 lenm1) :=
  fieldsAt_lt _ 32 ⟨by decide, by decide, by decide, Nat.lt_of_lt_of_le rs1.isLt (by decide), by decide, Nat.lt_of_lt_of_le lenm1.isLt (by decide), trivial⟩
theorem sysr (c : CoreId) (rd : Reg) (sr : BitVec 12) : Statement (.sysr c rd sr) := encX_fits _ _ _ _ (by decide)
theorem sysw (c : CoreId) (rd rs1 : Reg) (sr : BitVec 12) : Statement (.sysw c rd rs1 sr) := encX_fits _ _ _ _ (by decide)
theorem syss (c : CoreId) (rd rs1 : Reg) (sr : BitVec 12) : Statement (.syss c rd rs1 sr) := encX_fits _ _ _ _ (by decide)
theorem sysc (c : CoreId) (rd rs1 : Reg) (sr : BitVec 12) : Statement (.sysc c rd rs1 sr) := encX_fits _ _ _ _ (by decide)
theorem syscall (c : CoreId) : Statement (.syscall c) := encR_fits _ _ _ _ _ (by decide) (by decide)
theorem sret (c : CoreId) : Statement (.sret c) := encR_fits _ _ _ _ _ (by decide) (by decide)
theorem sretSkip (c : CoreId) : Statement (.sretSkip c) := encR_fits _ _ _ _ _ (by decide) (by decide)
theorem noint (c : CoreId) (nm1 : BitVec 8) : Statement (.noint c nm1) :=
  fieldsAt_lt _ 32 ⟨by decide, by decide, by decide, Nat.lt_of_lt_of_le nm1.isLt (by decide), by decide, by decide, trivial⟩
theorem unclaimedCoprocessor (c : CoreId) (word : BitVec 32) : Statement (.unclaimedCoprocessor c word) := word.isLt
theorem sigcAdd (c : CoreId) (rs1 rs2 : Reg) (q : Bool) : Statement (.sigcAdd c rs1 rs2 q) := encCairn_fits _ _ _ _ (by decide)
theorem sigcDec (c : CoreId) (rs1 rs2 : Reg) (q : Bool) : Statement (.sigcDec c rs1 rs2 q) := encCairn_fits _ _ _ _ (by decide)
theorem waitcGe (c : CoreId) (rs1 rs2 : Reg) (q : Bool) : Statement (.waitcGe c rs1 rs2 q) := encCairn_fits _ _ _ _ (by decide)
theorem waitcBar (c : CoreId) (rs1 : Reg) (q : Bool) : Statement (.waitcBar c rs1 q) := encCairn_fits _ _ _ _ (by decide)
theorem nmc (c : CoreId) (op : BitVec 4) (rg rc : Reg) : Statement (.nmc c op rg rc) :=
  fieldsAt_lt _ 32 ⟨by decide, by decide, by decide, Nat.lt_of_lt_of_le op.isLt (by decide), by decide, Nat.lt_of_lt_of_le rg.isLt (by decide), by decide, Nat.lt_of_lt_of_le rc.isLt (by decide), trivial⟩
theorem tmma (c : CoreId) (tc ta tb : BitVec 3) (acc : Bool) (var : BitVec 2) (mm1 nm1 : Reg) : Statement (.tmma c tc ta tb acc var mm1 nm1) :=
  encTm_fits _ _ _ _ _ _ _ _ (by decide) var.isLt
theorem tmmap (c : CoreId) (tc ta tb : BitVec 3) (acc : Bool) (mm1 nm1 : Reg) : Statement (.tmmap c tc ta tb acc mm1 nm1) :=
  encTm_fits _ _ _ _ _ _ _ _ (by decide) (by decide)
theorem tmmaq (c : CoreId) (tc ta tb : BitVec 3) (acc : Bool) (mm1 nm1 : Reg) : Statement (.tmmaq c tc ta tb acc mm1 nm1) :=
  encTm_fits _ _ _ _ _ _ _ _ (by decide) (by decide)
theorem tfence (c : CoreId) : Statement (.tfence c) :=
  fieldsAt_lt _ 32 ⟨by decide, by decide, by decide, by decide, trivial⟩
theorem canvasSlotRun (c : CoreId) : Statement (.canvasSlotRun c) := Nat.two_pow_pos 32
theorem canvasMapCommit (k : ClusterId) : Statement (.canvasMapCommit k) := Nat.two_pow_pos 32
theorem mapCommitApply (k : ClusterId) : Statement (.mapCommitApply k) := Nat.two_pow_pos 32
theorem tcfg (c : CoreId) (vs : Reg) : Statement (.tcfg c vs) :=
  fieldsAt_lt _ 32 ⟨by decide, by decide, by decide, by decide, by decide, Nat.lt_of_lt_of_le vs.isLt (by decide), trivial⟩
theorem tcfgrd (c : CoreId) (vd : Reg) : Statement (.tcfgrd c vd) :=
  fieldsAt_lt _ 32 ⟨by decide, by decide, by decide, by decide, by decide, Nat.lt_of_lt_of_le vd.isLt (by decide), trivial⟩
theorem tld (c : CoreId) (tn : BitVec 3) (rs1 rs2 : Reg) (rsel : BitVec 2) (ca : Bool) : Statement (.tld c tn rs1 rs2 rsel ca) :=
  encTx_fits _ _ _ _ _ _ (by decide)
theorem tst (c : CoreId) (tn : BitVec 3) (rs1 rs2 : Reg) (rsel : BitVec 2) (ca : Bool) : Statement (.tst c tn rs1 rs2 rsel ca) :=
  encTx_fits _ _ _ _ _ _ (by decide)
theorem tileRowArrival (c : CoreId) : Statement (.tileRowArrival c) := Nat.two_pow_pos 32
theorem tileStoreRowAccept (c : CoreId) : Statement (.tileStoreRowAccept c) := Nat.two_pow_pos 32
theorem tmvv (c : CoreId) (vd : Reg) (tn : BitVec 3) (rs1 : Reg) : Statement (.tmvv c vd tn rs1) :=
  fieldsAt_lt _ 32 ⟨by decide, by decide, by decide, by decide, by decide, Nat.lt_of_lt_of_le vd.isLt (by decide), by decide, Nat.lt_of_lt_of_le tn.isLt (by decide), by decide, Nat.lt_of_lt_of_le rs1.isLt (by decide), trivial⟩
theorem tmvt (c : CoreId) (tn : BitVec 3) (vs rs1 : Reg) : Statement (.tmvt c tn vs rs1) :=
  fieldsAt_lt _ 32 ⟨by decide, by decide, by decide, by decide, by decide, Nat.lt_of_lt_of_le vs.isLt (by decide), by decide, Nat.lt_of_lt_of_le tn.isLt (by decide), by decide, Nat.lt_of_lt_of_le rs1.isLt (by decide), trivial⟩
theorem vsetvl (c : CoreId) (rd rs1 : Reg) (gfl sew ft : BitVec 2) : Statement (.vsetvl c rd rs1 gfl sew ft) :=
  fieldsAt_lt _ 32 ⟨by decide, by decide, by decide, Nat.lt_of_lt_of_le rd.isLt (by decide), by decide, Nat.lt_of_lt_of_le rs1.isLt (by decide), by decide, Nat.lt_of_lt_of_le gfl.isLt (by decide), by decide, Nat.lt_of_lt_of_le sew.isLt (by decide), by decide, Nat.lt_of_lt_of_le ft.isLt (by decide), trivial⟩
theorem vadd (c : CoreId) (f : VF) : Statement (.vadd c f) := encV_fits _ _ _ (by decide) (by decide)
theorem vsub (c : CoreId) (f : VF) : Statement (.vsub c f) := encV_fits _ _ _ (by decide) (by decide)
theorem vmul (c : CoreId) (f : VF) : Statement (.vmul c f) := encV_fits _ _ _ (by decide) (by decide)
theorem vmulh (c : CoreId) (f : VF) : Statement (.vmulh c f) := encV_fits _ _ _ (by decide) (by decide)
theorem vmulhu (c : CoreId) (f : VF) : Statement (.vmulhu c f) := encV_fits _ _ _ (by decide) (by decide)
theorem vand (c : CoreId) (f : VF) : Statement (.vand c f) := encV_fits _ _ _ (by decide) (by decide)
theorem vor (c : CoreId) (f : VF) : Statement (.vor c f) := encV_fits _ _ _ (by decide) (by decide)
theorem vxor (c : CoreId) (f : VF) : Statement (.vxor c f) := encV_fits _ _ _ (by decide) (by decide)
theorem vsll (c : CoreId) (f : VF) : Statement (.vsll c f) := encV_fits _ _ _ (by decide) (by decide)
theorem vsrl (c : CoreId) (f : VF) : Statement (.vsrl c f) := encV_fits _ _ _ (by decide) (by decide)
theorem vsra (c : CoreId) (f : VF) : Statement (.vsra c f) := encV_fits _ _ _ (by decide) (by decide)
theorem vmin (c : CoreId) (f : VF) : Statement (.vmin c f) := encV_fits _ _ _ (by decide) (by decide)
theorem vmax (c : CoreId) (f : VF) : Statement (.vmax c f) := encV_fits _ _ _ (by decide) (by decide)
theorem vminu (c : CoreId) (f : VF) : Statement (.vminu c f) := encV_fits _ _ _ (by decide) (by decide)
theorem vmaxu (c : CoreId) (f : VF) : Statement (.vmaxu c f) := encV_fits _ _ _ (by decide) (by decide)
theorem vmv (c : CoreId) (f : VF) : Statement (.vmv c f) := encV_fits _ _ _ (by decide) (by decide)
theorem vbcast (c : CoreId) (f : VF) : Statement (.vbcast c f) := encV_fits _ _ _ (by decide) (by decide)
theorem vsel (c : CoreId) (f : VF) : Statement (.vsel c f) := encV_fits _ _ _ (by decide) (by decide)
theorem vfadd (c : CoreId) (f : VF) : Statement (.vfadd c f) := encV_fits _ _ _ (by decide) (by decide)
theorem vfsub (c : CoreId) (f : VF) : Statement (.vfsub c f) := encV_fits _ _ _ (by decide) (by decide)
theorem vfmul (c : CoreId) (f : VF) : Statement (.vfmul c f) := encV_fits _ _ _ (by decide) (by decide)
theorem vfma (c : CoreId) (f : VF) : Statement (.vfma c f) := encV_fits _ _ _ (by decide) (by decide)
theorem vfdiv (c : CoreId) (f : VF) : Statement (.vfdiv c f) := encV_fits _ _ _ (by decide) (by decide)
theorem vfsqrt (c : CoreId) (f : VF) : Statement (.vfsqrt c f) := encV_fits _ _ _ (by decide) (by decide)
theorem vfmin (c : CoreId) (f : VF) : Statement (.vfmin c f) := encV_fits _ _ _ (by decide) (by decide)
theorem vfmax (c : CoreId) (f : VF) : Statement (.vfmax c f) := encV_fits _ _ _ (by decide) (by decide)
theorem vfsgnj (c : CoreId) (f : VF) : Statement (.vfsgnj c f) := encV_fits _ _ _ (by decide) (by decide)
theorem vfsgnjn (c : CoreId) (f : VF) : Statement (.vfsgnjn c f) := encV_fits _ _ _ (by decide) (by decide)
theorem vfsgnjx (c : CoreId) (f : VF) : Statement (.vfsgnjx c f) := encV_fits _ _ _ (by decide) (by decide)
theorem vwmul (c : CoreId) (f : VF) : Statement (.vwmul c f) := encV_fits _ _ _ (by decide) (by decide)
theorem vwmulu (c : CoreId) (f : VF) : Statement (.vwmulu c f) := encV_fits _ _ _ (by decide) (by decide)
theorem vwadd (c : CoreId) (f : VF) : Statement (.vwadd c f) := encV_fits _ _ _ (by decide) (by decide)
theorem vfwmul (c : CoreId) (f : VF) : Statement (.vfwmul c f) := encV_fits _ _ _ (by decide) (by decide)
theorem vdot4 (c : CoreId) (f : VF) : Statement (.vdot4 c f) := encV_fits _ _ _ (by decide) (by decide)
theorem vfdot4E4m3 (c : CoreId) (f : VF) : Statement (.vfdot4E4m3 c f) := encV_fits _ _ _ (by decide) (by decide)
theorem vfdot4E5m2 (c : CoreId) (f : VF) : Statement (.vfdot4E5m2 c f) := encV_fits _ _ _ (by decide) (by decide)
theorem vfdot2Bf16 (c : CoreId) (f : VF) : Statement (.vfdot2Bf16 c f) := encV_fits _ _ _ (by decide) (by decide)
theorem vfdot2Fp16 (c : CoreId) (f : VF) : Statement (.vfdot2Fp16 c f) := encV_fits _ _ _ (by decide) (by decide)
theorem vaddp (c : CoreId) (f : VF) : Statement (.vaddp c f) := encV_fits _ _ _ (by decide) (by decide)
theorem vmulp (c : CoreId) (f : VF) : Statement (.vmulp c f) := encV_fits _ _ _ (by decide) (by decide)
theorem vcvtF32H (c : CoreId) (f : VF) : Statement (.vcvtF32H c f) := encV_fits _ _ _ (by decide) (by decide)
theorem vcvtHF32 (c : CoreId) (f : VF) : Statement (.vcvtHF32 c f) := encV_fits _ _ _ (by decide) (by decide)
theorem vcvtF32Q (c : CoreId) (f : VF) : Statement (.vcvtF32Q c f) := encV_fits _ _ _ (by decide) (by decide)
theorem vcvtQF32 (c : CoreId) (f : VF) : Statement (.vcvtQF32 c f) := encV_fits _ _ _ (by decide) (by decide)
theorem vcvtI32F32 (c : CoreId) (f : VF) : Statement (.vcvtI32F32 c f) := encV_fits _ _ _ (by decide) (by decide)
theorem vcvtF32I32 (c : CoreId) (f : VF) : Statement (.vcvtF32I32 c f) := encV_fits _ _ _ (by decide) (by decide)
theorem vcvtF2mx (c : CoreId) (ty : Fin 6) (f : VF) : Statement (.vcvtF2mx c ty f) :=
  encV_fits _ _ _ (by decide) (by have := ty.isLt; omega)
theorem vcvtMx2f (c : CoreId) (ty : Fin 6) (f : VF) : Statement (.vcvtMx2f c ty f) :=
  encV_fits _ _ _ (by decide) (by have := ty.isLt; omega)
theorem vcmpeq (c : CoreId) (f : VF) : Statement (.vcmpeq c f) := encV_fits _ _ _ (by decide) (by decide)
theorem vcmpne (c : CoreId) (f : VF) : Statement (.vcmpne c f) := encV_fits _ _ _ (by decide) (by decide)
theorem vcmplt (c : CoreId) (f : VF) : Statement (.vcmplt c f) := encV_fits _ _ _ (by decide) (by decide)
theorem vcmple (c : CoreId) (f : VF) : Statement (.vcmple c f) := encV_fits _ _ _ (by decide) (by decide)
theorem vcmpltu (c : CoreId) (f : VF) : Statement (.vcmpltu c f) := encV_fits _ _ _ (by decide) (by decide)
theorem vcmpleu (c : CoreId) (f : VF) : Statement (.vcmpleu c f) := encV_fits _ _ _ (by decide) (by decide)
theorem vfcmpeq (c : CoreId) (f : VF) : Statement (.vfcmpeq c f) := encV_fits _ _ _ (by decide) (by decide)
theorem vfcmpne (c : CoreId) (f : VF) : Statement (.vfcmpne c f) := encV_fits _ _ _ (by decide) (by decide)
theorem vfcmplt (c : CoreId) (f : VF) : Statement (.vfcmplt c f) := encV_fits _ _ _ (by decide) (by decide)
theorem vfcmple (c : CoreId) (f : VF) : Statement (.vfcmple c f) := encV_fits _ _ _ (by decide) (by decide)
theorem kand (c : CoreId) (f : VF) : Statement (.kand c f) := encV_fits _ _ _ (by decide) (by decide)
theorem kor (c : CoreId) (f : VF) : Statement (.kor c f) := encV_fits _ _ _ (by decide) (by decide)
theorem kxor (c : CoreId) (f : VF) : Statement (.kxor c f) := encV_fits _ _ _ (by decide) (by decide)
theorem kandn (c : CoreId) (f : VF) : Statement (.kandn c f) := encV_fits _ _ _ (by decide) (by decide)
theorem knot (c : CoreId) (f : VF) : Statement (.knot c f) := encV_fits _ _ _ (by decide) (by decide)
theorem kpopc (c : CoreId) (f : VF) : Statement (.kpopc c f) := encV_fits _ _ _ (by decide) (by decide)
theorem kfirst (c : CoreId) (f : VF) : Statement (.kfirst c f) := encV_fits _ _ _ (by decide) (by decide)
theorem vredsum (c : CoreId) (f : VF) : Statement (.vredsum c f) := encV_fits _ _ _ (by decide) (by decide)
theorem vfredsum (c : CoreId) (f : VF) : Statement (.vfredsum c f) := encV_fits _ _ _ (by decide) (by decide)
theorem vfredmax (c : CoreId) (f : VF) : Statement (.vfredmax c f) := encV_fits _ _ _ (by decide) (by decide)
theorem vfredmin (c : CoreId) (f : VF) : Statement (.vfredmin c f) := encV_fits _ _ _ (by decide) (by decide)
theorem vext (c : CoreId) (f : VF) : Statement (.vext c f) := encV_fits _ _ _ (by decide) (by decide)
theorem vcrc32c (c : CoreId) (f : VF) : Statement (.vcrc32c c f) := encV_fits _ _ _ (by decide) (by decide)
theorem vcrc64 (c : CoreId) (f : VF) : Statement (.vcrc64 c f) := encV_fits _ _ _ (by decide) (by decide)
theorem vparity (c : CoreId) (f : VF) : Statement (.vparity c f) := encV_fits _ _ _ (by decide) (by decide)
theorem vbrev (c : CoreId) (f : VF) : Statement (.vbrev c f) := encV_fits _ _ _ (by decide) (by decide)
theorem vpopc (c : CoreId) (f : VF) : Statement (.vpopc c f) := encV_fits _ _ _ (by decide) (by decide)
theorem vclz (c : CoreId) (f : VF) : Statement (.vclz c f) := encV_fits _ _ _ (by decide) (by decide)
theorem exceptionEntry (c : CoreId) : Statement (.exceptionEntry c) := Nat.two_pow_pos 32
theorem interruptEntry (c : CoreId) : Statement (.interruptEntry c) := Nat.two_pow_pos 32
theorem deferredException (c : CoreId) : Statement (.deferredException c) := Nat.two_pow_pos 32
theorem memoryQueueSend (c : CoreId) (sync : Bool) : Statement (.memoryQueueSend c sync) := Nat.two_pow_pos 32
theorem answerDelivery (c : CoreId) (arrival : Nat) (contended : Bool) : Statement (.answerDelivery c arrival contended) :=
  Nat.two_pow_pos 32
theorem errorAnswer (c : CoreId) (arrival : Nat) (contended : Bool) : Statement (.errorAnswer c arrival contended) := Nat.two_pow_pos 32
theorem asyncErrorAnswer (c : CoreId) (arrival : Nat) (contended : Bool) : Statement (.asyncErrorAnswer c arrival contended) := Nat.two_pow_pos 32
theorem storePathErrorAnswer (k : ClusterId) (arrival : Nat) (contended : Bool) : Statement (.storePathErrorAnswer k arrival contended) := Nat.two_pow_pos 32
theorem waitcAnswer (c : CoreId) (sync : Bool) (arrival : Nat) (contended : Bool) : Statement (.waitcAnswer c sync arrival contended) := Nat.two_pow_pos 32
theorem waitcResend (c : CoreId) (sync : Bool) : Statement (.waitcResend c sync) := Nat.two_pow_pos 32
theorem requestResend (k : ClusterId) : Statement (.requestResend k) := Nat.two_pow_pos 32
theorem freezeEnd (c : CoreId) : Statement (.freezeEnd c) := Nat.two_pow_pos 32
theorem icacheFill (c : CoreId) (arrival : Nat) (contended : Bool) : Statement (.icacheFill c arrival contended) := Nat.two_pow_pos 32
theorem translationWalk (c : CoreId) (arrival : Nat) (contended : Bool) : Statement (.translationWalk c arrival contended) := Nat.two_pow_pos 32
theorem storePathDrain (k : ClusterId) : Statement (.storePathDrain k) := Nat.two_pow_pos 32
theorem clusterCacheFill (k : ClusterId) : Statement (.clusterCacheFill k) := Nat.two_pow_pos 32
theorem sketchDataArrival (k : ClusterId) : Statement (.sketchDataArrival k) := Nat.two_pow_pos 32
theorem sketchInvalidate (k : ClusterId) : Statement (.sketchInvalidate k) := Nat.two_pow_pos 32
theorem sketchRelease (p : PlinthId) : Statement (.sketchRelease p) := Nat.two_pow_pos 32
theorem plinthRead (p : PlinthId) : Statement (.plinthRead p) := Nat.two_pow_pos 32
theorem plinthWrite (p : PlinthId) : Statement (.plinthWrite p) := Nat.two_pow_pos 32
theorem prefetchRead (p : PlinthId) : Statement (.prefetchRead p) := Nat.two_pow_pos 32
theorem dramAccessDone (p : PlinthId) : Statement (.dramAccessDone p) := Nat.two_pow_pos 32
theorem refresh (p : PlinthId) (bank : Nat) : Statement (.refresh p bank) := Nat.two_pow_pos 32
theorem sorterRetry (p : PlinthId) : Statement (.sorterRetry p) := Nat.two_pow_pos 32
theorem iwordStore (c : CoreId) : Statement (.iwordStore c) := Nat.two_pow_pos 32
theorem iwordLoad (c : CoreId) : Statement (.iwordLoad c) := Nat.two_pow_pos 32
theorem copy (p : PlinthId) : Statement (.copy p) := Nat.two_pow_pos 32
theorem copyd (p : PlinthId) : Statement (.copyd p) := Nat.two_pow_pos 32
theorem digest (p : PlinthId) : Statement (.digest p) := Nat.two_pow_pos 32
theorem gather (p : PlinthId) : Statement (.gather p) := Nat.two_pow_pos 32
theorem scatter (p : PlinthId) : Statement (.scatter p) := Nat.two_pow_pos 32
theorem sort (p : PlinthId) : Statement (.sort p) := Nat.two_pow_pos 32
theorem merge (p : PlinthId) : Statement (.merge p) := Nat.two_pow_pos 32
theorem reduce (p : PlinthId) : Statement (.reduce p) := Nat.two_pow_pos 32
theorem compress (p : PlinthId) : Statement (.compress p) := Nat.two_pow_pos 32
theorem decompress (p : PlinthId) : Statement (.decompress p) := Nat.two_pow_pos 32
theorem gfmac (p : PlinthId) : Statement (.gfmac p) := Nat.two_pow_pos 32
theorem pinrel (p : PlinthId) : Statement (.pinrel p) := Nat.two_pow_pos 32
theorem nmcCompletionSignal (p : PlinthId) : Statement (.nmcCompletionSignal p) := Nat.two_pow_pos 32
theorem cairnSignal (n : SaddleId) : Statement (.cairnSignal n) := Nat.two_pow_pos 32
theorem cairnDecrement (n : SaddleId) : Statement (.cairnDecrement n) := Nat.two_pow_pos 32
theorem cairnWait (n : SaddleId) : Statement (.cairnWait n) := Nat.two_pow_pos 32
theorem cairnBarrierArrival (n : SaddleId) : Statement (.cairnBarrierArrival n) := Nat.two_pow_pos 32
theorem cairnConfigWrite (n : SaddleId) : Statement (.cairnConfigWrite n) := Nat.two_pow_pos 32
theorem cairnFlagsWrite (n : SaddleId) : Statement (.cairnFlagsWrite n) := Nat.two_pow_pos 32
theorem pset (n : SaddleId) : Statement (.pset n) := Nat.two_pow_pos 32
theorem cairnAnswerSend (n : SaddleId) : Statement (.cairnAnswerSend n) := Nat.two_pow_pos 32
theorem cairnCancel (n : SaddleId) : Statement (.cairnCancel n) := Nat.two_pow_pos 32
theorem waiterShareRetry (n : SaddleId) : Statement (.waiterShareRetry n) := Nat.two_pow_pos 32
theorem bgctlWrite (d : DomainNo) (v : Word) : Statement (.bgctlWrite d v) := Nat.two_pow_pos 32
theorem stoppedDomainRestart (d : DomainNo) : Statement (.stoppedDomainRestart d) := Nat.two_pow_pos 32
theorem rateWindowArmed (d : DomainNo) (slow : Bool) : Statement (.rateWindowArmed d slow) := Nat.two_pow_pos 32
theorem recoveryTrigger (d : Dom) (code : BitVec 16) (same : Bool) : Statement (.recoveryTrigger d code same) := Nat.two_pow_pos 32
theorem resetCommand (m : Master) (v : BitVec 32) : Statement (.resetCommand m v) := Nat.two_pow_pos 32
theorem fencePhaseEnd (d : Dom) : Statement (.fencePhaseEnd d) := Nat.two_pow_pos 32
theorem fenceLimit (d : Dom) : Statement (.fenceLimit d) := Nat.two_pow_pos 32
theorem drainEnd (d : Dom) : Statement (.drainEnd d) := Nat.two_pow_pos 32
theorem drainLimit (d : Dom) : Statement (.drainLimit d) := Nat.two_pow_pos 32
theorem resetScrubDone (d : Dom) : Statement (.resetScrubDone d) := Nat.two_pow_pos 32
theorem resetScrubLimit (d : Dom) : Statement (.resetScrubLimit d) := Nat.two_pow_pos 32
theorem reloadDone (d : Dom) : Statement (.reloadDone d) := Nat.two_pow_pos 32
theorem reloadFailure (d : Dom) : Statement (.reloadFailure d) := Nat.two_pow_pos 32
theorem rejoinDone (d : Dom) : Statement (.rejoinDone d) := Nat.two_pow_pos 32
theorem reloadRejoinLimit (d : Dom) : Statement (.reloadRejoinLimit d) := Nat.two_pow_pos 32
theorem dropReport (dev : BitVec 12) (record : Word) (stepNo : BitVec 32) (rollBase : Nat) (via : Option MHead) : Statement (.dropReport dev record stepNo rollBase via) :=
  Nat.two_pow_pos 32
theorem rcmdJoin (m : Master) : Statement (.rcmdJoin m) := Nat.two_pow_pos 32
theorem rcmdLeave (m : Master) : Statement (.rcmdLeave m) := Nat.two_pow_pos 32
theorem joinRepeat : Statement (.joinRepeat) := Nat.two_pow_pos 32
theorem leaveTimeout : Statement (.leaveTimeout) := Nat.two_pow_pos 32
theorem join (h : MHead) (dev : BitVec 12) (partners : List (BitVec 16)) : Statement (.join h dev partners) := Nat.two_pow_pos 32
theorem leave (dev : BitVec 12) (rollBase : Nat) (via : Option MHead) : Statement (.leave dev rollBase via) := Nat.two_pow_pos 32
theorem route (table : Nat) (via : Option MHead) : Statement (.route table via) := Nat.two_pow_pos 32
theorem routeEpochLimit (n : SaddleId) : Statement (.routeEpochLimit n) := Nat.two_pow_pos 32
theorem report (dev : BitVec 12) (record : Word) (stepNo : BitVec 32) (rollBase : Nat) (via : Option MHead) : Statement (.report dev record stepNo rollBase via) :=
  Nat.two_pow_pos 32
theorem notice (kind : Byte) (dev : BitVec 12) (drop : Bool) (stepNo : BitVec 32) (record : Word) (via : Option MHead) : Statement (.notice kind dev drop stepNo record via) :=
  Nat.two_pow_pos 32
theorem memberLost (dev : BitVec 12) (rollBase : Nat) : Statement (.memberLost dev rollBase) := Nat.two_pow_pos 32
theorem epoch (ecur eprev : BitVec 16) (via : Option MHead) : Statement (.epoch ecur eprev via) := Nat.two_pow_pos 32
theorem beacon (via : Option MHead) : Statement (.beacon via) := Nat.two_pow_pos 32
theorem beaconTimeout : Statement (.beaconTimeout) := Nat.two_pow_pos 32
theorem linkdown (dev : BitVec 12) (port : PortId) (partners : List (BitVec 16)) (rollBase : Nat) (via : Option MHead) : Statement (.linkdown dev port partners rollBase via) := Nat.two_pow_pos 32
theorem rd (p : PortId) (f : Frame) : Statement (.rd p f) := Nat.two_pow_pos 32
theorem rdx (p : PortId) (f : Frame) : Statement (.rdx p f) := Nat.two_pow_pos 32
theorem prd (p : PortId) (f : Frame) : Statement (.prd p f) := Nat.two_pow_pos 32
theorem wr (p : PortId) (f : Frame) : Statement (.wr p f) := Nat.two_pow_pos 32
theorem scFrame (p : PortId) (f : Frame) : Statement (.scFrame p f) := Nat.two_pow_pos 32
theorem csig (p : PortId) (f : Frame) : Statement (.csig p f) := Nat.two_pow_pos 32
theorem cwait (p : PortId) (f : Frame) : Statement (.cwait p f) := Nat.two_pow_pos 32
theorem ccan (p : PortId) (f : Frame) : Statement (.ccan p f) := Nat.two_pow_pos 32
theorem nmcFrame (p : PortId) (f : Frame) : Statement (.nmcFrame p f) := Nat.two_pow_pos 32
theorem inv (p : PortId) (f : Frame) : Statement (.inv p f) := Nat.two_pow_pos 32
theorem srel (p : PortId) (f : Frame) : Statement (.srel p f) := Nat.two_pow_pos 32
theorem data (p : PortId) (f : Frame) : Statement (.data p f) := Nat.two_pow_pos 32
theorem ack (p : PortId) (f : Frame) : Statement (.ack p f) := Nat.two_pow_pos 32
theorem cans (p : PortId) (f : Frame) : Statement (.cans p f) := Nat.two_pow_pos 32
theorem iack (p : PortId) (f : Frame) : Statement (.iack p f) := Nat.two_pow_pos 32
theorem lctlAck (l : LinkId) (num : BitVec 12) (cred : BitVec 72) (fcrc : Option (BitVec 16)) : Statement (.lctlAck l num cred fcrc) := Nat.two_pow_pos 32
theorem lctlNak (l : LinkId) (num : BitVec 12) (fcrc : Option (BitVec 16)) : Statement (.lctlNak l num fcrc) := Nat.two_pow_pos 32
theorem lctlReplayStart (l : LinkId) (num : BitVec 12) (fcrc : Option (BitVec 16)) : Statement (.lctlReplayStart l num fcrc) := Nat.two_pow_pos 32
theorem lctlIdle (l : LinkId) (fcrc : Option (BitVec 16)) : Statement (.lctlIdle l fcrc) := Nat.two_pow_pos 32
theorem badFrame (l : LinkId) (unknown : Bool) : Statement (.badFrame l unknown) := Nat.two_pow_pos 32
theorem ackTimer (l : LinkId) : Statement (.ackTimer l) := Nat.two_pow_pos 32
theorem portTrainingDone (l : LinkId) (partner : BitVec 12) (crossing : Nat) : Statement (.portTrainingDone l partner crossing) :=
  Nat.two_pow_pos 32
theorem portRetrain (l : LinkId) : Statement (.portRetrain l) := Nat.two_pow_pos 32
theorem portRetrainTimeout (l : LinkId) : Statement (.portRetrainTimeout l) := Nat.two_pow_pos 32
theorem hrd (f : HFrame) : Statement (.hrd f) := Nat.two_pow_pos 32
theorem hwr (f : HFrame) : Statement (.hwr f) := Nat.two_pow_pos 32
theorem bopen (f : HFrame) : Statement (.bopen f) := Nat.two_pow_pos 32
theorem bdata (f : HFrame) : Statement (.bdata f) := Nat.two_pow_pos 32
theorem bres (f : HFrame) : Statement (.bres f) := Nat.two_pow_pos 32
theorem bstat (f : HFrame) : Statement (.bstat f) := Nat.two_pow_pos 32
theorem dbell (f : HFrame) : Statement (.dbell f) := Nat.two_pow_pos 32
theorem crst : Statement (.crst) := Nat.two_pow_pos 32
theorem burstCommitDone (b : BitVec 6) : Statement (.burstCommitDone b) := Nat.two_pow_pos 32
theorem burstPause (b : BitVec 6) : Statement (.burstPause b) := Nat.two_pow_pos 32
theorem burstDiscard (b : BitVec 6) : Statement (.burstDiscard b) := Nat.two_pow_pos 32
theorem descriptorTake : Statement (.descriptorTake) := Nat.two_pow_pos 32
theorem descriptorDone (i : Nat) : Statement (.descriptorDone i) := Nat.two_pow_pos 32
theorem ringConfigWrite (m : Master) (sub : Byte) (v : Word) : Statement (.ringConfigWrite m sub v) := Nat.two_pow_pos 32
theorem inputSample (mV : Int) (mA : Nat) : Statement (.inputSample mV mA) := Nat.two_pow_pos 32
theorem inputLoss : Statement (.inputLoss) := Nat.two_pow_pos 32
theorem inputOvervoltage : Statement (.inputOvervoltage) := Nat.two_pow_pos 32
theorem brownoutDrainLimit : Statement (.brownoutDrainLimit) := Nat.two_pow_pos 32
theorem brownoutClampLimit : Statement (.brownoutClampLimit) := Nat.two_pow_pos 32
theorem supplyFlagClear (m : Master) (v : Byte) : Statement (.supplyFlagClear m v) := Nat.two_pow_pos 32
theorem moduleRequestRun (m : Master) : Statement (.moduleRequestRun m) := Nat.two_pow_pos 32
theorem moduleRequestHold (m : Master) : Statement (.moduleRequestHold m) := Nat.two_pow_pos 32
theorem moduleRequestOff (m : Master) : Statement (.moduleRequestOff m) := Nat.two_pow_pos 32
theorem moduleRequestRestart (m : Master) : Statement (.moduleRequestRestart m) := Nat.two_pow_pos 32
theorem spurRequestRun (m : Master) (d : SpurId) : Statement (.spurRequestRun m d) := Nat.two_pow_pos 32
theorem spurRequestDoze (m : Master) (d : SpurId) : Statement (.spurRequestDoze m d) := Nat.two_pow_pos 32
theorem spurRequestNap (m : Master) (d : SpurId) : Statement (.spurRequestNap m d) := Nat.two_pow_pos 32
theorem prepWindowEnd : Statement (.prepWindowEnd) := Nat.two_pow_pos 32
theorem blockAnswer (b : Block) : Statement (.blockAnswer b) := Nat.two_pow_pos 32
theorem blockDelayExpiry (b : Block) : Statement (.blockDelayExpiry b) := Nat.two_pow_pos 32
theorem clusterQuiesce (k : ClusterId) : Statement (.clusterQuiesce k) := Nat.two_pow_pos 32
theorem entryLimit : Statement (.entryLimit) := Nat.two_pow_pos 32
theorem blockShutdown (b : Block) : Statement (.blockShutdown b) := Nat.two_pow_pos 32
theorem rimHeldEvent (c : CoreId) (e : HeldEvent) : Statement (.rimHeldEvent c e) := Nat.two_pow_pos 32
theorem wakePhaseEnd : Statement (.wakePhaseEnd) := Nat.two_pow_pos 32
theorem spurWake (d : SpurId) : Statement (.spurWake d) := Nat.two_pow_pos 32
theorem clusterRestore (k : ClusterId) : Statement (.clusterRestore k) := Nat.two_pow_pos 32
theorem autowake : Statement (.autowake) := Nat.two_pow_pos 32
theorem cadenceTracking (m : Master) : Statement (.cadenceTracking m) := Nat.two_pow_pos 32
theorem cadenceFixed (m : Master) : Statement (.cadenceFixed m) := Nat.two_pow_pos 32
theorem startupStepEnd : Statement (.startupStepEnd) := Nat.two_pow_pos 32
theorem inputQualified : Statement (.inputQualified) := Nat.two_pow_pos 32
theorem release (m : Master) : Statement (.release m) := Nat.two_pow_pos 32
theorem temperatureSample (t : Temps) : Statement (.temperatureSample t) := Nat.two_pow_pos 32
theorem mgmtOpen (d : Dgram) (nonce : List Byte) : Statement (.mgmtOpen d nonce) := Nat.two_pow_pos 32
theorem read (d : Dgram) : Statement (.read d) := Nat.two_pow_pos 32
theorem write (d : Dgram) : Statement (.write d) := Nat.two_pow_pos 32
theorem dictionaryWrite (m : Master) (index : BitVec 16) (sub : Byte) (value : List Byte) : Statement (.dictionaryWrite m index sub value) :=
  Nat.two_pow_pos 32
theorem lock (d : Dgram) : Statement (.lock d) := Nat.two_pow_pos 32
theorem renew (d : Dgram) : Statement (.renew d) := Nat.two_pow_pos 32
theorem unlock (d : Dgram) : Statement (.unlock d) := Nat.two_pow_pos 32
theorem close (d : Dgram) : Statement (.close d) := Nat.two_pow_pos 32
theorem leaseExpiry : Statement (.leaseExpiry) := Nat.two_pow_pos 32
theorem sessionIdleExpiry (slot : Fin 8) : Statement (.sessionIdleExpiry slot) := Nat.two_pow_pos 32
theorem apply (m : Master) (portB : Bool) : Statement (.apply m portB) := Nat.two_pow_pos 32
theorem mgmtLinkUp (portB : Bool) : Statement (.mgmtLinkUp portB) := Nat.two_pow_pos 32
theorem neighborSolicitation (portB : Bool) (target : Word) : Statement (.neighborSolicitation portB target) := Nat.two_pow_pos 32
theorem echoRequest (portB : Bool) (payload : List Byte) : Statement (.echoRequest portB payload) := Nat.two_pow_pos 32
theorem mailboxClaim (m : Master) (i : Fin 8) : Statement (.mailboxClaim m i) := Nat.two_pow_pos 32
theorem mailboxRelease (m : Master) (i : Fin 8) : Statement (.mailboxRelease m i) := Nat.two_pow_pos 32
theorem mailboxRead (m : Master) (i : Fin 8) (cmd : Word) : Statement (.mailboxRead m i cmd) := Nat.two_pow_pos 32
theorem mailboxWrite (m : Master) (i : Fin 8) (cmd : Word) : Statement (.mailboxWrite m i cmd) := Nat.two_pow_pos 32
theorem mailboxOpDone (i : Fin 8) : Statement (.mailboxOpDone i) := Nat.two_pow_pos 32
theorem mailboxClaimExpiry (i : Fin 8) : Statement (.mailboxClaimExpiry i) := Nat.two_pow_pos 32
theorem store (m : Master) : Statement (.store m) := Nat.two_pow_pos 32
theorem storeDone : Statement (.storeDone) := Nat.two_pow_pos 32
theorem lcreq (m : Master) (target : Byte) : Statement (.lcreq m target) := Nat.two_pow_pos 32
theorem lifecycleTransitionDone (verified : Bool) : Statement (.lifecycleTransitionDone verified) := Nat.two_pow_pos 32
theorem managementKeyWrite (m : Master) (key : List Byte) : Statement (.managementKeyWrite m key) := Nat.two_pow_pos 32
theorem updcmd (m : Master) (v : Byte) : Statement (.updcmd m v) := Nat.two_pow_pos 32
theorem firmwareUpdateDone (flashOk : Bool) : Statement (.firmwareUpdateDone flashOk) := Nat.two_pow_pos 32
theorem attest (d : Dgram) : Statement (.attest d) := Nat.two_pow_pos 32
theorem aread (d : Dgram) : Statement (.aread d) := Nat.two_pow_pos 32
theorem reportSigned : Statement (.reportSigned) := Nat.two_pow_pos 32
theorem level1TreeCompute : Statement (.level1TreeCompute) := Nat.two_pow_pos 32
theorem dbgrd (d : Dgram) : Statement (.dbgrd d) := Nat.two_pow_pos 32
theorem dbgwr (d : Dgram) : Statement (.dbgwr d) := Nat.two_pow_pos 32
theorem dbghalt (d : Dgram) : Statement (.dbghalt d) := Nat.two_pow_pos 32
theorem dbgrun (d : Dgram) : Statement (.dbgrun d) := Nat.two_pow_pos 32
theorem bistStart (d : Dgram) : Statement (.bistStart d) := Nat.two_pow_pos 32
theorem bistAbort (d : Dgram) : Statement (.bistAbort d) := Nat.two_pow_pos 32
theorem bistItemDone (item : BitVec 11) (pass : Bool) : Statement (.bistItemDone item pass) := Nat.two_pow_pos 32
theorem bwaitExpiry (item : BitVec 11) : Statement (.bwaitExpiry item) := Nat.two_pow_pos 32
theorem bistRunDone : Statement (.bistRunDone) := Nat.two_pow_pos 32
theorem illegalInstruction (c : CoreId) (word : BitVec 32) : Statement (.illegalInstruction c word) := word.isLt
theorem summitFault : Statement (.summitFault) := Nat.two_pow_pos 32
theorem cableMated (l : LinkId) : Statement (.cableMated l) := Nat.two_pow_pos 32
theorem mgmtLinkDown (portB : Bool) : Statement (.mgmtLinkDown portB) := Nat.two_pow_pos 32
theorem duplicateAddress (portB : Bool) : Statement (.duplicateAddress portB) := Nat.two_pow_pos 32
theorem unknownRequestType (d : Dgram) : Statement (.unknownRequestType d) := Nat.two_pow_pos 32
theorem mgmtFrameDiscarded (portB : Bool) : Statement (.mgmtFrameDiscarded portB) := Nat.two_pow_pos 32
theorem loopbackRequest (p : PortId) : Statement (.loopbackRequest p) := Nat.two_pow_pos 32
theorem loopbackLimit (p : PortId) : Statement (.loopbackLimit p) := Nat.two_pow_pos 32
theorem burstCompleteTimeout (b : BitVec 6) : Statement (.burstCompleteTimeout b) := Nat.two_pow_pos 32
theorem joinRefusal (via : Option MHead) : Statement (.joinRefusal via) := Nat.two_pow_pos 32
theorem leaveAcknowledgement (via : Option MHead) : Statement (.leaveAcknowledgement via) := Nat.two_pow_pos 32

end Sys2Proof.Laws.WordFits
end

