-- ==== Sys2Proof/WellFormed.lean ====
section
/-! DEFINITION. Well-formed commands: the bounds on a command's operands that its Lean types do not carry. -/

namespace Sys2Proof

/-- A frame carries at most 9 data flits (R349). -/
def Frame.wf (f : Frame) : Bool := f.flits.length ≤ 9

/-- A Shutik frame carries at most 16 data flits (R367). -/
def HFrame.wf (f : HFrame) : Bool := f.flits.length ≤ 16

/-- A datagram: what a UDP datagram over IPv6 can carry, with a tag of 32 bytes at its end (R420). -/
def Dgram.wf (d : Dgram) : Bool := d.data.length ≤ 65475 && d.tag.length = 32

/-- One temperature for each die, stack and port (R435). -/
def Temps.wf (t : Temps) : Bool := t.ridge.length = 16 && t.saddle.length = 8 && t.stack.length = 32

/-- A remote master names a core of its module (R132). -/
def Master.wf : Master → Bool
  | .remote _ c => c.toNat < 1048576 || (1048576 ≤ c.toNat && c.toNat < 1048580)
  | .session b sid => if b then 5 ≤ sid.toNat % 16 && sid.toNat % 16 ≤ 8 else 1 ≤ sid.toNat % 16 && sid.toNat % 16 ≤ 4
  | _ => true

/-- Well-formed commands. -/
def Instr.wf : Instr → Bool
  | .rd _ f => f.wf
  | .rdx _ f => f.wf
  | .prd _ f => f.wf
  | .wr _ f => f.wf
  | .scFrame _ f => f.wf
  | .csig _ f => f.wf
  | .cwait _ f => f.wf
  | .ccan _ f => f.wf
  | .nmcFrame _ f => f.wf
  | .inv _ f => f.wf
  | .srel _ f => f.wf
  | .data _ f => f.wf
  | .ack _ f => f.wf
  | .cans _ f => f.wf
  | .iack _ f => f.wf
  | .join _ _ ps => decide (ps.length ≤ 6)
  | .linkdown _ _ ps _ _ => decide (ps.length ≤ 6)
  | .hrd f => f.wf
  | .hwr f => f.wf
  | .bopen f => f.wf
  | .bdata f => f.wf
  | .bres f => f.wf
  | .bstat f => f.wf
  | .dbell f => f.wf
  | .temperatureSample t => t.wf
  | .mgmtOpen d nonce => d.wf && nonce.length = 16
  | .read d => d.wf
  | .write d => d.wf
  | .lock d => d.wf
  | .renew d => d.wf
  | .unlock d => d.wf
  | .close d => d.wf
  | .attest d => d.wf
  | .aread d => d.wf
  | .dbgrd d => d.wf
  | .dbgwr d => d.wf
  | .dbghalt d => d.wf
  | .dbgrun d => d.wf
  | .bistStart d => d.wf
  | .bistAbort d => d.wf
  | .unknownRequestType d => d.wf
  | .managementKeyWrite m key => m.wf && key.length = 32
  | .portTrainingDone _ _ crossing => 512 ≤ crossing && crossing % 8 = 0
  | .mailboxClaim m _ => m.wf
  | .mailboxRelease m _ => m.wf
  | .mailboxRead m _ _ => m.wf
  | .mailboxWrite m _ _ => m.wf
  | .dictionaryWrite m _ _ v => m.wf && v.length ≤ 2048
  | .refresh _ bank => bank < 65536
  | _ => true

end Sys2Proof
end

