-- ==== Sys2Proof/Tests/Slice0.lean ====
section
/-! SUPPORT. Witnesses: states and operands that meet the hypotheses of each statement, at the boundaries of its clauses. And tests of single
steps, with results worked out by hand from the rules that the statements cite. -/

set_option Elab.async false

namespace Sys2Proof.Tests
open Sys2Proof Sys2Proof.Machine

/-! ### Well-formed commands -/

def frameOf (n : Nat) : Frame := { dest := 0, src := 0, tag := 0, line := 0, hops := 0, vcb := false, aux := 0, flits := List.replicate n 0 }
def hframeOf (n : Nat) : HFrame := { buf := 0, seq := 0, addr := 0, tag := 0, aux := 0, flits := List.replicate n 0 }
def dgramOf (data tag : Nat) : Dgram :=
  { portB := false, ver := 1, type := 2, sid := 1, seq := 1, index := 0x1000, sub := 1, status := 0, offset := 0, aux := 4
    data := List.replicate data 0, tag := List.replicate tag 0, iid := 0, dstIid := 0 }
def tempsOf (n : Nat) : Temps := { ridge := List.replicate n 0, saddle := List.replicate 8 0, summit := 0, stack := List.replicate 32 0, inlet := 0, outlet := 0 }

theorem test_wf_frame : (Instr.rd 0 (frameOf 9)).wf = true ∧ (Instr.rd 0 (frameOf 10)).wf = false ∧ (Instr.iack 5 (frameOf 10)).wf = false := by
  decide +kernel
theorem test_wf_host_frame : (Instr.bdata (hframeOf 16)).wf = true ∧ (Instr.bdata (hframeOf 17)).wf = false := by decide +kernel
theorem test_wf_datagram : (Instr.write (dgramOf 65475 32)).wf = true ∧ (Instr.write (dgramOf 65476 32)).wf = false
    ∧ (Instr.write (dgramOf 0 31)).wf = false := by
  simp only [Instr.wf, dgramOf, Dgram.wf, List.length_replicate]
  decide
theorem test_wf_open : (Instr.mgmtOpen (dgramOf 16 32) (List.replicate 16 0)).wf = true
    ∧ (Instr.mgmtOpen (dgramOf 16 32) []).wf = false := by decide +kernel
theorem test_wf_temperatures : (Instr.temperatureSample (tempsOf 16)).wf = true ∧ (Instr.temperatureSample (tempsOf 15)).wf = false := by
  decide +kernel
theorem test_wf_masters : (Instr.mailboxClaim (.session false 4) 0).wf = true ∧ (Instr.mailboxClaim (.session false 5) 0).wf = false
    ∧ (Instr.mailboxClaim (.session true 5) 0).wf = true ∧ (Instr.mailboxClaim (.remote 1 1048584) 0).wf = false := by decide +kernel
theorem test_wf_values : (Instr.dictionaryWrite .host 0x2030 0 (List.replicate 2049 0)).wf = false
    ∧ (Instr.managementKeyWrite .host [0]).wf = false ∧ (Instr.portTrainingDone 0 1 511).wf = false
    ∧ (Instr.portTrainingDone 0 1 512).wf = true ∧ (Instr.refresh 0 65536).wf = false := by decide +kernel

/-! ### Accesses made at once -/

/-- What `State.readable` and `State.writable` ask, as tests, where no plinth has anything to do. -/
def reads (s : State) (who : Who) (a n : Nat) : Bool :=
  decide (0 < n) && decide (a + n ≤ 0x18000000000) && !s.saddlesOff && decide (4 * lineCount a n ≤ 1024)
    && (List.range (lineCount a n)).all (fun i =>
      s.targetError ((a / 128 + i) * 128) who .read == 0 && !s.lineBad (a / 128 + i) && !s.lineBusy (a / 128 + i))
def writes (s : State) (who : Who) (a n : Nat) : Bool :=
  decide (0 < n) && decide (a + n ≤ 0x18000000000) && !s.saddlesOff && decide (4 * lineCount a n ≤ 1024)
    && (List.range (lineCount a n)).all (fun i =>
      s.targetError ((a / 128 + i) * 128) who .write == 0 && !s.lineBusy (a / 128 + i) && (s.toldOf [a / 128 + i]).isEmpty)
theorem no_slots (s : State) (h : s.plinths = []) (p : Nat) : (s.plinth p).slots = [] := by
  simp [State.plinth, h, mget, plinthDef]
theorem readable_of_reads (s : State) (who : Who) (a n : Nat) (hp : s.plinths = []) (h : reads s who a n = true) : s.readable who a n := by
  simp only [reads, Bool.and_eq_true, decide_eq_true_eq, List.all_eq_true, List.mem_range, beq_iff_eq, Bool.not_eq_true'] at h
  obtain ⟨⟨⟨⟨h1, h2⟩, h3⟩, h4⟩, h5⟩ := h
  refine ⟨h1, h2, h3, fun p => by simpa [no_slots s hp p] using h4, fun p x hx => by simp [no_slots s hp p] at hx, fun l hl hu => ?_⟩
  have := h5 (l - a / 128) (by unfold lineCount; omega)
  rw [Nat.add_sub_cancel' hl] at this
  exact ⟨this.1.1, this.1.2, this.2⟩
theorem writable_of_writes (s : State) (who : Who) (a n : Nat) (hp : s.plinths = []) (h : writes s who a n = true) : s.writable who a n := by
  simp only [writes, Bool.and_eq_true, decide_eq_true_eq, List.all_eq_true, List.mem_range, beq_iff_eq, Bool.not_eq_true',
    List.isEmpty_iff] at h
  obtain ⟨⟨⟨⟨h1, h2⟩, h3⟩, h4⟩, h5⟩ := h
  refine ⟨h1, h2, h3, fun p => by simpa [no_slots s hp p] using h4, fun l hl hu => ?_⟩
  have := h5 (l - a / 128) (by unfold lineCount; omega)
  rw [Nat.add_sub_cancel' hl] at this
  exact ⟨this.1.1, this.1.2, this.2⟩

/-! ### Words, written from the tables of R119 and the instruction pages: major, then the fields from the left -/

/-- Fields from the left, each with its width. -/
def word (fs : List (Nat × Nat)) : Nat := fs.foldl (fun w f => w * 2 ^ f.1 + f.2) 0

theorem test_decode_scalar :
    decodeWord 5 (word [(6, 0x01), (5, 3), (5, 1), (5, 2), (11, 1)]) = some (.sub 5 3 1 2)
    ∧ decodeWord 5 (word [(6, 0x04), (5, 3), (5, 1), (16, 0xFFFF)]) = some (.addi 5 3 1 0xFFFF)
    ∧ decodeWord 5 (word [(6, 0x02), (5, 3), (5, 1), (5, 2), (11, 3)]) = some (.mulhsu 5 3 1 2) := by decide +kernel
theorem test_decode_memory :
    decodeWord 5 (word [(6, 0x15), (5, 3), (5, 1), (16, 0x8000)]) = some (.ldWu 5 3 1 0x8000)
    ∧ decodeWord 5 (word [(6, 0x1B), (5, 3), (5, 1), (16, 8)]) = some (.stD 5 3 1 8)
    ∧ decodeWord 5 (word [(6, 0x1C), (5, 3), (5, 1), (5, 0), (3, 0), (1, 1), (1, 0), (2, 3), (4, 0)]) = some (.lr 5 3 1 true true) := by
  decide +kernel
theorem test_decode_control :
    decodeWord 5 (word [(6, 0x20), (5, 1), (5, 2), (16, 0xFFFE)]) = some (.beq 5 1 2 0xFFFE)
    ∧ decodeWord 5 (word [(6, 0x28), (5, 1), (11, 7), (10, 0)]) = some (.loop 5 1 7)
    ∧ decodeWord 5 (word [(6, 0x2A), (5, 3), (5, 0), (12, 0x100), (4, 0)]) = some (.sysr 5 3 0x100) := by decide +kernel
theorem test_decode_units :
    decodeWord 5 (word [(6, 0x2B), (5, 0), (5, 1), (5, 2), (3, 4), (1, 1), (7, 0)]) = some (.waitcGe 5 1 2 true)
    ∧ decodeWord 5 (word [(6, 0x31), (5, 3), (5, 1), (5, 2), (3, 1), (1, 1), (7, 2)]) = some (.vmul 5 ⟨3, 1, 2, 1, true⟩)
    ∧ decodeWord 5 (word [(6, 0x38), (3, 0), (3, 2), (3, 1), (3, 0), (1, 1), (2, 2), (1, 0), (5, 31), (5, 0)]) =
        some (.tmma 5 2 1 0 true 2 31 0)
    ∧ decodeWord 5 (word [(6, 0x3C), (4, 11), (5, 4), (5, 1), (12, 0)]) = some (.nmc 5 11 4 1) := by decide +kernel
theorem test_decode_illegal : decodeWord 5 0 = none ∧ decodeWord 1048576 (word [(6, 0x31), (5, 3), (5, 1), (5, 2), (11, 0)]) = none
    ∧ decodeWord 5 (word [(6, 0x2A), (5, 3), (5, 1), (12, 0x100), (4, 0)]) = none := by decide +kernel

/-! ### A small machine: core 5 of cluster 0, running, with what it needs to fetch at address 0 -/

def at5 (k : Core) : State := { State.reset with cores := [(5, k)], clusters := [(0, { phase := .run })] }
def k0 : Core := { icache := [0], s := [(1, 7), (2, 9)] }
/-- The state that a command answers. -/
def after (i : Instr) (s : State) : State :=
  match exec i s with
  | .next t => t
  | _ => State.reset

theorem test_add : scalarRule (.add 5 3 1 2) (((at5 k0).atIssue 5).core 5).sreg 0 = some (5, 3, 2, 16) ∧ (at5 k0).issues 5 (.add 5 3 1 2) = true
    ∧ ((after (.add 5 3 1 2) (at5 k0)).core 5).pend = [{ due := 2, dst := .sreg 3, tag := none, val := 16 }] := by decide +kernel
/-- A loop of no turns goes past its body; a taken branch has its delay slot next. -/
theorem test_loop : (at5 k0).issues 5 (.loop 5 0 1) = true ∧ ((after (.loop 5 0 1) (at5 k0)).core 5).pc = 12 := by decide +kernel
/-- A SYSR in the shadow of LOOP reads LEND as it was. -/
theorem test_loop_shadow : (let s := after (.loop 5 1 1) (at5 k0)
    s.sysRead 5 1 0x00A = 0 ∧ s.sysRead 5 3 0x00A = 8 ∧ (s.core 5).shadow = 2) := by decide +kernel
theorem test_branch : controlRule (.beq 5 1 1 4) (((at5 k0).atIssue 5).core 5).sreg 0 = some (5, some 16, none)
    ∧ (at5 k0).issues 5 (.beq 5 1 1 4) = true ∧ ((after (.beq 5 1 1 4) (at5 k0)).core 5).slot = some 16 := by decide +kernel
theorem test_jal : ((after (.jal 5 3) (at5 k0)).core 5).pend = [{ due := 2, dst := .sreg 31, tag := none, val := 8 }] := by decide +kernel

/-! ### Witnesses of the statements, and what the first step of some instructions gives -/

/-- Core 5 with an address of DRAM in s1, and with a cairn's in s3. -/
def kA : Core := { icache := [0], s := [(1, 0x1000), (2, 9), (3, 0xF000000000300)] }
/-- An access that is granted, at a physical address. -/
def grants (x : XRes) (pa : Word) : Bool :=
  match x with
  | .ok p _ => p == pa
  | _ => false

theorem witness_system_registers :
    (sysRule (.sysw 5 3 1 0x003) 0 7).isSome = true
    ∧ (at5 k0).issues 5 (.sysw 5 3 1 0x003) = true ∧ (sysLevels 0x003).2 = some 0 ∧ (at5 k0).issues 5 (.sysr 5 3 0x207) = true
    ∧ (sysLevels 0x207).1 = 3 ∧ ((at5 k0).core 5).level = 3 := by decide +kernel
/-- The old FCTL comes back at distance 2. -/
theorem test_sysr : ((after (.sysr 5 3 0x003) (at5 k0)).core 5).pend = [{ due := 2, dst := .sreg 3, tag := none, val := 0x800 }] := by
  decide +kernel

def kU : Core := { k0 with stat := 0 }
theorem witness_raising : (at5 k0).issues 5 (.syscall 5) = true ∧ (at5 k0).mayIssue 5 = true
    ∧ (0xF4000000 : BitVec 32).toNat / 2 ^ 26 = 0x3D ∧ (0xFBFFFFFF : BitVec 32).toNat / 2 ^ 26 = 0x3E ∧ decodeWord 5 (0 : BitVec 32).toNat = none
    ∧ (at5 kU).issues 5 (.sret 5) = true ∧ (at5 kU).issues 5 (.noint 5 0) = true ∧ (((at5 kU).atIssue 5).core 5).level = 0
    ∧ (at5 kU).issues 5 (.sysw 5 3 1 0x004) = true ∧ (sysLevels 0x004).2 = some 1
    ∧ (at5 k0).issues 5 (.jalr 5 3 1 0) = true ∧ (((((at5 k0).atIssue 5).core 5).sreg 1).toNat + (0 : BitVec 16).toInt) % 4 = 3 := by
  decide +kernel
theorem test_syscall : ((after (.syscall 5) (at5 k0)).core 5).exc =
    some { code := 0x0F, faultv := 0, restart := 0, ecode := 0, x := 0, deferred := false, shd := false } := by decide +kernel

def kH : Core := { k0 with saveM := { pc := 0x40, st := 0x4001, aux := 3 }, lcnt := 2 }
theorem witness_return : (at5 kH).issues 5 (.sret 5) = true ∧ (at5 kH).issues 5 (.sretSkip 5) = true ∧ (at5 kH).issues 5 (.noint 5 255) = true
    ∧ (((at5 kH).atIssue 5).core 5).level = 3 := by decide +kernel
/-- SRET at level M goes back to the saved pc and level. -/
theorem test_sret : ((after (.sret 5) (at5 kH)).core 5).pc = 0x40 ∧ ((after (.sret 5) (at5 kH)).core 5).stat = 0x4001 := by decide +kernel

/-- A waiting store in the memory queue. -/
def stE (id : Nat) : QEntry :=
  { id := id, at_ := 0, op := .store 8 0xAB, pa := 0x1000, va := 0x1000, sh := false, cls := 0, sent := false, again := false }
theorem witness_queue_entries : (at5 { kA with memQ := [stE 9] }).issues 5 (.ldD 5 4 1 8) = true
    ∧ grants (((at5 kA).atIssue 5).access 5 0x1008 .load .dword) 0x1008 = true ∧ (at5 kA).issues 5 (.stB 5 2 1 0xFFFF) = true
    ∧ grants (((at5 kA).atIssue 5).access 5 0xFFF .store .scalar) 0xFFF = true := by decide +kernel
theorem test_store_queued : ((after (.stB 5 2 1 0) (at5 kA)).core 5).memQ.map (fun e => (e.at_, e.op)) = [(1, .store 1 9)] := by decide +kernel

/-- Cluster 0 with line 32 (address 0x1000) in its cache, byte i holding i. -/
def line32 : CLine :=
  { way := 0, line := 32, valid := BitVec.allOnes 128, dirty := 0, data := BitVec.ofNat 1024 0x8877665544332211, bad := 0, sh := false }
def setOf32 : Map (List CLine) := ((({} : Cluster).touch line32).cache)
def cached (k : Core) : State := { at5 k with clusters := [(0, { phase := .run, cache := setOf32 })] }
theorem witness_load_hit : loadRule (.ldH 5 4 1 0) = some (5, 2, true, 4, 1, 0) ∧ (cached kA).issues 5 (.ldH 5 4 1 0) = true
    ∧ grants (((cached kA).atIssue 5).access 5 0x1000 .load .scalar) 0x1000 = true
    ∧ ((((cached kA).atIssue 5).cluster 0).cfind 32).isSome = true
    ∧ (BitVec.ofNat 128 (byteMask 0 2)) &&& ~~~line32.valid = 0 := by decide +kernel
theorem test_load_hit : ((after (.ldH 5 4 1 0) (cached kA)).core 5).pend.map (fun p => (p.due, p.val)) = [(6, 0x2211)] := by decide +kernel

theorem witness_ordering : (at5 kA).issues 5 (.fenceG 5) = true ∧ (at5 kA).issues 5 (.fenceI 5) = true
    ∧ (at5 kA).issues 5 (.sigcAdd 5 3 2 true) = true ∧ grants (((at5 kA).atIssue 5).access 5 0xF000000000300 .store .cairn) 0xF000000000300 = true
    ∧ (at5 kA).issues 5 (.waitcBar 5 3 false) = true ∧ (at5 kA).issues 5 (.pref 5 0 1 0) = true
    ∧ grants (((at5 kA).atIssue 5).access 5 0x1000 .pref .pref) 0x1000 = true
    ∧ ((at5 { kA with s := [(1, 0xE400000000000)] }).atIssue 5).access 5 0xE400000000000 .pref .pref = .fault 0x09
    ∧ (at5 kA).issues 5 (.lr 5 4 1 true true) = true ∧ grants (((at5 kA).atIssue 5).access 5 0x1000 .load .lrsc) 0x1000 = true
    ∧ (at5 { kA with rsv := some 32 }).issues 5 (.sc 5 4 1 2 false false) = true := by decide +kernel
/-- An SC with no reservation sends nothing and writes 1. -/
theorem test_sc_fails : ((after (.sc 5 4 1 2 false false) (at5 kA)).core 5).pend.map (fun p => (p.due, p.val)) = [(6, 1)]
    ∧ ((after (.sc 5 4 1 2 false false) (at5 kA)).core 5).memQ = [] := by decide +kernel

/-- A copy of 128 bytes from 0x2000 to 0x1000 in s4 to s7. -/
def kN : Core := { icache := [0], s := [(4, 0x1000), (5, 0x2000), (6, 128)] }
theorem witness_nmc : (at5 kN).issues 5 (.nmc 5 0 4 0) = true ∧ (match ((at5 kN).atIssue 5).nmcIssue 5 0 4 0 with
    | .ok q _ _ => q.a == 0x1000 && q.b == 0x2000
    | _ => false) = true := by decide +kernel

theorem witness_stops : (at5 kA).issues 5 (.ldD 5 4 1 4) = true ∧ ((((at5 kA).atIssue 5).core 5).effective 1 4).toNat % 8 = 4
    ∧ ((at5 { kA with s := [(1, 0xE400000000000)] }).atIssue 5).access 5 0xE400000000000 .load .dword = .fault 0x09
    ∧ (at5 { kA with s := [(1, 0xE400000000000)] }).issues 5 (.ldD 5 4 1 0) = true
    ∧ ((at5 { kA with atb := 1, stat := 1 }).atIssue 5).access 5 0x1000 .load .dword = .walk
    ∧ (at5 { kA with memQ := (List.range 16).map stE }).issues 5 (.stD 5 2 1 0) = true := by decide +kernel
theorem test_queue_full : ((after (.stD 5 2 1 0) (at5 { kA with memQ := (List.range 16).map stE })).core 5).frozen = some (.memFull, 0) := by
  decide +kernel

/-- Vector state: VL 4, elements of 32 bits, v1 with elements 1 to 4 and v2 with 10 and −1. -/
def kV : Core :=
  { icache := [0], vcfg := 0x00040020, s := [(2, 5)]
    lines := [(vregKey 1 0, 0x00000004000000030000000200000001), (vregKey 2 0, 0xFFFFFFFF0000000A)], k := [(1, 1)] }
def vf (vd vs1 vs2 : Reg) (km : BitVec 3) (x : Bool) : VF := ⟨vd, vs1, vs2, km, x⟩
/-- Element `j` of 32 bits of vector register `r` of core 5. -/
def el32 (s : State) (r j : Nat) : Nat := ((s.core 5).elems r 1 32 64).getD j 0

theorem witness_vector : (at5 kV).issues 5 (.vadd 5 (vf 3 1 2 0 false)) = true
    ∧ vecFieldsLegal 0x31 0x00 (vf 3 1 2 0 false) = true ∧ (((at5 kV).atIssue 5).core 5).vfinal ≤ oddFrom ((at5 kV).issueBeat 5)
    ∧ (match laneRule (.vadd 5 (vf 3 1 2 0 false)) with
      | some r => r.cfg (((at5 kV).atIssue 5).core 5).vc && (r.shape (((at5 kV).atIssue 5).core 5).vc).ok
      | none => false) = true := by decide +kernel
theorem test_vadd : el32 (after (.vadd 5 (vf 3 1 2 0 false)) (at5 kV)) 3 0 = 11 ∧ el32 (after (.vadd 5 (vf 3 1 2 0 false)) (at5 kV)) 3 1 = 1
    ∧ el32 (after (.vadd 5 (vf 3 1 2 0 false)) (at5 kV)) 3 3 = 4 := by decide +kernel
/-- With the second source from a scalar register, and a mask of the first element alone. -/
theorem test_vmul_masked : el32 (after (.vmul 5 (vf 1 1 2 1 true)) (at5 kV)) 1 0 = 5
    ∧ el32 (after (.vmul 5 (vf 1 1 2 1 true)) (at5 kV)) 1 1 = 0 := by decide +kernel

theorem witness_widening : (match convRule (.vwmul 5 (vf 4 1 2 0 false)) kV with
    | some r => r.cfg && (r.shape kV.vc).ok && r.core == 5
    | none => false) = true ∧ (at5 kV).issues 5 (.vwmul 5 (vf 4 1 2 0 false)) = true := by decide +kernel
theorem witness_compare : (compareRule (.vcmplt 5 (vf 1 1 2 0 false)) kV.vc).isSome = true ∧ vecFieldsLegal 0x36 2 (vf 1 1 2 0 false) = true
    ∧ (at5 kV).issues 5 (.vcmplt 5 (vf 1 1 2 0 false)) = true ∧ (maskRule (.kandn 5 (vf 7 1 2 0 false))).isSome = true
    ∧ vecFieldsLegal 0x36 0x13 (vf 7 1 2 0 false) = true ∧ masksOnlyShape.ok = true
    ∧ (at5 kV).issues 5 (.kandn 5 (vf 7 1 2 0 false)) = true := by decide +kernel
theorem test_compare : ((after (.vcmplt 5 (vf 1 1 2 0 false)) (at5 kV)).core 5).mask 1 = 1 := by decide +kernel
theorem witness_scalar_result : (scalarResultRule (.vredsum 5 (vf 9 1 2 0 true)) kV).isSome = true
    ∧ (scalarResultShape (vf 9 1 2 0 true) kV.vc).ok = true ∧ vecFieldsLegal 0x36 0x18 (vf 9 1 2 0 true) = true
    ∧ (at5 kV).issues 5 (.vredsum 5 (vf 9 1 2 0 true)) = true := by decide +kernel
/-- The sum of 1 to 4, and of the start value 5. -/
theorem test_vredsum : ((after (.vredsum 5 (vf 9 1 2 0 true)) (at5 kV)).core 5).pend.map (·.val) = [15] := by decide +kernel

theorem witness_other_vector : (at5 kV).issues 5 (.vbcast 5 (vf 3 0 2 0 true)) = true ∧ vecFieldsLegal 0x31 0x10 (vf 3 0 2 0 true) = true
    ∧ (at5 kV).issues 5 (.vsel 5 (vf 3 1 2 1 false)) = true ∧ vecFieldsLegal 0x31 0x11 (vf 3 1 2 1 false) = true
    ∧ (at5 kV).issues 5 (.vaddp 5 (vf 4 1 2 0 false)) = true ∧ vecFieldsLegal 0x34 0 (vf 4 1 2 0 false) = true
    ∧ (kV.vc.isF32 && kV.vc.g ≤ 4) = true ∧ (at5 kV).issues 5 (.vcvtF2mx 5 5 (vf 4 1 3 0 false)) = true
    ∧ vecFieldsLegal 0x35 0x0D (vf 4 1 3 0 false) = true ∧ (kV.vc.isFloat && kV.vc.vlmax ≤ 256) = true
    ∧ (at5 kV).issues 5 (.vcvtMx2f 5 0 (vf 4 1 3 0 false)) = true ∧ (at5 kV).issues 5 (.vsetvl 5 3 2 3 0 1) = true := by decide +kernel
theorem test_vsetvl : ((after (.vsetvl 5 3 2 3 0 1) (at5 kV)).core 5).pend.map (fun p => (p.due, p.val)) = [(2, 5), (3, 0x500C4)] := by
  decide +kernel
/-- One element's register past the last, and an instruction that begins before the last one's final step. -/
theorem witness_vector_raises : (at5 { kV with vcfg := 0x000400E0 }).issues 5 (.vadd 5 (vf 3 1 2 0 false)) = true
    ∧ (match laneRule (.vadd 5 (vf 3 1 2 0 false)) with
      | some r => (r.shape ({ kV with vcfg := 0x000400E0 } : Core).vc).ok
      | none => true) = false
    ∧ oddFrom ((at5 { kV with vfinal := 9 }).issueBeat 5) < 9 := by decide +kernel
theorem test_overrun : ((after (.vadd 5 (vf 3 1 2 0 false)) (at5 { kV with vfinal := 9 })).core 5).exc.map (·.code) = some 0x0D := by decide +kernel

/-- What `vecForm` says of an instruction: its core, whether its configuration is supported and its groups legal. -/
def formOf (i : Instr) (k : Core) : Option (Nat × Bool × Bool) := (vecForm i k).map (fun x => (x.1.val, x.2.2.2.2.1, x.2.2.2.2.2.ok))
theorem witness_vector_forms : formOf (.vadd 5 (vf 3 1 2 0 false)) kV = some (5, true, true) ∧ formOf (.vwmul 5 (vf 4 1 2 0 false)) kV = some (5, true, true)
    ∧ formOf (.vcmplt 5 (vf 1 1 2 0 false)) kV = some (5, true, true) ∧ formOf (.kandn 5 (vf 7 1 2 0 false)) kV = some (5, true, true)
    ∧ formOf (.vredsum 5 (vf 9 1 2 0 true)) kV = some (5, true, true) ∧ formOf (.vbcast 5 (vf 3 0 2 0 true)) kV = some (5, true, true)
    ∧ formOf (.vsel 5 (vf 3 1 2 1 false)) kV = some (5, true, true) ∧ formOf (.vaddp 5 (vf 4 1 2 0 false)) kV = some (5, true, true)
    ∧ (formOf (.vcvtF2mx 5 5 (vf 4 1 3 0 false)) kV).isSome = true ∧ (formOf (.vcvtMx2f 5 0 (vf 4 1 3 0 false)) kV).isSome = true
    ∧ vecFieldsLegal 0x31 0x00 (vf 3 1 2 4 false) = true ∧ vecFieldsLegal 0x31 0x10 (vf 3 1 2 0 true) = false
    ∧ vecFieldsLegal 0x31 0x10 (vf 3 0 2 0 true) = true := by decide +kernel
/-- A boot core, which has no vector unit, issues one too. -/
def bootRuns : State := { State.reset with cores := [(1048576, k0)], power := { startStep := 8, off := false } }
theorem witness_vsetvl_raises : (at5 kV).mayIssue 5 = true ∧ bootRuns.mayIssue 1048576 = true ∧ bootRuns.issues 1048576 (.vadd 1048576 (vf 3 1 2 0 false)) = true
    ∧ (formOf (.vadd 1048576 (vf 3 1 2 0 false)) k0).map (·.1) = some 1048576 := by decide +kernel
/-- Elements of 8 bits are no floating-point numbers; elements of 64 bits hold none either. -/
theorem test_vsetvl_raises : ((after (.vsetvl 5 3 2 3 0 2) (at5 kV)).core 5).exc.map (·.code) = some 3
    ∧ ((after (.vsetvl 5 3 2 3 3 1) (at5 kV)).core 5).exc.map (·.code) = some 3 := by decide +kernel

/-! ### Exact arithmetic -/

theorem witness_arithmetic : [0x3F800000, 0x7FA00000].find? fp32.isNan = some 0x7FA00000 ∧ [0x7E01, 0x3C00, 0].find? fp16.isNan = some 0x7E01
    ∧ fp32.finite 0x7F7FFFFF ∧ bf16.finite 0x0001 ∧ fp16.finite 0x8000 ∧ fp32.isInf 0xFF800000 = true ∧ fp16.isInf 0x7C00 = true
    ∧ fp32.neg 0xFF800000 ≠ fp32.neg 0x7F800000 ∧ fp32.isInf (twoSum 0x7F7FFFFF 0x7F7FFFFF).1 = true ∧ fp32.isInf (twoProd 0x7F7FFFFF 0x40000000).1 = true
    ∧ fp32.finite (twoSum 0x3F800000 0x00000001).1 ∧ fp32.finite (twoProd 0x3F800001 0x3F800001).1
    ∧ ((fp32.isInf 0x7F800000 && 0x80000000 % 2 ^ fp32.signBit = 0) || (fp32.isInf 0x80000000 && 0x7F800000 % 2 ^ fp32.signBit = 0)) = true := by
  simp only [Fmt.finite]
  decide +kernel
/-- The sum of 1 and −1, and of 1 and 1; a block of 32 ones, whose largest is 2^0, and of zeros. -/
theorem witness_exact_numbers : fp32.num 0x3F800000 + fp32.num 0xBF800000 = 0 ∧ fp32.num 0x3F800000 + fp32.num 0x3F800000 ≠ 0
    ∧ (∀ x ∈ List.replicate 32 0x3F800000, fp32.finite x ∧ |fp32.num x| < 2 ^ ((0 : ℤ) + 1)) ∧ (∃ x ∈ List.replicate 32 0x3F800000, (2 : ℚ) ^ (0 : ℤ) ≤ |fp32.num x|)
    ∧ (∀ x ∈ List.replicate 32 0, fp32.num x = 0) ∧ (∃ x ∈ [0x7F800000], fp32.isNan x = true ∨ fp32.isInf x = true) := by
  have h1 : fp32.num 0x3F800000 = 1 := by norm_num [Fmt.num, Fmt.expo, Fmt.frac, Fmt.neg, fp32, Fmt.signBit, fld, bitAt, Nat.shiftRight_eq_div_pow]
  have h2 : fp32.num 0xBF800000 = -1 := by norm_num [Fmt.num, Fmt.expo, Fmt.frac, Fmt.neg, fp32, Fmt.signBit, fld, bitAt, Nat.shiftRight_eq_div_pow]
  have h0 : fp32.num 0 = 0 := by norm_num [Fmt.num, Fmt.expo, Fmt.frac, Fmt.neg, fp32, Fmt.signBit, fld, bitAt, Nat.shiftRight_eq_div_pow]
  have hf : fp32.finite 0x3F800000 := by simp only [Fmt.finite]; decide
  simp only [List.mem_replicate]
  refine ⟨by rw [h1, h2]; norm_num, by rw [h1]; norm_num, fun x hx => hx.2 ▸ ⟨hf, by rw [h1]; norm_num⟩, ⟨_, ⟨by decide, rfl⟩, by rw [h1]; norm_num⟩,
    fun x hx => hx.2 ▸ h0, ⟨_, List.mem_singleton.2 rfl, by decide⟩⟩
/-- A half rounded to an FP4 value, and INT8 at its bounds. -/
theorem test_arithmetic : fAdd fp32 .near 0x3F800000 0x33800000 = (0x3F800000, fNX) ∧ fAdd fp32 .up 0x3F800000 0x33800000 = (0x3F800001, fNX)
    ∧ fMul fp16 .near 0x7BFF 0x4000 = (0x7C00, fOF ||| fNX) ∧ fMul fp16 .zero 0x7BFF 0x4000 = (0x7BFF, fOF ||| fNX)
    ∧ fMa bf16 .near 0x3F80 0x3F80 0xBF80 = (0, 0) ∧ fAdd fp32 .near 0x7F800000 0xFF800000 = (fp32.canonNan, fNV)
    ∧ (twoSum 0x3F800000 0x33000000).2.1 = 0x33000000 ∧ (mxBlock fp32 (mxElem 5) (List.replicate 32 0x3F800000)).1 = 127 := by decide +kernel

/-- A tile configuration: an accumulator of 16 rows from row 0, A from row 32, B from row 64, of an 8-bit type. -/
def treg (use rows ty first : Nat) : Nat := 2 ^ 31 + use * 2 ^ 28 + rows * 2 ^ 22 + ty * 2 ^ 18 + first
def tc0 : BitVec 512 := BitVec.ofNat 512 (treg 3 16 10 0 + treg 1 16 0 32 * 2 ^ 64 + treg 2 16 0 64 * 2 ^ 128)
def kT : Core :=
  { icache := [0], tcfg := tc0, s := [(1, 0x1000), (2, 64)], lines := [(vregKey 2 0, tc0), (vregKey 3 0, 7), (rowKey 32, 5)] }
/-- A cluster whose slots 2, 4 and so on belong to core 5. -/
def mapped (k : Core) : State :=
  { at5 k with clusters := [(0, { phase := .run, maps := { csmap := 0x5555555555555555, csctl := 0x55540000 } })] }

theorem witness_canvas : (canvasRule (.tmma 5 0 1 2 true 0 3 15)).isSome = true
    ∧ (mapped kT).issues 5 (.tmma 5 0 1 2 true 0 3 15) = true ∧ operandsOk tc0 0 0 1 2 4 16 0 = true ∧ operandsOk tc0 0 0 2 1 4 16 0 = false
    ∧ bindSlot ((mapped kT).cluster 0).maps none 5 false false (kT.firstSlot 0 0) = some (64, 2, 0)
    ∧ bindSlot ({} : Maps) none 5 false false (kT.firstSlot 0 0) = none := by decide +kernel
theorem test_tmma : ((after (.tmma 5 0 1 2 true 0 3 15) (mapped kT)).core 5).cq.map (·.start) = [64]
    ∧ ((after (.tmma 5 0 1 2 true 0 3 15) (at5 kT)).core 5).exc.map (·.code) = some 0x0C := by decide +kernel

def kC : Core := { kT with cq := [{ entry := 0, start := 64, done := 0, got := [] }] }
def committing : State :=
  { mapped kC with clusters := [(0, { phase := .run, commit := some (512, { csmap := 0, csctl := 0x10000 }) })] }
theorem witness_canvas_events : (mapped kT).issues 5 (.tfence 5) = true ∧ ((mapped kC).core 5).cq.length = 1
    ∧ (match (((coresOf 0).foldl (fun t c => t.settled c) committing).cluster 0).commit with
      | some (f, m) => f == 512 && m.ok
      | none => false) = true ∧ Maps.ok { csmap := 0, csctl := 0x30000 } = false := by decide +kernel
theorem test_map_commit : (((after (.canvasMapCommit 0) (mapped kT)).cluster 0).commit.map (·.1)) = some 512 := by decide +kernel

def tm (x : Nat) : Val := fp32.val x
theorem witness_canvas_sums : Val.nan ∈ [tm 0x7FC00000] ∧ Val.inf false ∈ [tm 0x7F800000] ∧ Val.inf true ∉ [tm 0x7F800000]
    ∧ Val.inf true ∈ [tm 0x7F800000, tm 0xFF800000] ∧ (∀ t ∈ [tm 0x3F800000, tm 0xBF800000, tm 0], t.isFin = true)
    ∧ (∀ t ∈ [tm 0x80000000], t.isNegZero = true) ∧ (∀ t ∈ [tm 0, tm 0x80000000], t.isFin = true) := by decide +kernel
/-- The largest of 1 and −1 has its leading bit at 2^0; with 1 alone the sum is not zero. -/
theorem witness_canvas_exact : leads 0 [tm 0x3F800000, tm 0xBF800000] ∧ ([tm 0x3F800000, tm 0xBF800000].map (cutTerm 0)).sum = 0
    ∧ leads 0 [tm 0x3F800000] ∧ ([tm 0x3F800000].map (cutTerm 0)).sum ≠ 0 ∧ (∀ t ∈ [tm 0, tm 0x80000000], t.num = 0) := by
  have t1 : tm 0x3F800000 = .fin false 8388608 (-23) := by decide +kernel
  have t2 : tm 0xBF800000 = .fin true 8388608 (-23) := by decide +kernel
  have t3 : tm 0 = .fin false 0 (-149) := by decide +kernel
  have t4 : tm 0x80000000 = .fin true 0 (-149) := by decide +kernel
  rw [t1, t2, t3, t4]
  refine ⟨⟨?_, ?_⟩, ?_, ⟨?_, ?_⟩, ?_, ?_⟩ <;> norm_num [Val.num, cutTerm]
/-- An accumulator of rows 0 on, quarter mode; each row of it takes part. -/
def ce (aty bty mode var : Nat) : CEnt :=
  { c := [0, 16, 32, 48], asr := 0, bsr := 0, avr := 0, bvr := 0, slot := 0, core := 5, mode := mode, qtr := 0, var := var, acc := true
    int32 := aty = 7 && mode ≠ 1, aty := aty, bty := bty, m := 16, n := 32, ar := 64, br := 96 }
theorem witness_canvas_elements : isMx (ce 2 2 0 0).aty = true ∧ (ce 2 2 0 0).aScaleOf [] 0 0 ≠ 255
    ∧ (ce 2 2 0 0).aScaleOf [(CAcc.aScale.key, BitVec.allOnes 512)] 0 0 = 255 ∧ (8, bf16) ∈ tileFormats ∧ (1, e5m2) ∈ tileFormats
    ∧ e5m2.isNan ((ce 1 1 0 0).aCode [((CAcc.a 0).key, BitVec.allOnes 512)] 0 0) = true ∧ ((ce 8 8 0 0).accRegs.map (· + 0)).Nodup
    ∧ bf16.isInf ((ce 8 8 0 0).aCode [((CAcc.a 0).key, 0x7F80)] 0 0) = true ∧ bf16.isNan ((ce 8 8 0 0).bCode [] 0 0) = false
    ∧ bf16.isInf ((ce 8 8 0 0).bCode [((CAcc.b 0).key, 0xFF80)] 0 0) = true ∧ (ce 7 7 0 0).int32 = true ∧ (ce 6 6 1 0).mode = 1
    ∧ (ce 8 8 0 2).groups [(CAcc.aVar.key, 0x8001), (CAcc.bVar.key, 0x8001)] 0 = some [0] ∧ ((ce 8 8 1 0).accRegs.map (fun x => (ce 8 8 1 0).c.getD x 0 + 3)).Nodup := by
  decide +kernel
theorem test_canvas_sums : groupRule [tm 0x3F800000, tm 0x40000000] (some 0x40400000) = 0x40C00000 ∧ groupRule [tm 0x80000000] none = 0x80000000
    ∧ groupRule [tm 0x3F800000, tm 0xBF800000] none = 0 ∧ pairRule [tm 0x3F800000] (some (0x33000000, 0)) = (0x3F800000, 0x33000000)
    ∧ (ce 7 7 0 0).product [((CAcc.a 0).key, 0x40), ((CAcc.b 0).key, 0xC0)] 0 0 0 = .fin true 4096 (-266) := by decide +kernel

theorem witness_tile_configuration : (at5 kT).issues 5 (.tcfg 5 2) = true ∧ tcfgCheck tc0 [] = none
    ∧ tcfgCheck (BitVec.ofNat 512 (treg 3 0 10 0)) [] = some (1, 0) ∧ (at5 kT).issues 5 (.tcfgrd 5 31) = true := by decide +kernel
theorem test_tcfg : ((after (.tcfg 5 2) (at5 { kT with tcfg := 0 })).core 5).tcfg = tc0
    ∧ ((after (.tcfg 5 2) (at5 { kT with tcfg := 0 })).core 5).next = 12 := by decide +kernel
theorem witness_tile_moves : (at5 kT).issues 5 (.tmvv 5 3 1 0) = true ∧ (tregOf tc0 1).en = true ∧ 0 + 4 * kT.vc.g ≤ (tregOf tc0 1).rows
    ∧ (tregOf tc0 1).first + (tregOf tc0 1).rows ≤ 128 ∧ (at5 kT).issues 5 (.tmvt 5 1 3 0) = true := by decide +kernel
/-- A move is under way after its issue, and has written its line once it has run to its end. -/
theorem test_tile_moves : ((after (.tmvv 5 3 1 0) (at5 kT)).core 5).move.isSome = true
    ∧ (((after (.tmvv 5 3 1 0) (at5 kT)).moveOver 5).core 5).line (groupKey 3 1 0) = 5
    ∧ (((after (.tmvt 5 1 3 0) (at5 kT)).moveOver 5).core 5).line (rowKey 32) = 7 := by decide +kernel
theorem witness_move_state : (((at5 kT).atIssue 5).core 5).cq = [] ∧ (((at5 kT).atIssue 5).core 5).running = []
    ∧ (((at5 kT).atIssue 5).core 5).interrupt (coreBoot 5) = none := by decide +kernel
/-- Register 3 is not enabled; a stopped transfer of 16 rows at row 15, and at its end. -/
theorem witness_transfers : (at5 kT).issues 5 (.tld 5 1 1 2 0 false) = true ∧ (at5 kT).issues 5 (.tst 5 3 1 2 0 true) = true
    ∧ (tregOf tc0 3).en = false ∧ wf (0x940F : Word) 4 0 < (tregOf tc0 1).rows ∧ (tregOf tc0 1).rows ≤ wf (0x9410 : Word) 4 0 := by decide +kernel
theorem test_tst_resumes : ((after (.tst 5 1 1 2 0 false) (at5 { kT with tprog := 0x940F })).core 5).xfer.map (·.first) = some 32
    ∧ ((after (.tst 5 1 1 2 0 false) (at5 { kT with tprog := 0x9410 })).core 5).xfer = none := by decide +kernel

def xf (load : Bool) (got : List (Nat × Nat × Line)) : Xfer :=
  { load := load, tn := 1, base := 0x1000, stride := 64, first := 32, rows := 16, ca := false, next := if load then 16 else 1, q := 16
    moved := 0, w := 1, tags := [], got := got, lines := [], fault := none }
theorem witness_tile_rows : (at5 { kT with xfer := some (xf true [(0, 20, 9)]) }).running 5 = true
    ∧ (xf true [(0, 20, 9)]).moved + 1 < (xf true [(0, 20, 9)]).rows ∧ (xf true [(0, 20, 9)]).rows ≤ (xf true [(0, 20, 9)]).next
    ∧ (let s := at5 { kT with xfer := some (xf false [(0, 3, 9)]) }
       let t0 := s.toBeat 0 4
       let x := xf false [(0, 3, 9)]
       let r := t0.rowAccess 5 x
       (t0.pathPut 5 { id := t0.nextId, at_ := 4, op := .tileRow x.next x.ca, pa := r.addr, va := x.rowVa x.next, sh := r.page.sh
                       cls := r.page.cls, sent := false, again := false } 64 9 true x.ca 4).isSome) = true := by decide +kernel
theorem test_tile_row : ((after (.tileRowArrival 5) (at5 { kT with xfer := some (xf true [(0, 20, 9)]) })).core 5).tileRow 32 = 9 := by
  decide +kernel

/-- An exception of the running core, at level S with its save set live. -/
def excOf (code : BitVec 16) (deferred : Bool) : Exc :=
  { code := code, faultv := 0x123, restart := 0x44, ecode := 0, x := 3, deferred := deferred, shd := false }
theorem witness_entries : (at5 { k0 with exc := some (excOf 3 false), stat := 0x0 }).running 5 = true
    ∧ (at5 { k0 with exc := some (excOf 3 false), stat := 0x4001 }).running 5 = true
    ∧ (((at5 { k0 with stat := 0x10100000000 }).landAll 5 0).core 5).boundary 0 = true
    ∧ (at5 { k0 with stat := 0xC003 }).running 5 = true := by decide +kernel
/-- From U to S at offset 0; from S with a live save set to M, escalated, at offset 0x100; a double fault resets the cluster. -/
theorem test_entry : ((after (.exceptionEntry 5) (at5 { k0 with exc := some (excOf 3 false), stat := 0 })).core 5).stat = 0x4001
    ∧ ((after (.exceptionEntry 5) (at5 { k0 with exc := some (excOf 3 false), stat := 0 })).core 5).saveS.pc = 0x44
    ∧ ((after (.exceptionEntry 5) (at5 { k0 with exc := some (excOf 3 false), stat := 0x4001 })).core 5).pc = 0x100
    ∧ ((after (.exceptionEntry 5) (at5 { k0 with exc := some (excOf 3 false), stat := 0x8003 })).recovs.map (·.code)) = [0x3001] := by
  decide +kernel
theorem witness_interrupt : ((((at5 { k0 with stat := 0x10100000000 }).landAll 5 0).core 5).interrupt false).isSome = true := by decide +kernel
theorem test_deferred : ((after (.deferredException 5) (at5 { k0 with exc := some (excOf 3 true), shadow := 8 })).core 5).exc.map (·.x) = some 9 := by
  decide +kernel

/-! ### Requests and answers -/

/-- A saddle table whose entries give the module's cores and the host every right on DRAM, cairns and core blocks (R362). -/
def tableEntry (i mkind dkind rkind last lastAt : Nat) : Nat × Nat :=
  (okey 0x4030 i, (2 ^ 63 + mkind * 2 ^ 60 + dkind * 2 ^ 57 + 7) + 2 ^ 64 * (rkind * 2 ^ 61 + last * 2 ^ lastAt))
def tables : Map Nat :=
  [tableEntry 1 0 4 0 0x3FFFFFF 26, tableEntry 2 0 4 1 0xFF 26, tableEntry 3 0 4 2 0 0, tableEntry 4 1 0 0 0x3FFFFFF 26,
   tableEntry 5 1 0 1 0xFF 26]
def open5 (k : Core) : State := { at5 k with dict := tables }

def reqOf (src : Src) (kind : RKind) (addr : Word) : Req :=
  { id := 7, src := src, kind := kind, addr := addr, cls := 0, ident := 0, beat := 0, acks := none, t := 0 }
def ansOf (dst : Src) (kind : RKind) (code : BitVec 16) (data : BitVec 1024) : Ans :=
  { id := 7, dst := dst, code := code, data := data, sense := none, path := 54, t := 0, guarded := true, kind := kind, addr := 0x1000, ident := 0
    cls := 0 }
def entry (op : QOp) (pa : Word) : QEntry :=
  { id := 7, at_ := 2, op := op, pa := pa, va := pa, sh := false, cls := 0, sent := false, again := false }
/-- A result that request 7 gives. -/
def awaited : Pend := { due := 6, dst := .sreg 4, tag := some 7, val := 0, va := 0x1001, bytes := 1, signed := true }

theorem witness_queue_heads : (at5 { k0 with memQ := [entry (.store 4 0xAABBCCDD) 0x107C] }).running 5 = true
    ∧ localOf 0x107C < 0x18000000000 ∧ (at5 k0).pathUse 0 < 32 ∧ (at5 k0).isLocal 0x1000 = true ∧ ((at5 k0).cluster 0).cfind 32 = none
    ∧ ((at5 k0).cluster 0).skFind 32 = none ∧ regionOf (localOf 0xF000000000300) = .cairn 3 0 := by decide +kernel
theorem test_store_leaves : ((after (.memoryQueueSend 5 false) (at5 { k0 with memQ := [entry (.store 4 0xAABBCCDD) 0x107C] })).cluster 0).storePath.map
    (fun e => (e.addr, e.mask.toNat / 2 ^ 124)) = [(0x1000, 15)] := by decide +kernel
theorem test_signal_leaves : (after (.memoryQueueSend 5 true) (at5 { k0 with syncQ := [entry (.sigc false 3) 0xF000000000300] })).reqs.map
    (fun r => (r.src, r.kind, r.t)) = [(.core 5, .signal 3, 2)] := by decide +kernel
/-- FENCE.L waits for an earlier load, and leaves without one. -/
theorem test_fence_waits : ((after (.memoryQueueSend 5 false) (at5 { k0 with memQ := [{ entry (.fence 0) 0 with id := 8 }], pend := [awaited] })).core 5).memQ
      = [{ entry (.fence 0) 0 with id := 8 }]
    ∧ ((after (.memoryQueueSend 5 false) (at5 { k0 with memQ := [entry (.fence 0) 0], pend := [awaited] })).core 5).memQ = [] := by decide +kernel

def answered (k : Core) (a : Ans) : State := { at5 k with answers := [a] }
theorem witness_delivery : (takeFirst (fun a => a.dst == .core 5 && a.code == 0 && a.isValue)
      (answered { k0 with pend := [awaited] } (ansOf (.core 5) (.read false) 0 0x8000)).answers).isSome = true
    ∧ (takeFirst (fun a => a.dst == .core 5 && a.code == 0 && a.isValue) [ansOf (.core 5) (.storeCond true 0) 0 1]).isSome = true := by decide +kernel
/-- A spur whose cap fell at beat 20. -/
def slipping (s : State) : State := { s with domains := [(0, { fellAt := some 20 })] }
/-- Byte 1 of the line, sign-extended, from its due beat 54 on; an answer that slips comes as it arrives, and is counted. -/
theorem test_delivery : ((after (.answerDelivery 5 50 false) (answered { k0 with pend := [awaited] } (ansOf (.core 5) (.read false) 0 0x8000))).core 5).pend.map
      (fun p => (p.val, p.ready, p.tag)) = [(0xFFFFFFFFFFFFFF80, 54, none)]
    ∧ (after (.answerDelivery 5 55 false) (answered { k0 with pend := [awaited] } (ansOf (.core 5) (.read false) 0 0))).obj 0x8000 1 = 0
    ∧ (after (.answerDelivery 5 55 false) (slipping (answered { k0 with pend := [awaited] } (ansOf (.core 5) (.read false) 0 0)))).obj 0x8000 1 = 1
    ∧ ((after (.answerDelivery 5 55 true) (answered { k0 with pend := [awaited] } (ansOf (.core 5) (.read false) 0 0))).core 5).pend.map (·.ready) = [55] := by
  decide +kernel

theorem witness_errors : (takeFirst (fun a => a.dst == .core 5 && a.code != 0 && a.isValue)
      ((answered { k0 with pend := [awaited] } (ansOf (.core 5) (.read false) 0x1005 0)).settled 5).answers).isSome = true
    ∧ (takeFirst (fun a => a.dst == .core 5 && a.code != 0 && a.asyncKind.isSome) [ansOf (.core 5) (.signal 1) 0x1005 0]).isSome = true
    ∧ (ansOf (.core 5) (.signal 1) 0x1005 0).asyncKind.isSome = true
    ∧ (takeFirst (pathAnswer 0) [ansOf (.storePath 0 [{ core := 5, tile := true, low := 0x1000 }]) (.write 0 0 true) 0x1005 0]).isSome = true := by
  decide +kernel
theorem test_errors : ((after (.errorAnswer 5 0 false) (answered { k0 with pend := [awaited] } (ansOf (.core 5) (.read false) 0x1005 0))).core 5).exc.map
      (fun e => (e.code, e.faultv, e.ecode)) = some (0x0E, 0x1001, 0x1005)
    ∧ ((after (.asyncErrorAnswer 5) (answered k0 (ansOf (.core 5) (.signal 1) 0x1005 0))).core 5).aerr.toNat % 65536 = 0x1005
    ∧ ((after (.storePathErrorAnswer 0) (answered k0 (ansOf (.storePath 0 [{ core := 5, tile := true, low := 0x1040 }]) (.write 0 0 true) 0x1005 0))).core 5).aadr
      = 0x1040 := by decide +kernel

def kW : Core := { k0 with memQ := [{ entry (.waitGe 3) 0xF000000000300 with sent := true }] }
theorem witness_waits : (takeFirst (fun a => a.dst == .core 5 && a.isWait false)
      [{ ansOf (.core 5) (.waitGe 3) 0x1001 0 with ident := (at5 k0).coreIdent 5 2 false }]).isSome = true
    ∧ (at5 k0).isLocal 0x1000 = true ∧ resentWith 0 (reqOf (.core 5) (.read false) 0x1000) = true := by decide +kernel
theorem test_fenced_wait : ((after (.waitcAnswer 5 false 0 false) (answered kW
      { ansOf (.core 5) (.waitGe 3) 0x1001 0 with ident := (at5 k0).coreIdent 5 2 false })).core 5).memQ.map (fun e => (e.again, e.at_)) = [(true, 4150)] := by
  decide +kernel
theorem test_resends : (after (.requestResend 0) { at5 k0 with resend := [reqOf (.core 5) (.read false) 0x1000] }).reqs.map (·.addr) = [0x1000]
    ∧ (after (.waitcResend 5 false) (at5 { k0 with memQ := [{ entry (.waitGe 3) 0xF000000000300 with again := true }] })).reqs.map (·.kind) = [.waitGe 3] := by
  decide +kernel

theorem witness_freezes : ((at5 { k0 with frozen := some (.memFull, 5), clear := 8 }).settled 5).running 5 = true
    ∧ grants ((at5 { k0 with icache := [], frozen := some (.icache, 5) }).access 5 0 .fetch .fetch) 0 = true
    ∧ (at5 k0).lineBad 0 = false ∧ (open5 k0).targetError 0 (.core 5) .read = 0 ∧ ((at5 k0).cluster 0).cfind 0 = none := by decide +kernel
/-- Frozen from beat 5, the condition met in beat 8: beat 9 is the first of the same parity. -/
theorem test_freeze_end : ((after (.freezeEnd 5) (at5 { k0 with frozen := some (.memFull, 5), clear := 8 })).core 5).fcnt = 4 := by decide +kernel
/-- Lines that their memory-side caches hold. -/
def inMsc (as : List Nat) (s : State) : State := as.foldl (fun t a => t.modPlinth (stackOf a) (fun q =>
  { q with msc := mset mscDef q.msc (mscSet a) [{ way := 0, tag := mscTag a, cls := 0, dirty := false }] })) s
/-- A page table at 0x4000 whose first entry points to one at 0x8000, whose first entry is a leaf; and one outside DRAM. -/
def walking (root : Word) : State :=
  ({ open5 { k0 with stat := 1, atb := root, frozen := some (.walk 0x1000 .load, 3) } with nextId := 1 }.writeBytes 0x4000 (natBytes 8 0x8001)).writeBytes 0x8000
    (natBytes 8 0x3)
theorem witness_walk_fails : (match (walking 0x18000000001).walkFrom 5 0x1000 1 0x18000000000 4 3 with
    | (.fails, _, s1) => (s1.core 5).xfer.isNone
    | _ => false) = true ∧ ((walking 0x18000000001).core 5).clear = 0 := by decide +kernel
theorem test_walk_fails : ((after (.translationWalk 5 0 false) (walking 0x18000000001)).core 5).exc.map (·.code) = some 7 := by decide +kernel

def isLeaf (x : Walk × Nat × State) : Bool :=
  match x with
  | (.leaf _, _, _) => true
  | _ => false
theorem witness_walk_leaf : isLeaf ((inMsc [0x4000, 0x8000] (walking 0x4001)).walkFrom 5 0x1000 1 0x4000 4 3) = true := by
  simp only [State.walkFrom]
  generalize Config.untranslatedClass = u
  revert u
  decide +kernel

/-! ### Caches, homes and core blocks -/

/-- Cluster 0 with `cl`, the access tables in place. -/
def cl0 (cl : Cluster) : State := { open5 k0 with clusters := [(0, cl)] }
def byteStore : SEntry :=
  { addr := 0x1000, device := false, data := 0xAB00, mask := 2, sh := false, cls := 1, noAlloc := false
    contrib := [{ core := 5, tile := false, low := 0x1001 }] }
def miss32 (w : Nat) : Miss :=
  { id := 7, line := 32, sh := false, cls := 0, install := true, old := false, victim := none, waits := [{ core := 5, tag := w, mask := 0, data := 0, t := 3 }] }
/-- The line as a store left it: one byte, valid and dirty. -/
def part32 : CLine := { line32 with valid := 2, dirty := 2, data := 0xAB00 }
theorem witness_cluster_cache :
    (cl0 { phase := .run, storePath := [byteStore] }).pathBlocked 0 byteStore = false
    ∧ (({ phase := .run, cache := setOf32 } : Cluster).cfind 32).map (·.bad) = some 0
    ∧ ({ phase := .run } : Cluster).cset 32 = [] ∧ ({ phase := .run } : Cluster).cfind 32 = none
    ∧ (takeFirst (fun a => a.dst == .cluster 0) [ansOf (.cluster 0) (.read false) 0 0x11]).isSome = true
    ∧ (([miss32 9].filter (fun x => x.id == 7)) = [miss32 9]) := by decide +kernel
theorem test_store_drains :
    (((after (.storePathDrain 0) (cl0 { phase := .run, storePath := [byteStore], cache := setOf32 })).cluster 0).cfind 32).map
      (fun l => (l.data.toNat % 2 ^ 32, l.dirty)) = some (0x4433AB11, 2)
    ∧ (((after (.storePathDrain 0) (cl0 { phase := .run, storePath := [byteStore] })).cluster 0).cfind 32).map
      (fun l => (l.data, l.valid)) = some (0xAB00, 2) := by decide +kernel
def filling (c : Map (List CLine)) : State :=
  { cl0 { phase := .run, cache := c, misses := [miss32 9] } with answers := [ansOf (.cluster 0) (.read false) 0 0x112233] }
/-- An arriving line keeps the dirty byte that the cache holds, and a core that waited has the merged line. -/
theorem test_line_arrives :
    (((after (.clusterCacheFill 0) (filling ((({} : Cluster).touch part32).cache))).cluster 0).cfind 32).map (fun l => (l.data, l.dirty)) = some (0x11AB33, 2)
    ∧ (after (.clusterCacheFill 0) (filling [])).answers.map (fun a => (a.id, a.dst, a.data)) = [(9, .core 5, 0x112233)] := by
  decide +kernel

def sk (st : SkState) : Sketch := { line := 32, st := st, id := 7, data := 0 }
/-- The plinth and the stack of address 0x1000. -/
def p32 : PlinthId := ⟨stackOf 0x1000 % 32, by decide +kernel⟩
def skAns (code : BitVec 16) (sense : Option Bool) : Ans := { ansOf (.sketch 0 false) (.prefetch false 0) code 0x55 with sense := sense }
def invReq : Req := { reqOf (.engine 1) (.invalidate 1 32) 0x1000 with ident := 0 }
def relReq : Req := reqOf (.sketch 0 false) (.sketchRelease 32) 0x1000
theorem witness_sketch : (takeFirst (fun a => a.dst == .sketch 0 false && isPrefetch a.request) [skAns 0 none]).isSome = true
    ∧ [sk .pending].find? (fun e => e.id == 7 && e.st == .pending) = some (sk .pending)
    ∧ (takeFirst (fun r : Req => match r.kind with
        | .invalidate _ _ => r.ident.toNat = 0
        | _ => false) [invReq]).isSome = true
    ∧ (takeFirst (fun r : Req => match r.kind with
        | .sketchRelease _ => (open5 k0).isLocal r.addr && stackOf (localOf r.addr) = p32.val
        | _ => false) [relReq]).isSome = true := by decide +kernel
theorem test_sketch_data :
    ((after (.sketchDataArrival 0) { cl0 { phase := .run, sketch := [sk .pending] } with answers := [skAns 0 none] }).cluster 0).sketch.map
      (fun e => (e.st, e.data)) = [(.ready, 0x55)]
    ∧ ((after (.sketchDataArrival 0) { cl0 { phase := .run, sketch := [sk .pending] } with answers := [skAns 0 (some true)] }).cluster 0).sketch = [] := by
  decide +kernel
theorem test_sketch_invalid :
    ((after (.sketchInvalidate 0) { cl0 { phase := .run, sketch := [sk .ready] } with reqs := [invReq] }).cluster 0).sketch.map (·.st) = [.invalid]
    ∧ ((after (.sketchRelease p32) { cl0 {} with reqs := [relReq], plinths := [(p32.val, { filter := [(32, 0, 0), (33, 0, 0)] })] }).plinth p32).filter
      = [(33, 0, 0)] := by decide +kernel

def asking (r : Req) (q : Plinth) : State := { (open5 k0).writeBytes 0x1000 (natBytes 8 0x1122334455667788) with reqs := [r], plinths := [(p32.val, q)] }
/-- A table that grants nothing on DRAM. -/
def denied : Map Nat := [tableEntry 1 0 4 2 0 0, tableEntry 2 0 4 2 0 0]
def rd32 : Req := reqOf (.core 5) (.read false) 0x1000
def pf32 : Req := reqOf (.sketch 0 false) (.prefetch false 0) 0x1000
theorem witness_plinth_reads : (pickReq p32 isRead [] [] [rd32]).isSome = true ∧ (pickReq p32 isPrefetch [] [] [pf32]).isSome = true
    ∧ (asking rd32 {}).targetError (localOf 0x1000) (rd32.who 0) .read = 0
    ∧ ({ at5 k0 with dict := denied } : State).targetError (localOf 0x1000) (rd32.who 0) .read ≠ 0
    ∧ ((asking rd32 {}).mscHit 0x1000 0 false).isNone = true
    ∧ ((asking rd32 { msc := [(mscSet 0x1000, [{ way := 0, tag := mscTag 0x1000, cls := 0, dirty := false }])] }).mscHit 0x1000 0 false).isSome = true
    ∧ (asking rd32 {}).lineBad 32 = false ∧ (asking pf32 {}).targetError (localOf 0x1000) (pf32.who 0) .read = 0 := by decide +kernel
theorem test_plinth_read :
    (after (.plinthRead p32) (asking rd32 { msc := [(mscSet 0x1000, [{ way := 0, tag := mscTag 0x1000, cls := 0, dirty := false }])] })).answers.map
      (fun a => (a.dst, a.data, a.path)) = [(.core 5, 0x1122334455667788, 180)]
    ∧ ((after (.plinthRead p32) (asking rd32 {})).plinth p32).slots.map (fun x => (x.line, x.write)) = [(32, false)] := by decide +kernel
theorem test_prefetch_read : ((after (.prefetchRead p32) (asking pf32 {})).plinth p32).filter = [(32, 0, 0)] := by decide +kernel

def wr32 (who : Req → Req) : Req := who (reqOf (.core 5) (.write 3 0xBEEF false) 0x1000)
def sc32 : Req := { reqOf (.core 5) (.storeCond false 0xBEEF) 0x1000 with ident := 5 }
theorem witness_plinth_writes : (pickReq p32 isWrite [] [] [wr32 id]).isSome = true ∧ (pickReq p32 isWrite [] [] [sc32]).isSome = true
    ∧ (asking sc32 {}).targetError (localOf 0x1000) (sc32.who 0) .write = 0
    ∧ ({ at5 k0 with dict := denied } : State).targetError (localOf 0x1000) (rd32.who 0) .write ≠ 0
    ∧ [((5 : Word) &&& w64 0xFFF00000001FFFFF, 32)].contains (sc32.ident &&& w64 0xFFF00000001FFFFF, 32) = true
    ∧ stackOf (localOf 0x1000) = p32.val
    ∧ [((0 : BitVec 12), (0 : BitVec 16))].filter (({ asking sc32 {} with reqs := [] } : State).holderThere p32) ≠ [] := by decide +kernel
theorem test_write_visible :
    (after (.plinthWrite p32) (asking (wr32 id) {})).readMem 0x1000 8 = 0x112233445566BEEF
    ∧ ((after (.plinthWrite p32) (asking (wr32 id) { filter := [(32, 0, 0)] })).reqs.filter (fun r => r.src == .core 5)).map (·.acks) = [some 1]
    ∧ (after (.plinthWrite p32) (asking (wr32 id) { filter := [(32, 0, 0)] })).readMem 0x1000 8 = 0x1122334455667788 := by decide +kernel
theorem test_store_conditional :
    (after (.plinthWrite p32) (asking sc32 {})).answers.map (·.data) = [1]
    ∧ (after (.plinthWrite p32) (asking sc32 { rsv := [(5, 32)] })).answers.map (·.data) = [0]
    ∧ ((after (.plinthWrite p32) (asking sc32 { rsv := [(5, 32)] })).plinth p32).rsv = [] := by decide +kernel

def slotOf (write : Bool) : Slot := { line := 32, write := write, bank := 0, waits := if write then [] else [rd32] }
def tk32 : Ticket := { no := 0, req := rd32, retry := 64 }
theorem witness_ticket : (takeFirst (fun t => oldestOfBank [tk32] t && !({ refused := [tk32] } : Plinth).full (reqBank t.req)) [tk32]).isSome = true := by
  simp [takeFirst, oldestOfBank, Plinth.full, Plinth.bankCount, sorterSlots, bankCap]
theorem witness_dram : (asking rd32 { slots := [slotOf true] }).nextSlot p32 = some (slotOf true, 0)
    ∧ (asking rd32 { slots := [slotOf false] }).nextSlot p32 = some (slotOf false, 0) := by decide +kernel
theorem test_dram :
    ((after (.dramAccessDone p32) (asking rd32 { slots := [slotOf true] })).plinth p32).slots = []
    ∧ (after (.dramAccessDone p32) (asking rd32 { slots := [slotOf false] })).answers.map (fun a => (a.id, a.data)) = [(7, 0x1122334455667788)]
    ∧ ((after (.refresh p32 3) (asking rd32 {})).plinth p32).refreshing = [3] := by decide +kernel

/-- Eight dirty lines in the set of line 32, the last one the least recently used. -/
def dirty32 : Map (List CLine) :=
  [(32, (List.range 8).map (fun i => { part32 with way := i, line := 32 + 64 * (8 - i) }))]
theorem witness_dirty_victim : takeFirst (fun a => a.dst == .cluster 0 && !(filling []).fillWaits 0 a.id) (filling []).answers
      = some (ansOf (.cluster 0) (.read false) 0 0x112233, [])
    ∧ (let cl := (filling dirty32).cluster 0
       cl.cfind 32 = none ∧ (wayFor (cl.cset 32)).2.map (fun v => (v.line, v.isDirty, v.bad)) = some (96, true, 0)
         ∧ (cl.clines.filter (fun l => l.line == 96)).length = 1 ∧ (filling dirty32).isLocal (w64 (96 * 128)) = true) := by decide +kernel
/-- The victim's bytes leave for their home, and the line and its answer wait. -/
theorem test_dirty_victim : (after (.clusterCacheFill 0) (filling dirty32)).reqs.map (fun r => (r.kind, r.addr)) = [(.write 2 0xAB00 false, 0x3000)]
    ∧ (after (.clusterCacheFill 0) (filling dirty32)).answers.length = 1
    ∧ ((after (.clusterCacheFill 0) (filling dirty32)).cluster 0).cfind 32 = none := by decide +kernel
theorem witness_plinth_requests : (open5 k0).saddlesOff = false ∧ rd32.src.inModule = true ∧ pf32.src.inModule = true
    ∧ ([] : List Nat).contains rd32.id = false ∧ (asking rd32 {}).abandoned = [] := by decide +kernel
/-- A full sorter, and a full filter. -/
def fullOf (n : Nat) : Plinth :=
  { slots := List.replicate n { slotOf true with line := 33 }, filter := List.replicate (16 * n) (33, 0, 0) }
theorem witness_plinth_full : ¬((fullOf 8192).slots.length < 8192) ∧ (∀ x ∈ (fullOf 8192).slots, x.line ≠ 32) ∧ 131072 ≤ (fullOf 8192).filter.length := by
  simp only [fullOf, List.length_replicate, List.mem_replicate]
  exact ⟨by decide, fun x hx => by rw [hx.2]; decide, by decide⟩
theorem witness_full_plinth : (asking rd32 (fullOf 8192)).targetError 0x1000 (rd32.who 0) .read = 0
    ∧ ((asking rd32 (fullOf 8192)).mscHit 0x1000 0 false).isNone = true
    ∧ (asking pf32 (fullOf 8192)).targetError 0x1000 (pf32.who 0) .read = 0 := by decide +kernel
theorem witness_write_room : ((asking (wr32 id) {}).plinth p32).slots = [] ∧ (asking (wr32 id) {}).saddlesOff = false
    ∧ (wr32 id).src.inModule = true := by decide +kernel
/-- The word at offset 0 of core 9's block. -/
def blockAt : Word := w64 (coreBlockBase + 9 * 64)
def toBlock (k : RKind) (src : Src) : State := { open5 k0 with cores := [(5, k0), (9, { iword := 4 })], reqs := [reqOf src k blockAt] }
theorem witness_core_block : (blockReq (toBlock (.word 3) (.core 5)) 9).isSome = true ∧ localOf blockAt % 64 = 0
    ∧ (toBlock (.word 3) (.core 5)).rimHolds 0 = false
    ∧ (toBlock (.word 3) (.core 5)).targetError (localOf blockAt) ((reqOf (.core 5) (.word 3) blockAt).who 0) .write = 0
    ∧ (toBlock .loadWord (.core 9)).targetError (localOf blockAt) ((reqOf (.core 9) .loadWord blockAt).who 0) .read = 0 := by decide +kernel
theorem test_core_block :
    ((after (.iwordStore 9) (toBlock (.word 3) (.core 5))).core 9).iword = 7
    ∧ wb ((after (.iwordStore 9) (toBlock (.word 3) (.core 5))).core 9).stat 40 = true
    ∧ (after (.iwordLoad 9) (toBlock .loadWord (.core 9))).answers.map (·.data.toNat / 2 ^ 512) = [4]
    ∧ ((after (.iwordLoad 9) (toBlock .loadWord (.core 9))).core 9).iword = 0
    ∧ ((after (.iwordLoad 9) (toBlock .loadWord (.core 5))).core 9).iword = 4 := by decide +kernel

/-- A prefetch answer that left before an invalidation of its line, and one that left after it. -/
def sentInv (no : Nat) : State := { cl0 { phase := .run, sketch := [sk .pending] } with answers := [{ skAns 0 none with no := no }], reqs := [invReq] }
theorem witness_order : (takeFirst (fun a => a.dst == .sketch 0 false && isPrefetch a.request
      && !(sentInv 7).reqs.any (fun r => isInvFor 0 r && r.addr.toNat / 128 = a.addr.toNat / 128 && r.id < a.no)) (sentInv 7).answers).isSome = true
    ∧ (takeFirst (fun r => isInvFor 0 r && !(sentInv 8).answers.any (fun a => a.dst == .sketch 0 false && isPrefetch a.request
      && r.addr.toNat / 128 = a.addr.toNat / 128 && a.no ≤ r.id)) (sentInv 8).reqs).isSome = true
    ∧ (takeFirst (fun r : Req => match r.kind with
        | .sketchRelease _ => (open5 k0).isLocal r.addr && stackOf (localOf r.addr) = p32.val
        | _ => false) [relReq]).isSome = true ∧ (open5 k0).saddlesOff = false ∧ ((sentInv 7).cluster 0).misses = [] := by decide +kernel
/-- The data first, then the invalidation; and the other way round. -/
theorem test_order : ((after (.sketchInvalidate 0) (sentInv 7)).cluster 0).sketch.map (·.st) = [.pending]
    ∧ ((after (.sketchDataArrival 0) (sentInv 7)).cluster 0).sketch.map (·.st) = [.ready]
    ∧ ((after (.sketchDataArrival 0) (sentInv 8)).cluster 0).sketch.map (·.st) = [.pending] := by decide +kernel
/-- A release that the same holder sent before its prefetch comes first. -/
def relFirst : State := { asking pf32 { filter := [(32, 0, 0)] } with reqs := [{ relReq with id := 6 }, pf32] }
theorem witness_prefetch_order : (pickReq p32 (fun r => isPrefetch r && !(asking pf32 {}).reqs.any (fun x =>
      x.id < r.id && (asking pf32 {}).releases (localOf r.addr / 128) (holderOf (asking pf32 {}) r) x)) [] [] (asking pf32 {}).reqs).isSome = true
    ∧ pickReq p32 (fun r => isPrefetch r && !relFirst.reqs.any (fun x =>
      x.id < r.id && relFirst.releases (localOf r.addr / 128) (holderOf relFirst r) x)) [] [] relFirst.reqs = none := by decide +kernel
theorem test_prefetch_order : ((after (.prefetchRead p32) relFirst).plinth p32).filter = [(32, 0, 0)]
    ∧ ((after (.prefetchRead p32) (after (.sketchRelease p32) relFirst)).plinth p32).filter = [(32, 0, 0)]
    ∧ (after (.prefetchRead p32) relFirst).reqs.length = 2 := by decide +kernel
theorem witness_ticket_first : [tk32].find? (fun t => oldestOfBank [tk32] t && !({ refused := [tk32] } : Plinth).full (reqBank t.req)) = some tk32
    ∧ (asking rd32 {}).mscHit 0x1000 0 false = none ∧ (asking rd32 {}).targetError (localOf tk32.req.addr) (tk32.req.who (asking rd32 {}).dev) .read = 0 := by
  refine ⟨by simp [oldestOfBank, Plinth.full, Plinth.bankCount, sorterSlots, bankCap], by decide +kernel, by decide +kernel⟩
theorem witness_dram_read : (∀ r ∈ (slotOf false).waits, (∃ w, r.kind = .read w) ∧ localOf r.addr / 128 = (slotOf false).line ∧ r.src.inModule = true
      ∧ ([] : List Nat).contains r.id = false) ∧ (asking rd32 {}).lineBad 32 = false := by
  refine ⟨fun r hr => ?_, by decide +kernel⟩
  rw [List.mem_singleton.1 hr]
  exact ⟨⟨false, rfl⟩, by decide +kernel, rfl, rfl⟩
/-- A stopped PHY costs its first access 8 beats more. -/
theorem test_stopped_phy : (after (.dramAccessDone p32) { asking rd32 { slots := [slotOf false] } with domains := [(0x418 + p32.val, { cad := 2 })] }).answers.map
      (fun a => a.path - 320) = [8]
    ∧ (after (.dramAccessDone p32) (asking rd32 { slots := [slotOf false] })).answers.map (fun a => a.path - 320) = [0] := by decide +kernel

/-! ### Cairns -/

/-- Cairn 3 in state `q`, with one request at its unit. -/
def atCairn (q : Cairn) (kind : RKind) (off : Nat) : State :=
  { open5 k0 with cairns := [(3, q)], reqs := [{ reqOf (.core 5) kind (w64 (0xF000000000300 + off)) with ident := 5 }] }
def taken (s : State) (off : Nat) (write : Bool) : Bool :=
  match s.reqs with
  | [r] => nextAt 0 s.reqs == some r && cairnOf r == some (3, off)
      && s.targetError (localOf r.addr) (r.who s.dev) (if write then .write else .read) == 0
  | _ => false
def wait3 (barrier : Bool) (n : Nat) : Waiter := { req := { reqOf (.core 9) (.waitGe n) 0xF000000000300 with id := 8 }, n := n, barrier := barrier, sense := false }
def count (v : Nat) (ws : List Waiter) : Cairn := { mode := 1, value := v, waiters := ws }
def barrier (v : Nat) (ws : List Waiter) : Cairn := { mode := 2, value := v, pm1 := 2, waiters := ws }
/-- Value, flags, waiters, and the requests answered without error. -/
def cairn3 (i : Instr) (s : State) : List Nat :=
  let t := after i s
  [(t.cairn 3).value, (t.cairn 3).flags.toNat, (t.cairn 3).waiters.length] ++ ((t.atOutlet 0).filter (fun a => a.2.2.1 == 0)).map (·.1)

theorem witness_cairns : saddleOfCairn 3 = 0 ∧ taken (atCairn (count 1 []) (.signal 2) 0) 0 true = true
    ∧ taken (atCairn (count 1 []) (.word 0x100000002) 0x18) 0x18 true = true ∧ taken (atCairn (count 1 []) (.decrement 2) 0) 0 true = true
    ∧ taken (atCairn (count 1 []) (.waitGe 2) 0) 0 false = true ∧ taken (atCairn (barrier 1 []) (.waitBar none) 0) 0 false = true
    ∧ taken (atCairn (count 1 []) (.word 0) 0x08) 0x08 true = true ∧ taken (atCairn (count 1 []) (.word 0) 0x10) 0x10 true = true
    ∧ taken (atCairn (count 1 []) (.word 0) 0x20) 0x20 true = true ∧ taken (atCairn (count 1 []) .cancel 0) 0 false = true := by decide +kernel
/-- A count reached lets its waiter go, behind the signal; at 2^24 - 1 the count stays, with OVF; at a barrier MISUSE. -/
theorem test_cairn_signal :
    cairn3 (.cairnSignal 0) (atCairn (count 1 [wait3 false 3, wait3 false 4]) (.signal 2) 0) = [3, 0, 1, 7, 8]
    ∧ cairn3 (.cairnSignal 0) (atCairn (count (2 ^ 24 - 1) []) (.signal 1) 0) = [2 ^ 24 - 1, 1, 0, 7]
    ∧ cairn3 (.cairnSignal 0) (atCairn (barrier 1 []) (.signal 1) 0) = [1, 4, 0, 7] := by decide +kernel
theorem test_cairn_decrement :
    cairn3 (.cairnDecrement 0) (atCairn (count 1 []) (.decrement 1) 0) = [0, 0, 0, 7]
    ∧ cairn3 (.cairnDecrement 0) (atCairn (count 1 []) (.decrement 2) 0) = [0, 2, 0, 7] := by decide +kernel
theorem test_cairn_wait :
    cairn3 (.cairnWait 0) (atCairn (count 2 []) (.waitGe 2) 0) = [2, 0, 0, 7]
    ∧ cairn3 (.cairnWait 0) (atCairn (count 1 []) (.waitGe 2) 0) = [1, 0, 1]
    ∧ cairn3 (.cairnWait 0) (atCairn {} (.waitGe 2) 0) = [0, 4, 0, 7] := by decide +kernel
/-- Of three participants, the third arrival ends the episode; a pure wait of the other sense is answered at once. -/
theorem test_cairn_barrier :
    cairn3 (.cairnBarrierArrival 0) (atCairn (barrier 1 [wait3 true 0]) (.waitBar none) 0) = [2, 0, 2]
    ∧ cairn3 (.cairnBarrierArrival 0) (atCairn (barrier 2 [wait3 true 0]) (.waitBar none) 0) = [0, 0, 0, 7, 8]
    ∧ cairn3 (.cairnBarrierArrival 0) (atCairn (barrier 1 []) (.waitBar (some true)) 0) = [1, 0, 0, 7]
    ∧ cairn3 (.cairnBarrierArrival 0) (atCairn (barrier 1 []) (.waitBar (some false)) 0) = [1, 0, 1]
    ∧ cairn3 (.cairnBarrierArrival 0) (atCairn (count 1 []) (.waitBar none) 0) = [1, 4, 0, 7] := by decide +kernel
theorem test_cairn_config :
    cairn3 (.cairnConfigWrite 0) (atCairn (count 1 []) (.word 0x4000000000000009) 0x08) = [9, 0, 0, 7]
    ∧ cairn3 (.cairnConfigWrite 0) (atCairn (count 1 []) (.word 0xC000000000000009) 0x08) = [1, 0, 0, 7]
    ∧ cairn3 (.cairnConfigWrite 0) (atCairn (count 1 [wait3 false 3]) (.word 0x4000000000000009) 0x08) = [1, 8, 1, 7] := by decide +kernel
theorem test_cairn_flags_and_pset :
    cairn3 (.cairnFlagsWrite 0) (atCairn { count 1 [] with flags := 7 } (.word 5) 0x10) = [1, 2, 0, 7]
    ∧ cairn3 (.pset 0) (atCairn (barrier 2 [wait3 true 0]) (.word 1) 0x20) = [0, 0, 0, 8, 7]
    ∧ cairn3 (.pset 0) (atCairn (barrier 1 [wait3 true 0]) (.word 1) 0x20) = [1, 0, 1, 7] := by decide +kernel
/-- A cancel takes the waiters of its sender, and is acknowledged at the outlet. -/
theorem test_cairn_cancel :
    cairn3 (.cairnCancel 0) (atCairn (count 1 [{ wait3 false 3 with req := { (wait3 false 3).req with ident := 5 } }, wait3 false 4]) .cancel 0) = [1, 0, 1, 7] := by
  decide +kernel
def out3 (kind : RKind) (code : BitVec 16) : State := { open5 k0 with saddles := [(0, { outlet := [ansOf (.core 5) kind code 0] })] }
def tk3 : Ticket := { no := 0, req := reqOf (.remote 1 9 0) (.waitGe 2) 0xF000000000300, retry := 64 }
/-- Device 9 may wait at cairn 3. -/
def shared (q : Cairn) : State :=
  { open5 k0 with cairns := [(3, q)], saddles := [(0, { refused := [tk3] })]
                  dict := tables ++ [(okey 0x4030 6, 2 ^ 63 + 5 * 2 ^ 60 + 9 * 2 ^ 40 + 7 + 2 ^ 64 * (2 ^ 61 + 0xFF * 2 ^ 26))] }
theorem witness_share : cairnOf tk3.req = some (3, 0) ∧ (shared (count 1 [])).remoteWaiters 0 < 1048568 := by decide +kernel
/-- A wait's answer goes to its core; a signal without error needs none. -/
theorem test_outlet : (after (.cairnAnswerSend 0) (out3 (.waitGe 2) 0)).answers.map (·.dst) = [.core 5]
    ∧ (after (.cairnAnswerSend 0) (out3 (.signal 2) 0)).answers = []
    ∧ (after (.cairnAnswerSend 0) (out3 (.signal 2) 0)).atOutlet 0 = [] := by decide +kernel
theorem test_share :
    ((after (.waiterShareRetry 0) (shared (count 1 []))).cairn 3).waiters.map (·.n) = [2]
    ∧ ((after (.waiterShareRetry 0) (shared (count 1 []))).saddle 0).refused = [] := by
  decide +kernel

theorem witness_cairn_units : (atCairn {} (.signal 2) 0).saddlesOff = false ∧ taken (atCairn (count 1 []) (.word 1) 0x28) 0x28 true = true
    ∧ taken (atCairn (count 1 []) (.word 1) 0) 0 true = true ∧ remoteSrc (.core 5) = false ∧ remoteSrc (.remote 1 9 0) = true
    ∧ (atCairn {} (.signal 2) 0).remoteWaiters 0 < 1048568 ∧ ((atCairn {} (.signal 2) 0).saddle 0).refused = [] := by decide +kernel
/-- A store to an offset that the cairn ignores. -/
theorem test_cairn_ignores : cairn3 (.cairnSignal 0) (atCairn (count 1 []) (.word 9) 0x28) = [1, 0, 0, 7] := by decide +kernel
def loading : State := { atCairn (count 6 []) .loadWord 0 with power := { startStep := 8 } }
theorem witness_cairn_load : nextAt 0 loading.reqs = some { reqOf (.core 5) .loadWord 0xF000000000300 with ident := 5 }
    ∧ nextAt 0 (loading.reqs.filter (fun y => y.id != 7)) = none ∧ (loading.saddle 0).outlet = [] ∧ loading.abandoned = []
    ∧ loading.tableError (localOf 0xF000000000300) (.core 5) .read = 0 := by decide +kernel
theorem test_cairn_load : (after (.cairnAnswerSend 0) loading).answers.map (fun a => (a.id, a.dst, a.data)) = [(7, .core 5, 0x6000000000000006)] := by
  decide +kernel
theorem witness_retry : (shared (count 1 [])).saddlesOff = false ∧ ((shared (count 1 [])).saddle 0).refused = [tk3] ∧ (shared (count 1 [])).reqs = []
    ∧ saddleOfCairn 3 = 0 ∧ (shared (count 1 [])).targetError (localOf tk3.req.addr) (tk3.req.who 0) .read = 0 := by decide +kernel
theorem witness_outlet : nextAt 0 (out3 (.waitGe 2) 0).arrived = none ∧ ((out3 (.waitGe 2) 0).saddle 0).outlet.length = 1 ∧ (out3 (.waitGe 2) 0).abandoned = [] := by
  decide +kernel

/-! ### Near-memory commands -/

/-- P with N in its low bits, K from bit 32 and AUX from bit 52 (R237). -/
def cmd (op : BitVec 4) (n k aux : Nat) (ty mode : Nat) : NmcCmd :=
  { op := op, a := 0x1000, b := 0x2000, p := w64 (n + 2 ^ 26 * mode + 2 ^ 28 * ty + 2 ^ 32 * k + 2 ^ 52 * aux), c := 0x3000, cairn := some 0xF000000000300, ident := 5
    bBase := 0x2000, bEnd := 0x12000 }
def p1000 (q : NmcCmd) : State :=
  let t := ((open5 k0).writeBytes 0x2000 [0x11, 0, 0, 0, 0x22, 0, 0, 0, 0x33]).writeBytes 0x3000 [1, 0, 0, 0, 255, 255, 255, 255]
  { t with plinths := [(p32.val, { nmcQ := [{ reqOf (.core 5) (.nmc q) 0x1000 with id := 9 }] })] }
def nmcEnds (i : Instr) (q : NmcCmd) : Option (BitVec 16) × List Nat :=
  let t := after i (p1000 q)
  (((t.plinth p32).nmcDone).map (·.2), [t.readMem 0x1000 8, t.readMem 0x3000 4])
theorem witness_nmc_runs : (match ((p1000 (cmd 0 5 0 0 0 0)).nmcAdmit p32) with
    | u => (u.plinth p32).nmcQ.length == 1 && (u.plinth p32).nmcDone == none && u.nmcAllowed (reqOf (.core 5) (.nmc (cmd 0 5 0 0 0 0)) 0x1000) (cmd 0 5 0 0 0 0)) = true
    ∧ (cmd 0 5 0 0 0 0).paramsOk = true ∧ (cmd 0 5 0 7 0 0).paramsOk = false ∧ (cmd 11 5 0 0 0 0).paramsOk = true ∧ (cmd 10 5 0 255 0 0).paramsOk = true
    ∧ (cmd 10 5 0 256 0 0).paramsOk = false ∧ (cmd 8 5 0 0 0 0).paramsOk = false := by decide +kernel
def ran (q : NmcCmd) : Nat × List (Nat × List Byte) := (((p1000 q).nmcRun q).code, ((p1000 q).nmcRun q).writes)
theorem test_nmc_copy : ran (cmd 0 5 0 0 0 0) = (0, [(0x1000, [0x11, 0, 0, 0, 0x22])]) := by decide +kernel
theorem test_nmc_engine_error : nmcEnds (.copy p32) (cmd 0 5 0 7 0 0) = (some 0x1008, [0, 1]) := by decide +kernel
/-- Elements 1 and −1 of a table of words at B: element −1 lies below the page. -/
theorem test_nmc_gather : ran (cmd 3 2 0 0 10 0) = (0x1008, [(0x1000, [0x22, 0, 0, 0, 0, 0, 0, 0])]) := by decide +kernel
/-- 0x11 times 2 and 0x22 times 2, added to zeros (R238). -/
theorem test_nmc_gfmac : ran (cmd 10 5 0 2 0 0) = (0, [(0x1000, [0x22, 0, 0, 0, 0x44])]) := by decide +kernel
/-- Signed words 3 and −1 at A; the permutation goes nowhere where B is 0. -/
theorem test_nmc_sort :
    (((open5 k0).writeBytes 0x1000 [3, 0, 0, 0, 0xFF, 0xFF, 0xFF, 0xFF]).nmcRun { cmd 5 2 0 0 10 0 with b := 0 }).writes =
      [(0x1000, [0xFF, 0xFF, 0xFF, 0xFF, 3, 0, 0, 0])] := by decide +kernel
theorem witness_compress : (compressLine (5 :: List.replicate 31 0)).length = 8 ∧ (compressLine (List.replicate 32 1)).length = 132
    ∧ (compressLine (List.replicate 32 0)).length = 4 := by decide +kernel
/-- Two contributions, 3 and 5 in 32 bits, both included; the second one's line may be poisoned. -/
def reducing (bad : List Nat) : State :=
  { (((open5 k0).writeBytes 0x3040 [1, 1]).writeBytes 0x2000 [3, 0, 0, 0]).writeBytes 0x2080 [5, 0, 0, 0] with poison := bad }
theorem witness_nmc_operations : (∀ x m, (reducing []).rangeBad x m = false) ∧ (reducing [65]).rangeBad 0x3000 66 = false ∧ (reducing [65]).rangeBad 0x2080 4 = true
    ∧ (reducing [65]).byte 0x3041 = 1 := by
  have h1 : (reducing []).poison = [] := by decide +kernel
  have h2 : (reducing []).dramBad = [] := by decide +kernel
  exact ⟨fun x m => by simp [State.rangeBad, State.lineBad, h1, h2], by decide +kernel, by decide +kernel, by decide +kernel⟩
/-- What a command answers and writes. -/
def codeOf (s : State) (q : NmcCmd) : Nat × List (Nat × List Byte) := ((s.nmcRun q).code, (s.nmcRun q).writes)
/-- The sum, the mean and the status word; the error's status alone. -/
theorem test_nmc_reduce : codeOf (reducing []) (cmd 7 1 0 1 11 0) = (0, [(0x1000, [8, 0, 0, 0]), (0x3000, [2, 0, 0, 0, 0, 0, 0, 128])])
    ∧ codeOf (reducing []) (cmd 7 1 0 1 11 1) = (0, [(0x1000, [4, 0, 0, 0]), (0x3000, [2, 0, 0, 0, 0, 0, 0, 128])])
    ∧ codeOf (reducing [65]) (cmd 7 1 0 1 11 0) = (0x1006, [(0x3000, [2, 0, 0, 0, 0, 0, 0, 160])]) := by decide +kernel
/-- The runs 1, 5 and 2 of words at A, in their order; no payloads. -/
theorem test_nmc_merge : (codeOf ((open5 k0).writeBytes 0x1000 [1, 0, 0, 0, 5, 0, 0, 0, 2]) { cmd 6 3 2 0 11 0 with b := 0 }).2
    = [(0x1000, [1, 0, 0, 0, 2, 0, 0, 0, 5, 0, 0, 0])] := by decide +kernel
/-- A packed line with its first word 7 alone. -/
theorem test_nmc_decompress : (codeOf ((open5 k0).writeBytes 0x2000 [1, 0, 0, 0, 7]) (cmd 9 128 0 0 0 0)).2 = [(0x1000, 7 :: List.replicate 127 0)] := by
  decide +kernel
def releasing : State := (p1000 (cmd 11 5 0 0 0 0)).modPlinth p32 (fun q =>
  { q with msc := [(mscSet 0x1000, [{ way := 0, tag := mscTag 0x1000, cls := 3, dirty := false }])] })
theorem witness_nmc_release : (((releasing).nmcAdmit p32).plinth p32).nmcGot = none ∧ (releasing.nmcAdmit p32).nmcAllowed (reqOf (.core 5) (.nmc (cmd 11 5 0 0 0 0)) 0x1000) (cmd 11 5 0 0 0 0) = true
    ∧ (cmd 11 5 0 0 0 0).n ≠ 0 ∧ (((releasing).nmcAdmit p32).plinth p32).nmcDone = none := by decide +kernel
theorem test_nmc_release : (mget mscDef ((after (.pinrel p32) releasing).plinth p32).msc (mscSet 0x1000)).map (·.cls) = [2] := by decide +kernel
def doneCmd (code : BitVec 16) (c : Option Word) : State :=
  { open5 k0 with plinths := [(p32.val, { nmcDone := some ({ reqOf (.core 5) (.nmc { cmd 0 5 0 0 0 0 with cairn := c }) 0x1000 with id := 9 }, code) })] }
theorem test_completion :
    (after (.nmcCompletionSignal p32) (doneCmd 0 (some 0xF000000000300))).reqs.map (fun r => (r.src, r.kind)) = [(.engine p32, .signal 1)]
    ∧ (after (.nmcCompletionSignal p32) (doneCmd 0x1008 none)).answers.map (fun a => (a.dst, a.code)) = [(.core 5, 0x1008)]
    ∧ (after (.nmcCompletionSignal p32) (doneCmd 0 none)).reqs = [] := by decide +kernel

/-- The lines of a copy of 5 bytes are in their caches, and `fl` in the filter of its plinth. -/
def quick (fl : List (Nat × BitVec 12 × BitVec 16)) : State := (inMsc [0x1000, 0x2000] (p1000 (cmd 0 5 0 0 0 0))).modPlinth p32 (fun q => { q with filter := fl })
theorem witness_nmc_reads : ((quick []).nmcReads (cmd 0 5 0 0 0 0)).isSome = true := by
  have h1 : sourceLines ((quick []).nmcSources (cmd 0 5 0 0 0 0)).1 = [64] := by decide +kernel
  have h2 : sourceLines ((quick []).nmcSources (cmd 0 5 0 0 0 0)).2 = [] := by decide +kernel
  simp only [State.nmcReads, h1, h2, State.engineLines]
  generalize Config.untranslatedClass = u
  revert u
  decide +kernel
theorem witness_nmc_writes : (quick []).saddlesOff = false ∧ (quick []).lineBusy 32 = false ∧ writeLines [(0x1000, [1, 2, 3, 4, 5])] = [32] ∧ (quick []).toldOf [32] = []
    ∧ (quick [(32, 0, 0)]).toldOf [32] = [(32, 0, 0)] ∧ ((p1000 (cmd 0 5 0 7 0 0)).plinth p32).nmcGot = none := by
  decide +kernel
theorem witness_nmc_room : ((quick []).writeRange 0x1000 [1, 2, 3, 4, 5]).plinths.any (fun e => e.2.overfull) = false := by
  have h : touched 0x1000 [(1 : Byte), 2, 3, 4, 5].length = [32] := by decide +kernel
  simp only [State.writeRange, h, List.foldl]
  generalize Config.untranslatedClass = u
  revert u
  decide +kernel
/-- A command that is not aligned, one that the table denies, and an answer that may leave. -/
theorem witness_nmc_ends : ({ p1000 (cmd 0 5 0 0 0 0) with dict := denied } : State).nmcAllowed (reqOf (.core 5) (.nmc (cmd 0 5 0 0 0 0)) 0x1000) (cmd 0 5 0 0 0 0) = false
    ∧ (cmd 0 0 0 0 0 0).n = 0 ∧ (cmd 0 0 0 0 0 0).paramsOk = true ∧ (doneCmd 0 none).abandoned = [] := by decide +kernel


/-! ### The links -/

def withObjs (l : List (Nat × Nat × Nat)) (s : State) : State := l.foldl (fun t o => t.setObj o.1 o.2.1 o.2.2) s
/-- The Shutik link up, in Run, as device 0 of no range. -/
def linked : State := withObjs [(0x4300, 1, 2), (0x2010, 0, 2)] ((open5 k0).writeBytes 0x1000 (natBytes 8 0x1122334455667788))
/-- In Hold, with the link kept on. -/
def inHold : State := withObjs [(0x4300, 1, 2), (0x2010, 0, 4), (0x2041, 0, 1)] (open5 k0)
def hf (addr : BitVec 52) (aux : BitVec 16) (flits : List (BitVec 128)) : HFrame :=
  { buf := 3, seq := 0, addr := addr, tag := 0x42, aux := aux, flits := flits }
/-- Frames with their FCRC. -/
def sealH (ty : Nat) (f : HFrame) : HFrame := { f with fcrc := hframeFcrc (BitVec.ofNat 5 ty) f }
def sealT (ty : Nat) (f : Frame) : Frame := { f with fcrc := frameFcrc (BitVec.ofNat 5 ty) f }
theorem sealed_host (s : State) (ty : Nat) (f : HFrame) (free : Bool) (g : State → State) :
    s.hostFrame ty (sealH ty f) free g =
      .next (if !s.receives 6 then s else g (s.received 6 (.h ⟨BitVec.ofNat 5 ty, sealH ty f⟩) free)) := by
  have h : hframeFcrc (BitVec.ofNat 5 ty) (sealH ty f) = (sealH ty f).fcrc := rfl
  simp [State.hostFrame, h]
theorem sealed_port (s : State) (p ty : Nat) (f : Frame) (here : State → State) :
    s.arrive p ty (sealT ty f) here =
      .next (if !s.receives p || !frameOk ty (sealT ty f) then s
        else
          let s1 := s.received p (.t ⟨BitVec.ofNat 5 ty, sealT ty f⟩) true
          if !(s1.rstate ≠ 0 && (sealT ty f).dest.toNat = s1.dev) then s1.forward p ty (sealT ty f)
          else if ty < 0x10 && s1.saddleFenced p then s1.bounce p ty (sealT ty f) codeFenced
          else here s1) := by
  have h : frameFcrc (BitVec.ofNat 5 ty) (sealT ty f) = (sealT ty f).fcrc := rfl
  simp only [State.arrive, h, ne_eq, not_true_eq_false, if_false]
/-- The frames of the Shutik link that the module has sent: types. -/
def hostSaw (s : State) : List Nat := (s.link 6).sent.map (fun e => match e.2 with
  | .h f => f.ty.toNat
  | _ => 99) ++ (s.link 6).txq.map (fun e => match e with
  | .h f => f.ty.toNat
  | _ => 99)
/-- The doorbell table at 0x8000, one valid entry: core 9. -/
def belled : State := (withObjs [(0x4310, 1, 0x8000), (0x4310, 2, 1)] linked).writeBytes 0x8000 (natBytes 8 (2 ^ 63 + 9))

theorem witness_host : linked.receives 6 = true ∧ inHold.receives 6 = true ∧ linked.targetError (32 * 128) .host .read = 0 ∧ linked.lineBad 32 = false
    ∧ linked.dramSoft.contains 32 = false ∧ linked.obj 0x2010 0 ≠ 4 ∧ regionOf 0xF000000000300 = .cairn 3 0 ∧ belled.obj 0x4310 1 = 0x8000
    ∧ belled.fenceCode 0x8000 = 0 ∧ belled.fenceCode 0x8008 = 0 ∧ wb (belled.word 0x8000) 63 = true ∧ wf (belled.word 0x8000) 20 0 = 9
    ∧ belled.targetError 0x8008 .host .write = 0 ∧ belled.rimHolds 0 = false := by decide +kernel
theorem test_hrd : hostSaw (after (.hrd (sealH 0 (hf 0xF800000000000 0x8000 []))) linked) = [8] ∧ hostSaw (after (.hrd (sealH 0 (hf 0x1000 0 []))) inHold) = [8] := by decide +kernel
theorem test_host_line : ∀ cls : BitVec 2, (match (inMsc [0x1000] linked).readNow 0x1000 .host cls with
    | some (code, _, t) => code == 0 && t.hostLine 32 % 2 ^ 64 == 0x1122334455667788
    | none => false) = true := by decide +kernel
theorem test_hwr :
    (after (.hwr (sealH 1 (hf 0xF000000000300 0x8000 [0xAB]))) linked).reqs.map (·.kind) = [.word 0xAB]
    ∧ (after (.hwr (sealH 1 (hf 0x18000000000 0 [0]))) linked).obj 0x4300 8 = 0x1005
    ∧ (after (.hwr (sealH 1 (hf 0x1008 0x8000 [0xAB]))) inHold).obj 0x4300 8 = 0x1001 := by decide +kernel
theorem test_dbell : (after (.dbell (sealH 7 (hf 0 1 [0x77]))) belled).obj 0x4310 3 = 1 := by decide +kernel
theorem test_dbell_wakes : (after (.dbell (sealH 7 (hf 0 0xFFFF [0]))) inHold).obj 0x2010 0 = 5 := by decide +kernel

def bursting (b : Burst) : State := { linked with host := { linked.host with bursts := [(3, b)], out := [{ buf := 3, desc := 8, data := [] }] } }
def opened (e : Nat) : Burst := { st := .open, addr := 0x1000, frames := 2, expected := e, data := [] }
def bd (seq : BitVec 12) : HFrame := { hf 0 0 (List.replicate 16 1) with seq := seq }
theorem witness_bursts : (bursting (opened 0)).receives 6 = true ∧ (bursting (opened 0)).burst 3 = opened 0
    ∧ ((bursting (opened 0)).outOf 3).map (·.desc) = some 8 ∧ fld (0x3000 : BitVec 16).toNat 15 12 = 3
    ∧ (bursting (opened 0)).hostOpen (0x8000 + 3) = false := by decide +kernel
theorem test_burst_data :
    ((after (.bdata (sealH 3 (bd 0))) (bursting (opened 0))).burst 3).expected = 1 ∧ ((after (.bdata (sealH 3 (bd 1))) (bursting (opened 1))).burst 3).st = .committing
    ∧ (after (.bdata (sealH 3 (bd 1))) (bursting (opened 0))).burst 3 = {} ∧ hostSaw (after (.bdata (sealH 3 (bd 0))) linked) = [5] := by
  have h (f : HFrame) (s : State) : after (.bdata f) s = match execBdata f s with
    | .next t => t
    | _ => State.reset := rfl
  simp only [h, execBdata, sealed_host]
  decide +kernel
theorem test_burst_opens : ((after (.bopen (sealH 2 (hf 0x1000 1 []))) linked).burst 3) = opened 0 := by decide +kernel
theorem test_burst_states :
    ((after (.burstPause 3) (bursting (opened 1))).burst 3).st = .paused ∧ (after (.burstDiscard 3) (bursting (opened 1))).burst 3 = {}
    ∧ (after (.burstCommitDone 3) (bursting { opened 1 with st := .committing })).burst 3 = {}
    ∧ (after (.burstCompleteTimeout 3) (bursting (opened 0))).host.out.length = 0
    ∧ (after .crst (bursting (opened 0))).host.bursts = [] ∧ hostSaw (after (.bres (sealH 4 (hf 0 0 []))) (bursting (opened 0))) = [5] := by decide +kernel
/-- A descriptor ring of 16 entries at 0x90000, cairn 3, the engine's wait answered. -/
def ringing : State := { withObjs [(0x4300, 5, 0x90000), (0x4300, 6, 16), (0x4300, 7, 3)] linked with answers := [ansOf .link (.waitGe 1) 0 0] }
def desc0 : Desc := { no := 1, slot := 0x90000, op := 0, cv := false, cairn := 0, left := 0, at_ := 0x1000, host := 0, code := 0, running := 0, written := false }
theorem witness_ring : (takeFirst (fun a => linkWaits a.dst a.kind) ringing.answers).isSome = true ∧ ringing.obj 0x4300 5 = 0x90000
    ∧ ringing.obj 0x4300 6 = 16 ∧ ringing.targetError (0x90000 / 128 * 128) .host .read = 0 ∧ ringing.lineBad (0x90000 / 128) = false
    ∧ ringing.isLocal (w64 (ringing.dev * 2 ^ 52 + (0x90000 + 0x18))) = true := by decide +kernel
/-- A wait answered Fenced is sent again; a finished descriptor has its DONE written. -/
theorem test_ring : (after .descriptorTake { ringing with answers := [ansOf .link (.waitGe 1) 0x1001 0] }).reqs.map (·.kind) = [.waitGe 1]
    ∧ (after (.descriptorDone 1) { linked with host := { linked.host with descs := [desc0] } }).reqs.map (·.kind) = [.word 0x8000000000000000] := by
  decide +kernel

/-- Scale-out port 0 up; the module is device 2 of a range, with a route to device 9 through port 0. -/
def ranged : State := withObjs [(0x4200, 1, 2), (0x4000, 4, 2), (0x4000, 1, 2), (0x4000, 2, 2), (0x4000, 3, 2), (0x2010, 0, 2), (0x4010, 0, 0)]
  { (open5 k0).writeBytes 0x1000 (natBytes 8 0x1122334455667788) with members := [2, 9] }
def port0 (l : Link) : State := { ranged with links := [(0, l)], power := { ranged.power with off := false } }
def kept2 : Link := { rxExpected := 5, txNum := 8, replay := [(6, .h ⟨0, hf 0 0 []⟩), (7, .h ⟨0, hf 0 0 []⟩)] }
theorem witness_link_control : (port0 kept2).obj (linkState 0) 1 = 2 ∧ kept2.replay.any (fun e => e.1 = 7) = true
    ∧ (withObjs [(0x4200, 1, 0)] (port0 {})).lanesOn 0 = true := by decide +kernel
theorem test_link_control :
    ((after (.lctlAck 0 7 0) (port0 kept2)).link 0).replay.map (·.1) = [7] ∧ ((after (.lctlAck 0 8 0) (port0 kept2)).link 0).replay = []
    ∧ ((after (.lctlNak 0 7) (port0 kept2)).link 0).sent.map (·.1) = [7]
    ∧ ((after (.lctlReplayStart 0 5) (port0 { kept2 with rxBlocked := true })).link 0).rxBlocked = false
    ∧ ((after (.badFrame 0 false) (port0 kept2)).link 0).lctlSent = [lctlFlit 1 5 []] ∧ (after (.badFrame 0 false) (port0 kept2)).obj 0x4200 4 = 1 := by decide +kernel
theorem test_port_states :
    (after (.cableMated 0) (withObjs [(0x4200, 1, 0)] (port0 {}))).obj 0x4200 1 = 1
    ∧ (after (.portTrainingDone 0 9 8192) (withObjs [(0x4200, 1, 1)] (port0 {}))).obj 0x4200 1 = 2
    ∧ (after (.portTrainingDone 0 9 8193) (withObjs [(0x4200, 1, 1)] (port0 {}))).obj 0x4200 1 = 0
    ∧ (after (.portRetrain 0) (port0 {})).obj 0x4200 1 = 1 ∧ (after (.portRetrainTimeout 0) (withObjs [(0x4200, 1, 1)] (port0 {}))).obj 0x4200 1 = 0
    ∧ ((after (.ackTimer 0) (port0 { held := [1, 0, 0, 0, 0, 0] })).link 0).held = [0, 0, 0, 0, 0, 0] := by decide +kernel
theorem test_loopback : ((after (.loopbackRequest 0) (withObjs [(0x4200, 1, 0)] (port0 {}))).link 0).loopback = true
    ∧ ((after (.loopbackLimit 0) (port0 { loopback := true })).link 0).loopback = false := by decide +kernel
def epoch0 : State := { ranged with epochTable := some 0, saddles := [(0, { epochWait := true })], remote := [(4, { rd32 with addr := 0x0090000000001000 })] }
theorem witness_epoch : srcSaddle rd32 = 0 ∧ (epoch0.saddle 0).epochWait = true ∧ epoch0.remote.filter (fun e => srcSaddle e.2 = 0) ≠ [] := by decide +kernel
theorem test_epoch : (after (.routeEpochLimit 0) epoch0).answers.map (fun a => (a.id, a.code)) = [(7, 0x1007)] := by decide +kernel

/-- A frame from device 9 for this module, device 2: line 32. -/
def fr (aux : BitVec 16) (flits : List (BitVec 128)) : Frame :=
  { dest := 2, src := 9, tag := 4, line := 32, hops := 1, vcb := false, aux := aux, flits := flits }
theorem witness_frames : (port0 {}).receives 0 = true ∧ frameOk 0x00 (fr 0 []) = true ∧ frameOk 0x05 { fr 0 [1] with line := 0x1E000000006 } = true
    ∧ frameOk 0x03 (fr 0x8000 [1]) = true ∧ frameOk 0x03 (fr 0x4000 (List.replicate 9 0)) = true ∧ frameOk 0x03 (fr 0 (List.replicate 8 0)) = true
    ∧ frameOk 0x08 (fr 0 (List.replicate 3 0)) = true ∧ frameOk 0x09 (fr 0 []) = true ∧ (port0 {}).clusterFenced 4 = false
    ∧ (port0 {}).portFor 0 9 = some 0 ∧ (port0 {}).dev = 2 := by decide +kernel
theorem test_frames :
    (after (.rd 0 (sealT 0 (fr 0 []))) (port0 {})).reqs.map (fun r => (r.src, r.kind, r.addr)) = [(.remote 0 9 4, .read false, 0x0020000000001000)]
    ∧ (after (.wr 0 (sealT 3 (fr 0x8001 [0x55]))) (port0 {})).reqs.map (fun r => (r.kind, r.addr)) = [(.word 0x55, 0x0020000000001008)]
    ∧ (after (.inv 0 (sealT 9 (fr 0 []))) (port0 {})).reqs.map (·.kind) = [.invalidate 0 32]
    ∧ ((after (.rd 0 (sealT 0 { fr 0 [] with dest := 9 })) (port0 {})).link 0).txq.length + ((after (.rd 0 (sealT 0 { fr 0 [] with dest := 9 })) (port0 {})).link 0).sent.length = 1 := by
  decide +kernel
def awaiting (r : Req) : State := { port0 {} with remote := [(4, r)] }
def far (k : RKind) : Req := reqOf (.core 5) k 0x0090000000001000
theorem witness_answer_frames : ((awaiting (far (.read false))).openAny (fr 0 (List.replicate 8 0))).isSome = true
    ∧ frameOk 0x10 (fr 0 (List.replicate 8 0)) = true ∧ ((awaiting (far (.storeCond true 1))).openAny (fr 0 [])).isSome = true
    ∧ frameOk 0x11 (fr 0 []) = true ∧ ((awaiting (far (.waitGe 1))).openAny (fr 0 [])).isSome = true ∧ frameOk 0x12 (fr 0 []) = true
    ∧ frameOk 0x13 (fr 0 []) = true ∧ ((awaiting (far (.waitGe 1))).saddle (srcSaddle (far (.waitGe 1)))).epochWait = false := by decide +kernel
theorem test_data_frame :
    (after (.data 0 (sealT 16 (fr 0 (List.replicate 8 1)))) (awaiting (far (.read false)))).answers.map (fun a => (a.id, a.code, a.data.toNat % 2 ^ 64))
      = [(7, 0, 1)] := by
  have h (p : PortId) (f : Frame) (s : State) : after (.data p f) s = match execData p f s with
    | .next t => t
    | _ => State.reset := rfl
  simp only [h, execData, sealed_port]
  decide +kernel
theorem test_answer_frames :
    (after (.ack 0 (sealT 17 { fr 0 [] with line := 1 })) (awaiting (far (.storeCond true 1)))).answers.map (·.data) = [1]
    ∧ (after (.cans 0 (sealT 18 { fr 0x1001 [] with line := 3 })) (awaiting (far (.waitGe 1)))).answers.map (·.sense) = [some true]
    ∧ ((after (.iack 0 (sealT 19 (fr 0 []))) { awaiting { far (.invalidate p32 32) with ident := 4 } with plinths := [(p32.val, { filter := [(32, 9, 4), (32, 2, 4)] })] }).plinth p32).filter = [(32, 2, 4)] := by
  decide +kernel

theorem witness_host_access : linked.hostClear ∧ linked.readable .host 0x1000 64 ∧ linked.writable .host 0x1008 8 ∧ belled.hostClear
    ∧ belled.readable .host 0x8000 8 ∧ belled.writable .host 0x8008 8 ∧ ringing.readable .host 0x90000 32 := by
  have clear (s : State) (hw : s.host.waiting = []) (hr : s.reqs = []) (hs : s.resend = []) (hp : s.plinths = []) : s.hostClear := by
    refine ⟨hw, ?_, ?_, fun p => ?_⟩ <;> simp [hr, hs, hp, State.plinth, mget, plinthDef]
  exact ⟨clear _ (by decide +kernel) (by decide +kernel) (by decide +kernel) (by decide +kernel), readable_of_reads _ _ _ _ (by decide +kernel) (by decide +kernel),
    writable_of_writes _ _ _ _ (by decide +kernel) (by decide +kernel),
    clear _ (by decide +kernel) (by decide +kernel) (by decide +kernel) (by decide +kernel), readable_of_reads _ _ _ _ (by decide +kernel) (by decide +kernel),
    writable_of_writes _ _ _ _ (by decide +kernel) (by decide +kernel), readable_of_reads _ _ _ _ (by decide +kernel) (by decide +kernel)⟩
/-- Frames with a bad FCRC. -/
theorem witness_unsealed : hframeFcrc 0 (hf 0x1000 0 []) ≠ (hf 0x1000 0 []).fcrc ∧ hframeFcrc 7 (hf 0 1 []) ≠ (hf 0 1 []).fcrc
    ∧ frameFcrc 0 (fr 0 []) ≠ (fr 0 []).fcrc := by decide +kernel
theorem test_bad_fcrc : (after (.hrd (hf 0x1000 0 [])) linked).host.crcErrors = 1 ∧ hostSaw (after (.hrd (hf 0x1000 0 [])) linked) = []
    ∧ (after (.rd 0 (fr 0 [])) (port0 {})).obj 0x4200 4 = 1 := by decide +kernel
/-- A host write that is refused counts once. -/
theorem test_refused_write : (after (.hwr (sealH 1 (hf 0x18000000000 1 [0]))) linked).obj 0x4300 9 = 1 := by decide +kernel
theorem witness_committing : ((bursting { opened 1 with st := .committing }).burst 3).expected ≤ (bd 1).seq.toNat
    ∧ ((bursting (opened 1)).burst 3).expected + 1 = 2 ∧ ringing.host.descs.length < 16
    ∧ ({ linked with host := { linked.host with descs := [desc0] } } : State).dbellWaits desc0 = false := by decide +kernel
/-- A committing burst takes no more frames. -/
theorem test_committing : ((after (.bdata (sealH 3 { hf 0 0 [] with seq := 1 })) (bursting { opened 1 with st := .committing })).burst 3).st = .committing
    ∧ hostSaw (after (.bdata (sealH 3 { hf 0 0 [] with seq := 1 })) (bursting { opened 1 with st := .committing })) = [5] := by decide +kernel
def retraining (l : Link) : State := withObjs [(0x4200, 1, 1)] (port0 l)
theorem witness_training : (retraining {}).obj (linkState 0) 1 = 1 ∧ ((retraining {}).link 0).trained = false ∧ ((retraining {}).link 0).txq = []
    ∧ ((retraining { kept2 with trained := true }).link 0).replay.length = 2 ∧ ((port0 { kept2 with rxBlocked := true }).link 0).rxBlocked = true
    ∧ (port0 kept2).isManager = true  := by decide +kernel
/-- What the link kept is replayed once it trains again; a blocked receiver takes no ACK. -/
theorem test_training : ((after (.portTrainingDone 0 9 512) (retraining { kept2 with trained := true })).link 0).sent.map (·.1) = [6, 7]
    ∧ ((after (.lctlAck 0 7 0) (port0 { kept2 with rxBlocked := true })).link 0).replay.length = 2 
    ∧ (after (.portTrainingDone 0 9 1001) (retraining {})).obj 0x4200 2 = 1008 ∧ (after (.portTrainingDone 0 9 9) (retraining {})).obj 0x4200 2 = 512 := by decide +kernel

theorem witness_burst_waits : (bursting (opened 0)).outOf 3 = some { buf := 3, desc := 8, data := [] } ∧ (bursting (opened 0)).burstWaits 3 = false
    ∧ (let s := bursting (opened 0)
       ({ s with links := [(6, { s.link 6 with txq := [.h ⟨3, bd 0⟩] })] } : State).burstWaits 3) = true := by decide +kernel
theorem witness_link_words : (lctlFcrc 0 7 [1, 0, 0, 0, 0, 0]).toNat ≠ 5 ∧ ((port0 { kept2 with advertise := true }).link 0).advertise = true
    ∧ (linked.links = [] ∧ linked.host.out = []) := by decide +kernel
/-- A link-control word with a bad FCRC is discarded, and the credits that it carries are not taken. -/
theorem test_link_words : ((after (.lctlAck 0 7 1 (some 5)) (port0 kept2)).link 0).rxBlocked = true
    ∧ ((after (.lctlAck 0 7 1 (some 5)) (port0 kept2)).link 0).credit = [0, 0, 0, 0, 0, 0]
    ∧ ((after (.lctlAck 0 7 1 (some (lctlFcrc 0 7 [1, 0, 0, 0, 0, 0]))) (port0 kept2)).link 0).credit = [1, 0, 0, 0, 0, 0] := by decide +kernel
theorem test_credits_again : ((after (.portTrainingDone 0 9 512) (retraining { advertise := true })).link 0).lctlSent = [lctlFlit 0 0 [1024, 1024, 2048, 2048, 256, 256]] := by
  decide +kernel
/-- With a route to device 9 through port 1, which trains. -/
def routed (s : State) : State := withObjs [(0x4010, 0, 2 ^ 36), (0x4201, 1, 1)] s
def saddleDown : State := { port0 {} with recovs := [{ dom := .saddle 0, phase := .fence, code := 0x2005, release := false }] }
theorem witness_fenced_port : saddleDown.receives 0 = true ∧ saddleDown.saddleFenced 0 = true ∧ (port0 {}).saddleFenced 0 = false ∧ (fr 0 []).src.toNat ≠ saddleDown.dev
    ∧ ((routed (port0 {})).portFor 0 9) = some 1 ∧ (fr 0 []).hops ≠ 31 ∧ (port0 {}).obj 0x4000 4 ≠ 0 := by decide +kernel
/-- A read that comes in by the port of a fenced saddle is answered Fenced. -/
theorem test_fenced_port : (after (.rd 0 (sealT 0 (fr 0 []))) saddleDown).reqs = []
    ∧ ((after (.rd 0 (sealT 0 (fr 0 []))) saddleDown).link 0).txq.map (fun f => match f with
        | .t x => (x.ty, x.f.aux)
        | _ => (0, 0)) ++ ((after (.rd 0 (sealT 0 (fr 0 []))) saddleDown).link 0).sent.map (fun f => match f.2 with
        | .t x => (x.ty, x.f.aux)
        | _ => (0, 0)) = [(0x11, 0x1001)] := by decide +kernel

/-! ### The range, domains, recoveries and power -/

/-- A manager frame at port 0. -/
def at0 (kind : MgrKind) (dest : BitVec 12) : MHead := { port := 0, f := sealT kind.type.toNat { fr 0 [] with dest := dest } }
def sent (i : Instr) (s : State) : List (MgrKind × List Nat) := (after i s).mgrSent
/-- Device 2, not the manager; and a module that asks to join. -/
def plain : State := withObjs [(0x4000, 3, 9)] (port0 {})
def joining : State := withObjs [(0x4000, 4, 1)] (port0 {})
def noticed : State := withObjs [(0x4020, 1, 0xA000), (0x4020, 2, 16), (0x4030, 60, 0xC000000000000003 + 2 ^ 64 * (0x3FFFFFF * 2 ^ 26))] plain
theorem witness_range : (port0 {}).obj 0x4000 4 = 2 ∧ (port0 {}).obj 0x4000 2 = 2 ∧ (port0 {}).obj 0x4000 3 = (port0 {}).obj 0x4000 1
    ∧ plain.obj 0x4000 3 ≠ plain.obj 0x4000 1 ∧ joining.obj 0x4000 4 = 1 ∧ (9 : BitVec 12) ∈ (port0 {}).members ∧ (7 : BitVec 12) ∉ (port0 {}).members
    ∧ (port0 {}).obj 0x4200 1 = 2 ∧ plain.remote = [] ∧ plain.epochHeld = [] ∧ noticed.obj 0x4020 1 ≠ 0 ∧ srcSaddle rd32 < 8
    ∧ noticed.targetError (noticed.obj 0x4020 1 + 32 * (noticed.obj 0x4020 3 % noticed.obj 0x4020 2)) .summit .write = 0 := by decide +kernel
theorem test_joining : sent .joinRepeat joining = [(.join, [2, 65535, 65535, 65535, 65535, 65535, 65535])] ∧ (after (.joinRefusal none) joining).obj 0x4000 4 = 0
    ∧ (after (.route 0x55 none) joining).obj 0x4000 4 = 2 ∧ (after (.route 0x55 none) joining).obj 0x4010 0 = 0x55
    ∧ (after .leaveTimeout { plain with leaving := true }).obj 0x4000 4 = 0 ∧ (after (.leaveAcknowledgement none) { plain with leaving := true }).members = [] := by
  decide +kernel
theorem test_manager_frames : (((after (.leave 9 3 (some (at0 .leave 9))) (routed plain)).link 1).txq.map (fun f => match f with
      | .m m => (m.kind, m.f.dest, m.body)
      | _ => (.join, 0, []))) = [(.leave, 9, [9])]
    ∧ (((after (.join (at0 .join 9) 4 [0, 0, 0, 0, 0, 0]) (routed plain)).link 1).txq.map (fun f => match f with
      | .m m => (m.kind, m.f.dest, m.body)
      | _ => (.join, 0, []))) = [(.join, 9, [4, 0, 0, 0, 0, 0, 0])]
    ∧ ((after (.report 9 5 1 3 none) (routed plain)).link 1).txq = [] := by decide +kernel
theorem test_manager : sent (.join (at0 .join 2) 9 [0, 0, 0, 0, 0, 0]) (port0 {}) = [(.refusal, [9])] := by decide +kernel
theorem test_member_lost : (after (.memberLost 9 0) (port0 {})).members = [2] := by decide +kernel
theorem test_beacons : sent (.beacon none) (port0 {}) = [(.beacon, [9])] ∧ (after .beaconTimeout plain).obj 0x4000 4 = 3 := by decide +kernel
theorem test_leave_acknowledged : (sent (.leave 9 0 none) (port0 {})).contains (.leaveAck, [9]) = true := by decide +kernel
theorem test_members : (after (.epoch 7 6 none) plain).obj 0x5200 1 = 7
    ∧ ((after (.route 0x55 none) { plain with remote := [(4, rd32)] }).saddle 0).epochWait = true ∧ sent (.route 0x55 none) plain = [(.routeAck, [2])] := by decide +kernel

/-- A roll at 0x8000: two entrants, 9 and 7, in a list at 0x9000; the word of 9 is the first. -/
def rolled (s : State) : State :=
  let t := withObjs [(0x4030, 60, 0xC000000000000003 + 2 ^ 64 * (0x3FFFFFF * 2 ^ 26)), (0x5030, 0, 5)] s
  (t.writeBytes 0x8008 (natBytes 8 2 ++ natBytes 8 0x9000)).writeBytes 0x9000 [9, 0, 7, 0]
theorem witness_roll : (rolled (port0 {})).rollWord 0x8000 9 0x8080 := by
  have hp : (rolled (port0 {})).plinths = [] := by decide +kernel
  have h : Nat.min 4096 ((rolled (port0 {})).word (0x8000 % 0x18000000000 + 8)).toNat = 2 ∧ localOf ((rolled (port0 {})).word (0x8000 % 0x18000000000 + 16)) = 0x9000 := by
    decide +kernel
  simp only [State.rollWord, h]
  exact ⟨readable_of_reads _ _ _ _ hp (by decide +kernel), readable_of_reads _ _ _ _ hp (by decide +kernel), readable_of_reads _ _ _ _ hp (by decide +kernel),
    writable_of_writes _ _ _ _ hp (by decide +kernel), fun p => by simp [no_slots _ hp p], 0, by decide, by decide, by decide +kernel, fun i hi => absurd hi (by omega)⟩
theorem witness_summit_frames : (port0 {}).forSummit none .join ∧ (port0 {}).forSummit (some (at0 .leave 2)) .leave := by
  refine ⟨fun h hh => (by cases hh), fun h hh => ?_⟩
  cases hh
  decide +kernel
/-- The manager of devices 2 and 9; 9 has lost its only link, and 7 joins. -/
def managing (j : Option (BitVec 12)) : State := { rolled (port0 {}) with joining := j, reports := [(9, [])] }
theorem witness_manager : (managing none).isManager = true ∧ (9 : BitVec 12) ∈ (managing none).members ∧ (managing none).obj 0x5030 0 = 5
    ∧ (managing none).lostOnes = [9] ∧ (managing none).joining = none
    ∧ ((withObjs [(0x4200, 3, 9)] (port0 {})).reported 9 [2]).lostOnes = []
    ∧ noticed.sumWait.any (·.isNotice) = false ∧ (port0 {}).members.filter (fun m => m.toNat ≠ (port0 {}).dev) = [9] := by decide +kernel
theorem witness_notice : noticed.writable .summit (noticed.obj 0x4020 1 + 32 * (noticed.obj 0x4020 3 % noticed.obj 0x4020 2)) 32 :=
  writable_of_writes _ _ _ _ (by decide +kernel) (by decide +kernel)
theorem test_join : ((sent (.join (at0 .join 2) 7 [2, 0, 0, 0, 0, 0]) (port0 {})).map (·.1)) = [.route]
    ∧ (after (.join (at0 .join 2) 7 [2, 0, 0, 0, 0, 0]) (port0 {})).routeWait = [9] := by decide +kernel
theorem test_join_done : (after (.route 0x55 (some (at0 .route 2))) { managing (some 7) with routeWait := [9] }).members = [2, 9, 7] := by decide +kernel
/-- A lost member leaves the range, and a restore waits for the summit. -/
theorem test_lost : (after (.memberLost 9 0) (port0 {})).lost = [(9, 0)] ∧ (after (.memberLost 9 0) (port0 {})).sumWait.contains .restore = true := by decide +kernel
theorem witness_manager_words : mgrSound (at0 .join 2) .join = true ∧ mgrSound (at0 .route 2) .route = true ∧ mgrSound { at0 .beacon 2 with f := fr 0 [] } .beacon = false
    ∧ (at0 .route 2).f.dest.toNat = (managing (some 7)).dev ∧ ((routed plain).portFor 0 9) = some 1 ∧ plain.receives 0 = true ∧ (managing (some 7)).epochTable = none := by
  decide +kernel
/-- A manager frame with a bad FCRC is discarded and counted. -/
theorem test_manager_words : (after (.beacon (some { at0 .beacon 2 with f := fr 0 [] })) plain).obj 0x4200 4 = 1 ∧ sent (.beacon (some { at0 .beacon 2 with f := fr 0 [] })) plain = [] := by
  decide +kernel
theorem witness_noted : noticed.obj 0x4020 1 ≠ 0 ∧ noticed.sumWait.any (·.isNotice) = false ∧ noticed.obj 0x4000 3 < 4096 ∧ noticed.obj 0x4000 4 = 2
    ∧ (∀ e ∈ noticed.remote, devOf e.2.addr ≠ 9) ∧ ((port0 {}).obj 0x4020 1 = 0) := by decide +kernel
/-- The records of each kind of notice. -/
theorem test_notices : bytesNat (noticeBytes 0 1 9 true 5 8) = 2 ^ 32 + 2 ^ 24 + 9 + (2 ^ 32 + 5) * 2 ^ 64 + 8 * 2 ^ 128
    ∧ bytesNat (noticeBytes 0 3 9 false 0 8) = 2 ^ 32 + 3 * 2 ^ 24 + 9 ∧ (noticeBytes 0 4 9 false 0 0).length = 32 := by decide +kernel
/-- A member is lost while a read of its memory waits. -/
def losing : State := { plain with remote := [(4, far (.read false))] }
theorem witness_lost_member : losing.remote.filter (fun e => devOf e.2.addr = 9) = [(4, far (.read false))] ∧ losing.obj 0x4020 1 = 0
    ∧ (losing.saddle (srcSaddle (far (.read false)))).epochWait = false ∧ losing.epochHeld = [] ∧ losing.abandoned = [] ∧ losing.obj 0x4000 4 = 2 := by decide +kernel
theorem test_lost_member : (after (.notice 2 9 false 0 0 none) losing).answers.map (fun a => (a.id, a.code)) = [(7, 0x1007)]
    ∧ (after (.notice 2 9 false 0 0 none) losing).remote = [] := by decide +kernel

theorem test_generators : ((after (.bgctlWrite 0 0x12C00004) (open5 k0)).domain 0).cad = 1 ∧ ((after (.bgctlWrite 0 0x12C00004) (open5 k0)).domain 0).cap = some 0x12C
    ∧ ((after (.bgctlWrite 0x418 0x12C00004) (open5 k0)).domain 0x418).cad = 0
    ∧ ((after (.stoppedDomainRestart 0) { withObjs [(0x2011, 0, 1)] (open5 k0) with domains := [(0, { cad := 2, cadBefore := 1, beat := 40 })] }).domain 0).beat = 48
    ∧ (after (.stoppedDomainRestart 0) { withObjs [(0x2011, 0, 1)] (open5 k0) with domains := [(0, { cad := 2, cadBefore := 1, beat := 40 })] }).spurState 0 = 0 := by decide +kernel

def fast (cad : BitVec 2) : State := { open5 k0 with power := { startStep := 8 }, domains := [(0, { cad := cad, rate := 900 }), (0x418, { cad := 0 })] }
theorem witness_generators : (fast 1).generatorOn 0 = true ∧ (fast 0).generatorOn 0x418 = true ∧ (fast 2).generatorOn 1023 = true
    ∧ ((fast 1).guardRates 0).length = 41 ∧ (fast 2).rimHolds 0 = false := by decide +kernel
theorem test_rate : ∀ v < 16, (fast 0).windowRate 0 v false = 500 ∧ (fast 0).windowRate 0x418 v false = 1600 ∧ (fast 2).windowRate 0 v true = 0
    ∧ (fast 1).windowRate 0 v true < 450 := by decide +kernel

/-- In Run, with nothing under way; with a recovery in a phase. -/
def inRun : State := withObjs [(0x2010, 0, 2)] (open5 k0)
def recovering (p : RPhase) (d : Dom) : State := { inRun with recovs := [{ dom := d, phase := p, code := 0x2001, release := false }] }
def reloadable (p : RPhase) : State := withObjs [(0x5010, 0, 0x100000)] (recovering p (.cluster 0))
theorem witness_recoveries : (recovering .drain (.cluster 0)).outstanding (.cluster 0) = false
    ∧ ({ recovering .drain (.cluster 0) with reqs := [rd32] } : State).outstanding (.cluster 0) = true
    ∧ domNext (.cluster 0) = some (.spur 0) := by decide +kernel
def phaseOf (i : Instr) (s : State) : List RPhase := (after i s).recovs.map (·.phase)
theorem test_recovery : phaseOf (.fencePhaseEnd (.cluster 0)) (recovering .fence (.cluster 0)) = [.drain]
    ∧ phaseOf (.drainEnd (.cluster 0)) (recovering .drain (.cluster 0)) = [.scrub]
    ∧ (after (.drainEnd (.cluster 0)) (recovering .drain (.cluster 0))).obj 0x5100 1 = 0x10000002001
    ∧ (after (.drainEnd (.cluster 0)) (recovering .drain (.cluster 0))).faultSeq = 1 := by decide +kernel
theorem test_recovery_ends : phaseOf (.resetScrubDone (.cluster 0)) (recovering .scrub (.cluster 0)) = [.reload]
    ∧ (after (.resetScrubDone (.cluster 0)) (recovering .scrub (.cluster 0))).core 5 = {}
    ∧ ((after (.resetScrubLimit (.cluster 0)) (recovering .scrub (.cluster 0))).recovs.map (·.dom)) = [.spur 0]
    ∧ ((after (.rejoinDone (.cluster 0)) (reloadable .rejoin)).core 3).next = 512
    ∧ ((after (.reloadRejoinLimit (.cluster 0)) (reloadable .rejoin)).cluster 0).phase = .parked := by decide +kernel

theorem witness_triggers : inRun.triggerOk (.cluster 0) 0x2001 = true ∧ inRun.domClamped (.cluster 0) = false ∧ inRun.recovs = [] ∧ inRun.inParked (.cluster 0) = false
    ∧ inRun.power.entry = none ∧ inRun.triggerOk (.cluster 0) 0x2003 = false
    ∧ (recovering .rejoin (.cluster 0)).recovs.find? (fun x => domWithin (.cluster 0) x.dom) = some { dom := .cluster 0, phase := .rejoin, code := 0x2001, release := false }
    ∧ (recovering .reload .module).triggerOk .module 0x5001 = true ∧ (recovering .reload .module).domClamped .module = false ∧ domNext .module = none
    ∧ (recovering .fence (.cluster 0)).triggerOk (.cluster 0) 0x2001 = true ∧ (recovering .fence (.cluster 0)).domClamped (.cluster 0) = false
    ∧ (let s := { inRun with parked := [.spur 0] }
       s.inParked (.cluster 0) = true ∧ s.recovs = []) := by decide +kernel
/-- A trigger starts a recovery, of two in one beat the lower code counts, and in a rejoin the spur takes over. -/
theorem test_trigger_phases : phaseOf (.recoveryTrigger (.cluster 0) 0x2001 false) inRun = [.fence]
    ∧ (after (.recoveryTrigger (.cluster 0) 0x3001 true) (recovering .fence (.cluster 0))).recovs.map (·.code) = [0x2001]
    ∧ (after (.recoveryTrigger (.cluster 0) 0x2001 false) (recovering .rejoin (.cluster 0))).recovs.map (fun r => (r.dom, r.code)) = [(.spur 0, 0x6001)]
    ∧ (after (.recoveryTrigger .module 0x5001 false) (recovering .reload .module)).obj 0x2010 0 = 6 := by decide +kernel
/-- An entry that asks the cluster of spur 0, or in Hold the saddles. -/
def asking0 (hold : Bool) : State := { inRun with power := { inRun.power with entry := some { hold := hold, off := false, restart := false, spurs := [0], stage := 2 } } }
theorem witness_entry_triggers : (asking0 false).domClamped (.cluster 3) = false ∧ (asking0 false).triggerOk (.cluster 3) 0x2001 = true ∧ (asking0 false).inParked (.cluster 3) = false
    ∧ (asking0 true).domClamped (.saddle 1) = false ∧ (asking0 true).triggerOk (.saddle 1) 0x2005 = true ∧ (asking0 true).power.brownoutSaved = false := by decide +kernel
/-- The entry ends, with the block that refused. -/
theorem test_entry_triggers : (after (.recoveryTrigger (.cluster 3) 0x2001 false) (asking0 false)).power.entry = none
    ∧ (after (.recoveryTrigger (.cluster 3) 0x2001 false) (asking0 false)).obj 0x2020 5 = 3
    ∧ (after (.recoveryTrigger (.saddle 1) 0x2005 false) (asking0 true)).obj 0x2020 5 = 0x30001 := by decide +kernel
/-- A rejoin area at 0x100000, whose record of cluster 0 has its sixteen entries. -/
def recorded (s : State) : State := (List.range 16).foldl (fun t i => t.writeBytes (0x100200 + 512 * i) [1]) (withObjs [(0x5010, 0, 0x100000)] s)
theorem witness_reload : (recorded (recovering .reload (.cluster 0))).rejoinOk 0x100000 = true
    ∧ reads ((recorded (recovering .reload (.cluster 0))).reloading (.cluster 0)) (.core 0) 0x100000 8704 = true
    ∧ ((recorded (recovering .reload (.cluster 0))).reloading (.cluster 0)).plinths = []
    ∧ ((recovering .reload (.saddle 0)).reloadRead (.saddle 0)).map (·.1) = some 0
    ∧ ((withObjs [(0x5010, 0, 0x100000)] { recovering .reload (.cluster 0) with dict := denied }).reloadRead (.cluster 0)).map (·.1) = some 0x6002
    ∧ ((withObjs [(0x5010, 0, 0x18000000000)] (recovering .reload (.ridge 0))).recordRead 0 0x18000000000).map (·.1) = some 0x6002 := by decide +kernel
theorem witness_reload_readable : ((recorded (recovering .reload (.cluster 0))).reloading (.cluster 0)).readable (.core (16 * (0 : ClusterId).val)) 0x100000 8704 :=
  readable_of_reads _ _ _ _ (by decide +kernel) (by decide +kernel)
/-- A record that cannot be read parks the cluster; the failure of a saddle's rejoin fires the module; that of the module ends in Safe
Hold. -/
theorem test_reload_fails : ((after (.reloadFailure (.cluster 0)) (withObjs [(0x5010, 0, 0x100000)] { recovering .reload (.cluster 0) with dict := denied })).cluster 0).phase = .parked
    ∧ (after (.reloadRejoinLimit (.saddle 0)) (recovering .rejoin (.saddle 0))).recovs.map (fun r => (r.dom, r.code)) = [(.module, 0x6004)]
    ∧ (after (.reloadRejoinLimit .module) (recovering .rejoin .module)).obj 0x2010 0 = 6
    ∧ phaseOf (.reloadDone (.saddle 0)) (recovering .reload (.saddle 0)) = [.rejoin] := by decide +kernel

/-- The reset of a cluster domain leaves IWORD 0. -/
theorem witness_iword_reset : ({ recovering .scrub (.cluster 0) with cores := [(5, { iword := 4 })] } : State).recovs.map (·.phase) = [.scrub]
    ∧ domCluster (.cluster 0) ((5 : CoreId) / 16) = true ∧ (toBlock (.word 3) (.core 5)).rimKeeps 9 = false
    ∧ ((toBlock (.word 3) (.core 5)).domain (coreDomain 9)).cad ≠ 2 := by decide +kernel
theorem test_iword_reset : ((after (.resetScrubDone (.cluster 0)) { recovering .scrub (.cluster 0) with cores := [(5, { iword := 4 })] }).core 5).iword = 0 := by
  decide +kernel

/-- The host and a session of port A may write every object; the host holds the semaphore. -/
def summitEntry (i mkind rkind : Nat) : Nat × Nat := (okey 0x4031 i, (2 ^ 63 + mkind * 2 ^ 60 + 7) + 2 ^ 64 * (rkind * 2 ^ 61))
def governed (objs : List (Nat × Nat × Nat)) : State :=
  let s := open5 k0
  let s1 := withObjs objs { s with dict := tables ++ [summitEntry 1 1 3, summitEntry 2 2 3, summitEntry 3 2 4, summitEntry 4 1 4, summitEntry 5 2 5] }
  { s1 with holder := some .host, holderWord := 1, lease := 5, power := { s1.power with off := false } }
/-- `State.accepts`, as a test. -/
def takes (s : State) (m : Master) (idx sub v : Nat) : Bool :=
  !s.power.off && (!s.romOnly || romServes idx) && s.tableAllows m idx true &&
    match objDesc idx sub with
    | some (ty, r) => s.rightStatus m r == 0 && valueOk ty (natBytes ty.size v) && objInRange idx sub v && decide (v < 2 ^ (8 * ty.size))
    | none => false
theorem accepts_of_takes (s : State) (m : Master) (idx sub v : Nat) (h : takes s m idx sub v = true) : s.accepts m idx sub v := by
  unfold takes at h
  cases hd : objDesc idx sub with
  | none => simp [hd] at h
  | some e =>
    obtain ⟨ty, r⟩ := e
    simp [hd] at h
    obtain ⟨⟨⟨h1, h2⟩, h3⟩, h4⟩ := h
    refine ⟨h1, ?_, h3, ty, r, hd, h4.1.1.1, h4.1.1.2, h4.1.2, h4.2⟩
    intro h5
    rcases h2 with h2 | h2
    · simp [h5] at h2
    · exact h2
def ready : State := governed [(0x2010, 0, 2), (0x2011, 0, 0), (0x2030, 0, 0x40000)]
theorem witness_power_requests : ready.changing = false ∧ takes ready .host 0x2012 0 2 = true ∧ takes ready .host 0x2012 0 4 = true ∧ takes ready .host 0x2012 0 7 = true
    ∧ takes ready .host 0x2012 0 8 = true ∧ takes ready .host 0x2013 0 0 = true ∧ takes ready .host 0x2014 0 1 = true ∧ takes ready .host 0x2015 0 0 = true
    ∧ takes ready .host 0x2001 2 255 = true ∧ ready.spurState 1023 = 0 ∧ ready.clusterFenced 0 = false := by decide +kernel
theorem test_power_requests : (after (.moduleRequestRun .host) (governed [(0x2010, 0, 4)])).obj 0x2010 0 = 5
    ∧ (after (.moduleRequestRestart .host) (governed [(0x2010, 0, 6)])).power.startStep = 3
    ∧ (after (.spurRequestNap .host 1) (governed [(0x2010, 0, 4), (0x2030, 0, 0x40000)])).power.entry = none := by decide +kernel
theorem test_flags_cleared : (after (.supplyFlagClear .host 1) (governed [(0x2001, 1, 3)])).obj 0x2001 1 = 2 := by decide +kernel

/-- A dozing spur; the module in Hold, and in Safe Hold; a held cluster. -/
def dozing : State := { withObjs [(0x2011, 0, 1)] ready with domains := [(0, { cad := 2 })] }
theorem witness_requests_in_states : dozing.spurState 0 = 1 ∧ (dozing.domain 0).cad = 2 ∧ dozing.changing = false
    ∧ takes (governed [(0x2010, 0, 4)]) .host 0x2012 0 2 = true ∧ (governed [(0x2010, 0, 4)]).changing = false ∧ (governed [(0x2010, 0, 4)]).power.stopHeld = false
    ∧ takes (governed [(0x2010, 0, 4)]) .host 0x2012 0 8 = true ∧ takes (governed [(0x2010, 0, 6)]) .host 0x2012 0 8 = true
    ∧ (governed [(0x2010, 0, 6)]).changing = false
    ∧ ({ ready with clusters := [(0, { phase := .held })] } : State).changing = false
    ∧ (({ ready with clusters := [(0, { phase := .held })] } : State).cluster 0).phase = .held
    ∧ ready.power.gated.contains 0 = false := by decide +kernel

def entering (stage : Nat) (hold : Bool) : State :=
  { ready with power := { ready.power with entry := some { hold := hold, off := false, restart := false, spurs := [0], stage := stage } } }
def stageOf (i : Instr) (s : State) : Option Nat := (after i s).power.entry.map (·.stage)
theorem witness_power_entries : (entering 3 false).answerOfBlock 3 (.ridge 0) = .accept
    ∧ ({ entering 3 false with reqs := [rd32] } : State).answerOfBlock 3 (.ridge 0) = .delay ∧ (entering 3 false).bist.run = false
    ∧ 0 < (entering 3 false).obj 0x2020 3 ∧ ({ entering 4 true with recovs := [{ dom := .saddle 1, phase := .fence, code := 0, release := false }] } : State).answerOfBlock 4 (.saddle 1) = .refuse
    ∧ ((coresOf 0).foldl (fun t c => State.tryStop t c) { entering 2 false with cores := [] }).clusterDrained 0 = true := by decide +kernel
theorem test_entries : stageOf .prepWindowEnd (entering 0 false) = some 2
    ∧ ((after (.blockAnswer (.ridge 0)) (entering 3 false)).power.entry.map (·.accepted)) = some [.ridge 0]
    ∧ ((after (.blockAnswer (.ridge 0)) { entering 3 false with reqs := [rd32] }).power.entry.map (·.delayed)) = some [.ridge 0]
    ∧ ((after (.blockShutdown (.cluster 3)) (entering 6 false)).power.entry.map (·.shut)) = some [.cluster 3] := by decide +kernel
theorem test_entry_limit : (after .entryLimit (entering 5 false)).power.entry.isNone = true ∧ (after .entryLimit (entering 1 false)).obj 0x2020 4 = 3
    ∧ ((after (.blockDelayExpiry (.ridge 0)) (entering 3 false)).power.entry.isSome) = true := by decide +kernel
def napping : State := governed [(0x2010, 0, 2), (0x2011, 0, 5)]
def waking (n : Nat) : State := { inHold with power := { inHold.power with off := false, wakePhase := n } }
theorem witness_wakes : napping.rimHolds 0 = true ∧ napping.spurState 0 = 5 ∧ (waking 6).power.wakePhase = 6 := by decide +kernel
theorem test_wakes : ((after (.rimHeldEvent 5 (.irq 4)) napping).core 5).held = 16 ∧ ((after (.rimHeldEvent 5 (.store 8 1)) napping).core 5).heldReq.map (·.2) = [.store 8 1]
    ∧ (after .wakePhaseEnd (waking 2)).power.wakePhase = 3
    ∧ (after .autowake { withObjs [(0x2040, 0, 1)] inHold with power := { brownoutSaved := true } }).obj 0x2042 0 = 5 := by decide +kernel

theorem witness_held_events : napping.rimKeeps 5 = true ∧ napping.power.gated.contains 0 = false ∧ napping.obj 0x2011 0 < 2 ^ 8192
    ∧ napping.obj 0x2010 0 = 2 ∧ napping.heldDebug = []
    ∧ (List.range 7).all (fun n => (waking n).heldDebug == [] && (waking n).power.wakePhase == n) = true
    ∧ (waking 6).clusters.all (fun x => x.2.phase != .quiesced) = true
    ∧ ({ napping with power := { napping.power with gated := [0] }, dict := napping.dict } : State).rimKeeps 5 = true
    ∧ (2 ∈ ({ napping with cores := [(5, { held := 2 })] } : State).cores.map (fun x => x.2.held &&& 0xEF))
    ∧ ((5, ({ heldReq := [(0, .store 8 1)] } : Core)) : Nat × Core).2.heldReq ≠ [] := by decide +kernel
/-- Cluster 0 to be restored in the last phase of a wake, with a valid image, a broken one, and one that a brownout of a member made
stale. -/
def restoring (good wasMember record : Bool) : State :=
  let s := withObjs [(0x2010, 0, 5), (0x2030, 0, 0x40000), (0x5010, 0, 0x100000)] (open5 k0)
  let s1 := if good then (List.range 16).foldl (fun t i => t.writeBytes (0x40200 + 512 * i) [1]) s else s
  let s2 := if record then recorded s1 else s1
  { s2 with clusters := [(0, { phase := .quiesced })], power := { s2.power with off := false, wakePhase := 6, wasMember := wasMember } }
theorem restoring_readable (good wasMember record : Bool) : (restoring good wasMember record).readable (.core (16 * (0 : ClusterId).val)) 0x40000 8704
    ∧ (restoring good wasMember record).readable (.core (16 * (0 : ClusterId).val)) 0x100000 8704 := by
  cases good <;> cases wasMember <;> cases record <;>
    exact ⟨readable_of_reads _ _ _ _ (by decide +kernel) (by decide +kernel), readable_of_reads _ _ _ _ (by decide +kernel) (by decide +kernel)⟩
theorem witness_restores : (restoring true false false).power.wakePhase = 6 ∧ ((restoring true false false).cluster 0).phase = .quiesced
    ∧ (restoring true false false).heldDebug = [] ∧ ((restoring true false false).cores.all (fun x => x.2.heldReq == [])) = true
    ∧ (restoring true false false).obj 0x2030 0 = 0x40000 ∧ (restoring true false false).obj 0x5010 0 = 0x100000
    ∧ (List.range 16).all (fun i => (restoring true false false).word (0x40200 + 512 * i) == 1) = true
    ∧ (restoring false false true).word 0x40200 ≠ 1 ∧ (restoring true true true).power.wasMember = true
    ∧ (restoring false false true).rejoinOk 0x100000 = true ∧ (restoring false false false).rejoinOk 0x100000 = false := by decide +kernel
/-- A cluster writes its save image where the write waits for nothing. -/
theorem witness_quiesce_image : ((coresOf 0).foldl (fun t c => State.tryStop t c) (entering 2 false)).clusterDrained 0 = true
    ∧ (entering 2 false).obj 0x2030 0 = 0x40000 := by decide +kernel
theorem witness_quiesce_writable : (entering 2 false).writable (.core (16 * (0 : ClusterId).val)) 0x40000 8704 :=
  writable_of_writes _ _ _ _ (by decide +kernel) (by decide +kernel)

def ms (i : Instr) (s : State) : Nat := (after i s).obj 0x2010 0
def powered (p : Power) : State := { ready with power := { p with off := false } }
/-- The last summit temperature that stops nothing, and the first that does. -/
def temps (t : Int) : Temps := { tempsOf 16 with summit := t }
theorem test_input_rating : (match exec (.inputSample (-60001) 0) ready with
    | .fault .beyondRating => true
    | _ => false) = true ∧ (after (.inputSample (-60000) 0) ready).power.off = false := by decide +kernel
theorem test_input : (after (.inputSample 40000 7) ready).obj 0x2000 2 = 7 ∧ (after (.inputSample 33999 0) (withObjs [(0x2010, 0, 7)] (powered { below34 := 799 }))).power.off = true
    ∧ (after (.inputSample 60001 0) (powered { above60 := 4000 })).power.off = true ∧ (after .inputLoss ready).power.off = true
    ∧ (after .inputOvervoltage ready).power.latched = true ∧ (after .inputQualified (open5 k0)).power.startStep = 1 := by decide +kernel
theorem test_startup : (after .startupStepEnd { State.reset with power := { off := false, startStep := 1 }, dict := [(okey 0x2010 0, 1)] }).power.startStep = 2 := by decide +kernel
theorem test_startup_ends : ms .startupStepEnd { State.reset with power := { off := false, startStep := 3 }, dict := [(okey 0x2010 0, 1)] } = 6
    ∧ ms .startupStepEnd { State.reset with power := { off := false, startStep := 7 }, dict := [(okey 0x2010 0, 1)] } = 2
    ∧ ms .summitFault ready = 6 := by decide +kernel
theorem test_brownout : (after .brownoutDrainLimit (entering 7 true)).power.entry.map (·.stage) = some 8 := by decide +kernel
theorem witness_temperature : (temps 99999).ridge.length ≤ 16 ∧ (∀ y ∈ (temps 99999).ridge, y < 108000) ∧ (∀ y ∈ (temps 99999).saddle, y < 105000)
    ∧ (temps 99999).summit < 100000 ∧ (temps 99999).saddle.length ≤ 8 ∧ (temps 99999).stack.length ≤ 32 ∧ (temps 99999).outlet < 65000 := by decide +kernel

theorem witness_parked : ({ open5 k0 with parked := [.spur 0] } : State).inParked (.cluster 5) = true ∧ ({ open5 k0 with parked := [.spur 0] } : State).inParked (.spur 1) = false
    ∧ (open5 k0).inParked (.cluster 0) = false ∧ (recovering .fence (.cluster 0)).triggerOk (.cluster 0) 0x2002 = true
    ∧ (recovering .fence (.cluster 0)).recovs.find? (fun x => domWithin (.cluster 0) x.dom) = some { dom := .cluster 0, phase := .fence, code := 0x2001, release := false } := by
  decide +kernel
/-- Two triggers in one beat leave the lower code; nothing starts a recovery inside a parked domain. -/
theorem test_triggers : ((after (.recoveryTrigger (.cluster 0) 0x1005 true) (recovering .fence (.cluster 0))).recovs.map (·.code)) = [0x2001]
    ∧ (after (.recoveryTrigger (.cluster 5) 0x2001 false) { open5 k0 with parked := [.spur 0] }).recovs = [] := by decide +kernel
/-- A held spur may be asked for Nap, and enters it. -/
theorem witness_held_spur : (withObjs [(0x2011, 0, 7)] ready).spurState 0 = 7 ∧ (withObjs [(0x2011, 0, 7)] ready).changing = false
    ∧ takes (withObjs [(0x2011, 0, 7)] ready) .host 0x2013 0 2 = true ∧ (withObjs [(0x2011, 0, 7)] ready).obj 0x2013 0 < 2 ^ 8192
    ∧ takes ready .host 0x2015 0 1 = true ∧ ready.power.low40 = 0 := by decide +kernel
theorem witness_quiesce : ((entering 2 false).cluster 0).cache = [] ∧ ((entering 2 false).cluster 0).sketch = [] ∧ ((entering 2 false).cluster 0).phase = .run ∧ ((entering 6 false).power.entry.map (·.shut.length)) = some 0 := by decide +kernel
/-- The 4,000th sample in a row above 19 kW, and above 475 A, is over the limit. -/
theorem test_limits : (after (.inputSample 40000 475001) (powered { over475 := 3999, samples := [0] })).power.limited = true
    ∧ (after (.inputSample 40000 475000) (powered { over475 := 3999, samples := [0] })).power.limited = false
    ∧ (after (.inputSample 60000 316667) (powered { over19 := 3999, samples := [0] })).power.limited = true
    ∧ (after (.inputSample 60000 350001) (powered { samples := [0] })).power.limited = true
    ∧ (after (.inputSample 60000 350000) (powered { samples := [0] })).power.limited = false
    ∧ (after (.inputSample 39999 475001) (powered { samples := [0] })).power.limited = true := by decide +kernel

/-- A boot image: 64 bytes of header, a body of 16, the key and the signature by leaf 0 of both levels. -/
def imageKey : LmsKey := { seed := [1], id := List.replicate 16 7 }
def imageHead : List Byte := natBytes 4 0x57465A45 ++ natBytes 4 1 ++ natBytes 4 0 ++ natBytes 4 16 ++ List.replicate 64 0
def imagePublic : List Byte := u32str 2 ++ imageKey.public lmsImage
def imageSig : List Byte :=
  u32str 1 ++ imageKey.sign lmsImage 0 (List.replicate 32 0) (imageKey.public lmsImage) ++ imageKey.public lmsImage
    ++ imageKey.sign lmsImage 0 (List.replicate 32 0) (imageHead ++ imagePublic)
def bootable : List Byte := imageHead ++ imagePublic ++ imageSig
theorem bytesAt_left (a b : List Byte) (off n : Nat) (h : off + n ≤ a.length) : bytesAt (a ++ b) off n = bytesAt a off n := by
  unfold bytesAt
  rw [List.drop_append_of_le_length (by omega), List.take_append_of_le_length (by simp; omega)]
theorem imagePublic_length : imagePublic.length = 60 := by
  rw [imagePublic, List.length_append, u32str_length, public_length _ _ (by decide)]; rfl
theorem imageSig_length : imageSig.length = 3284 := by
  simp only [imageSig, List.length_append, u32str_length, public_length imageKey lmsImage (by decide),
    sign_length imageKey lmsImage 0 (List.replicate 32 0) _ (by decide)]
  rfl
theorem imageHead_length : imageHead.length = 80 := by decide
theorem bootable_length : bootable.length = 3424 := by simp [bootable, imageHead_length, imagePublic_length, imageSig_length]
theorem bootable_field (off n : Nat) (h : off + n ≤ 80) : bytesAt bootable off n = bytesAt imageHead off n := by
  rw [bootable, List.append_assoc]
  exact bytesAt_left _ _ _ _ (by rw [imageHead_length]; exact h)
theorem bootable_body : imageBody bootable = 16 := (bootable_field _ _ (by decide)).trans (by decide)
theorem bootable_valid (f : Fuses) (h : f.keyHash = sha256 imagePublic) (hs : f.svn = 0) : imageValid f bootable = true := by
  have hkey : cutBytes bootable 80 60 = imagePublic := by
    rw [bootable, List.append_assoc, cutBytes_append _ _ _ _ (by rw [imageHead_length]), imageHead_length]
    exact cutBytes_left _ _ _ imagePublic_length
  have hmsg : bootable.take 140 = imageHead ++ imagePublic := List.take_left' (by simp [imageHead_length, imagePublic_length])
  have hsig : bootable.drop 140 = imageSig := List.drop_left' (by simp [imageHead_length, imagePublic_length])
  have hv : lmsImage.hssVerifies imagePublic (imageHead ++ imagePublic) imageSig = true :=
    hss_verifies imageKey imageKey lmsImage 0 0 _ _ _ (by decide) (by decide) (by decide) (by decide) (by decide) (by decide) (by decide)
      (by decide) (by decide)
  have hshape : imageShape bootable = true := by
    simp only [imageShape, bootable_body, bootable_length, imageEntry0, bootable_field 0 4 (by decide), bootable_field 0x10 4 (by decide)]
    decide
  have hsvn : imageSvn bootable = 0 := (bootable_field _ _ (by decide)).trans (by decide)
  simp [imageValid, hshape, imageAuthentic, bootable_body, hkey, h, hs, imageSigned, imageSignature, hmsg, hsig, hv]
/-- Step 3 of a start-up with that image in slot A runs it. -/
def booting : State := { State.reset with
  power := { off := false, startStep := 3 }, dict := [(okey 0x2010 0, 1)]
  flash := { imageA := bootable }, fuses := { keyHash := sha256 imagePublic } }
theorem witness_boot : booting.bootImage = some 0 ∧ imageValid booting.fuses bootable = true ∧ booting.obj 0x2010 0 = 1 ∧ booting.power.off = false := by
  have hv : imageValid booting.fuses bootable = true := bootable_valid _ rfl rfl
  have hn : imageValid booting.fuses booting.flash.imageB = false := by
    unfold imageValid; rw [show imageShape booting.flash.imageB = false by decide]; rfl
  refine ⟨?_, hv, by decide +kernel, rfl⟩
  unfold State.bootImage
  rw [show booting.flash.imageA = bootable from rfl, hv, hn]
  rfl
/-- Whether each line is held by its memory-side cache when its turn comes, and nothing stands in the way of its read. -/
def hitsAll (cls : BitVec 2) : State → List Nat → Bool
  | _, [] => true
  | s, l :: ls =>
    decide (l * 128 < dramSize) && !s.saddlesOff && !s.lineBusy l && s.targetError (l * 128) .summit .read == 0 && !s.lineBad l
      && !s.dramSoft.contains l && decide (lineOf (l * 128) = l)
      && match s.mscHit (l * 128) cls false with
        | some t => hitsAll cls t ls
        | none => false
theorem mscHit_dram (s : State) (d : List Host.Cell) (a : Nat) (cls : BitVec 2) :
    ({ s with dram := d } : State).mscHit a cls false = (s.mscHit a cls false).map (fun t => { t with dram := d }) := by
  dsimp only [State.mscHit]
  have h : ({ s with dram := d } : State).plinth (stackOf a) = s.plinth (stackOf a) := rfl
  rw [h]
  cases mscHitIn (mget mscDef (s.plinth (stackOf a)).msc (mscSet a)) (mscTag a) cls false with
  | none => rfl
  | some x =>
    obtain ⟨ls, ovf⟩ := x
    cases ovf <;> rfl
theorem read_of_hits (d : List Host.Cell) (ls : List Nat) : ∀ s : State, hitsAll Config.untranslatedClass s ls = true →
    ∃ u, ({ s with dram := d } : State).readLines .summit ls = some (0, u) ∧ u.dram = d := by
  induction ls with
  | nil => exact fun s _ => ⟨_, rfl, rfl⟩
  | cons l ls ih =>
    intro s h
    simp only [hitsAll, Bool.and_eq_true, decide_eq_true_eq, Bool.not_eq_true', beq_iff_eq] at h
    obtain ⟨⟨⟨⟨⟨⟨⟨h1, h2⟩, h3⟩, h4⟩, h5⟩, h6⟩, h7⟩, h8⟩ := h
    cases hm : s.mscHit (l * 128) Config.untranslatedClass false with
    | none => simp [hm] at h8
    | some t =>
      simp only [hm] at h8
      obtain ⟨u, hu, hd⟩ := ih t h8
      have ht : t.poison = s.poison ∧ t.dramBad = s.dramBad ∧ t.dramSoft = s.dramSoft := by
        dsimp only [State.mscHit] at hm
        split at hm
        · rename_i x y _
          cases y <;> (cases hm; exact ⟨rfl, rfl, rfl⟩)
        · cases hm
      have hr : ({ t with dram := d } : State).lineRead l = (0, { t with dram := d }) := by
        have e1 : ({ t with dram := d } : State).lineBad l = false := by
          rw [← h5]; simp only [State.lineBad]; rw [ht.1, ht.2.1]
        have e2 : ({ t with dram := d } : State).dramSoft.contains l = false := by rw [← h6, ← ht.2.2]
        simp only [State.lineRead, e1, e2, Bool.false_eq_true, if_false]
      have hn : ({ s with dram := d } : State).readNow (l * 128) .summit Config.untranslatedClass = some (0, pathMsc, { t with dram := d }) := by
        have e1 : ({ s with dram := d } : State).saddlesOff = false := h2
        have e2 : ({ s with dram := d } : State).lineBusy l = false := h3
        have e3 : ({ s with dram := d } : State).targetError (l * 128) .summit .read = 0 := h4
        simp only [State.readNow, e3, ne_eq, not_true, if_false, State.lineGet, h7, e1, e2, Bool.or_self, Bool.false_eq_true, mscHit_dram, hm,
          Option.map_some, hr]
      refine ⟨u, ?_, hd⟩
      simp only [State.readLines, Nat.not_le.2 h1, if_false, hn, hu, ne_eq, not_true]
/-- A staged image of 3,424 bytes at 0, in state `v` of the update, with all its lines in memory-side caches. -/
def staging (v : Nat) : State :=
  { inMsc ((List.range 27).map (· * 128)) (withObjs [(0x2010, 0, 2), (0x1001, 6, v), (0x1001, 5, 3424)]
      { open5 k0 with dict := [tableEntry 1 4 0 0 0x3FFFFFF 26, tableEntry 2 0 4 2 0 0] }) with
    fuses := { keyHash := sha256 imagePublic } }
theorem readBytes_dram (s t : State) (h : t.dram = s.dram) : ∀ n a, t.readBytes a n = s.readBytes a n
  | 0, _ => rfl
  | n + 1, a => by
    have hb : t.byte a = s.byte a := by unfold State.byte; rw [h]
    rw [State.readBytes, State.readBytes, hb, readBytes_dram s t h n (a + 1)]
theorem readBytes_writeBytes (bs : List Byte) (s : State) : (s.writeBytes 0 bs).readBytes 0 bs.length = bs := by
  refine List.ext_getElem (State.readBytes_length _ _ _) (fun i h1 h2 => ?_)
  have h := State.readBytes_getD bs.length (s.writeBytes 0 bs) 0 i h2
  rw [Nat.zero_add, State.byte_writeBytes, if_pos ⟨Nat.zero_le _, by omega⟩] at h
  simpa [List.getD_eq_getElem?_getD, List.getElem?_eq_getElem h1, List.getElem?_eq_getElem h2] using h
theorem staging_hits : (∀ cls : BitVec 2, hitsAll cls (staging 1) (touched 0 3424) = true)
    ∧ ∀ cls : BitVec 2, hitsAll cls (staging 2) (touched 0 3424) = true := ⟨by decide +kernel, by decide +kernel⟩
def staged (v : Nat) : State := { staging v with dram := (State.reset.writeBytes 0 bootable).dram }
theorem staged_valid (v : Nat) : imageValid (staged v).fuses bootable = true := by
  rw [show (staged v).fuses = { keyHash := sha256 imagePublic } from rfl]
  exact bootable_valid _ rfl rfl
theorem staged_read (v : Nat) (ha : (staged v).obj 0x1001 4 = 0) (hn : (staged v).obj 0x1001 5 = 3424)
    (h : ∀ cls : BitVec 2, hitsAll cls (staging v) (touched 0 3424) = true) : ∃ u, (staged v).stagedRead = some (true, bootable, u) := by
  obtain ⟨u, hu, hd⟩ := read_of_hits (State.reset.writeBytes 0 bootable).dram (touched 0 3424) (staging v) (h _)
  have hs : (staged v).sumRead (touched 0 3424) = some (true, u) := by
    unfold State.sumRead staged
    rw [hu]
    simp [codeFenced]
  refine ⟨u, ?_⟩
  unfold State.stagedRead
  simp only [ha, hn, hs, Option.map_some]
  rw [readBytes_dram _ u hd, ← bootable_length, readBytes_writeBytes]
/-- A valid staged image may be installed, and passes when it is read back. -/
theorem witness_staged : ((staged 1).obj 0x1001 6 = 1 ∧ ∃ u, (staged 1).stagedCode = some (0, u))
    ∧ (staged 2).obj 0x1001 6 = 2 ∧ (∃ u, (staged 2).stagedRead = some (true, bootable, u)) ∧ imageValid (staged 2).fuses bootable = true := by
  have e1 : (staged 1).obj 0x1001 4 = 0 ∧ (staged 1).obj 0x1001 5 = 3424 ∧ (staged 1).obj 0x1001 6 = 1 := by decide +kernel
  have e2 : (staged 2).obj 0x1001 4 = 0 ∧ (staged 2).obj 0x1001 5 = 3424 ∧ (staged 2).obj 0x1001 6 = 2 := by decide +kernel
  have hv := staged_valid 1
  obtain ⟨u, hu⟩ := staged_read 1 e1.1 e1.2.1 staging_hits.1
  refine ⟨⟨e1.2.2, u, ?_⟩, e2.2.2, staged_read 2 e2.1 e2.2.1 staging_hits.2, staged_valid 2⟩
  simp only [imageValid, Bool.and_eq_true, decide_eq_true_eq] at hv
  simp [State.stagedCode, e1, hu, slotSize, dramSize, bootable_body, hv.1.1, hv.1.2, Nat.not_lt.2 hv.2]

/-- Start-up in step `n` and life-cycle state `lc`; a drain of a brownout in its steps. -/
def starting (n lc : Nat) : State := { State.reset with power := { off := false, startStep := n }, dict := [(okey 0x2010 0, 1)], fuses := { lc := lc } }
theorem witness_startup : (List.range 8).all (fun n => (starting n 3).obj 0x2010 0 == 1 && (starting n 3).power.abandoned == false
      && (starting n 3).power.off == false && (starting n 3).power.startStep == n) = true
    ∧ (starting 3 3).bootImage = none ∧ (starting 4 0).fuses.lc = 0 ∧ (starting 4 5).fuses.lc = 5
    ∧ (starting 4 3).flash.best = none := by decide +kernel
theorem test_startup_checks : ms .startupStepEnd (starting 4 0) = 6 ∧ ms .startupStepEnd (starting 4 5) = 6
    ∧ (after .startupStepEnd (starting 4 3)).power.startStep = 5 := by decide +kernel
theorem witness_stops_and_limits : ready.brownoutOn = false ∧ (temps 100000).ridge.length ≤ 16 ∧ (temps 100000).saddle.length ≤ 8
    ∧ (temps 100000).stack.length ≤ 32
    ∧ (powered { below34 := 799 }).power.entry = none ∧ (powered { below34 := 799 }).obj 0x2010 0 = 2
    ∧ ({ open5 k0 with power := { off := true } } : State).power.latched = false
    ∧ (entering 8 true).power.entry.map (fun e => (e.stage, e.hold, e.off, e.restart)) = some (8, true, false, false) := by decide +kernel
/-- The rails come back at the first sample under no limit. -/
theorem test_rails : (after (.inputSample 40000 0) (powered { samples := [0], railDrop := 3, limited := true })).power.railDrop = 0 := by decide +kernel

/-! ### Dictionary writes, sessions, mailboxes, signing and BIST -/

theorem witness_dictionary : takes ready .host 0x5030 0 7 = true ∧ takes ready .host 0x5040 0 0x10005 = true ∧ domOf (fld 0x10005 18 16) (fld 0x10005 15 0) = some (.spur 5)
    ∧ domOf 4 0 = some .module ∧ domOf 4 1 = none
    ∧ takes ready .host 0x4000 5 1 = true ∧ takes ready .host 0x4000 5 2 = true ∧ takes ready .host 0x4300 5 0x90000 = true
    ∧ takes ready .host 0x4400 0x0A 1 = true ∧ takes ready .host 0x9040 1 1 = true ∧ takes ready .host 0x7001 0 0 = true
    ∧ takes ready .host 0x1001 6 1 = true ∧ ready.stagedCode ≠ none := by
  decide +kernel
theorem test_dictionary : (after (.dictionaryWrite .host 0x5030 0 [7, 0, 0, 0]) ready).obj 0x5030 0 = 7
    ∧ (after (.rcmdJoin .host) ready).obj 0x4000 4 = 1 ∧ (after (.rcmdJoin .host) (withObjs [(0x4000, 2, 2)] ready)).members = [0]
    ∧ (after (.ringConfigWrite .host 5 0x90000) ready).obj 0x4300 5 = 0x90000 ∧ (after (.store .host) ready).obj 0x9040 1 = 1
    ∧ (after .storeDone { ready with flash := { storing := some [] } }).flash.stored = some [] := by decide +kernel
theorem witness_reset_command : ({ ready with parked := [.spur 5] } : State).parked.contains (.spur 5) = true ∧ ready.inParked (.spur 5) = false ∧ ready.domClamped (.spur 5) = false
    ∧ ready.recovs = [] := by decide +kernel
theorem test_reset_command : ((after (.resetCommand .host 0x10005) { ready with parked := [.spur 5] }).recovs.map (fun r => (r.dom, r.code))) = [(.spur 5, 0x8003)] := by
  decide +kernel
theorem test_leave : (after (.rcmdLeave .host) (withObjs [(0x4000, 4, 2)] ready)).mgrSent = [(.leave, [0])] := by decide +kernel
def manufacture : State := { ready with fuses := { lc := 1 } }
theorem test_lifecycle : (after (.managementKeyWrite .host (List.replicate 32 7)) manufacture).flash.keySet = true
    ∧ (after (.managementKeyWrite .host (List.replicate 32 7)) ready).flash.keySet = false
    ∧ (after (.lifecycleTransitionDone true) (withObjs [(0x1002, 1, 4), (0x1002, 2, 1)] ready)).fuses.lc = 4
    ∧ (after (.lifecycleTransitionDone false) (withObjs [(0x1002, 1, 4), (0x1002, 2, 1)] ready)).fuses.lc = 3 := by decide +kernel
theorem test_lcreq : (after (.lcreq (.session false 17) 4) { withObjs [(0x2010, 0, 6)] ready with holder := some (.session false 17) }).obj 0x1002 2 = 1
    ∧ ready.lcPermits 4 = true := by decide +kernel
theorem test_update : (after (.updcmd .host 1) ready).obj 0x1001 6 = 1 := by decide +kernel
theorem test_apply : mget objDefault (after (.apply .host false) (withObjs [(0x4400, 2, 77)] ready)).inUse (okey 0x4400 2) = 77 := by decide +kernel

theorem witness_written : (ready.objWrite .host 0x5030 0 [7, 0, 0, 0]).1 = 0 ∧ (ready.objWrite .host 0x5030 0 [7]).1 = 7
    ∧ takes ready .host 0x4401 0x0A 1 = true ∧ ready.obj 0x9040 1 ≠ 1 ∧ ready.obj 0x1001 6 ≠ 1 ∧ ready.obj 0x1001 6 ≠ 2
    ∧ (ready.obj 0x4000 4 = 0 ∧ (withObjs [(0x4000, 4, 2)] ready).obj 0x4000 4 ≠ 0)
    ∧ takes manufacture .host 0x7001 0 0 = true := by decide +kernel
/-- The ring cairn at once, and while its saddle is fenced. -/
def ringFenced : State := { ready with recovs := [{ dom := .saddle 7, phase := .drain, code := 0x2001, release := false }] }
theorem witness_ring_written : ready.reqs = [] ∧ (ready.saddles.all (fun x => x.2.outlet == [])) = true ∧ ready.saddlesOff = false ∧ ready.host.ringSet = none
    ∧ ready.recovs = [] ∧ ready.obj 0x4300 7 < 65536 ∧ takes ringFenced .host 0x4300 5 0x90000 = true ∧ ringFenced.reqs = []
    ∧ ringFenced.saddlesOff = false ∧ ringFenced.saddleFenced (ringFenced.obj 0x4300 7 / 8192) = true := by decide +kernel
theorem test_ring_fenced : (after (.ringConfigWrite .host 5 0x90000) ringFenced).obj 0x4300 5 = ringFenced.obj 0x4300 5
    ∧ (after (.ringConfigWrite .host 5 0x90000) ringFenced).host.ringSet = some [(5, 0x90000)] := by decide +kernel
/-- An image that may not be installed, and one that cannot be read back. -/
def updating (v n : Nat) : State := withObjs [(0x1001, 6, v), (0x1001, 4, 0), (0x1001, 5, n)] ready
theorem witness_update : (updating 1 0x4000001).stagedCode.map (·.1) = some 6 ∧ (updating 2 0).stagedRead.map (fun x => (x.1, x.2.1)) = some (true, [])
    ∧ imageValid (updating 2 0).fuses [] = false := by
  refine ⟨by decide +kernel, by decide +kernel, ?_⟩
  unfold imageValid
  rw [show imageShape [] = false by decide]
  rfl
theorem test_update_ends : (after (.firmwareUpdateDone true) (updating 1 0x4000001)).obj 0x1001 6 = 6 := by decide +kernel
def lockedBy (s : State) : State := { s with holder := some (.session false 17) }
theorem witness_lcreq : (lockedBy (withObjs [(0x2010, 0, 6)] ready)).tableAllows (.session false 17) 0x1002 true = true
    ∧ (lockedBy (withObjs [(0x2010, 0, 6)] ready)).lcPermits 4 = true ∧ ready.obj 0x1002 2 ≠ 1 ∧ ready.power.off = false := by decide +kernel

/-- Session 17 of port A in slot 1, open; the next request of the session has SEQ 6. -/
def session1 : Session := { st := 2, sid := 17, opens := 1, key := [1, 2, 3], lastSeq := 5 }
def served (lc : Nat) : State :=
  let s := withObjs [(0x4400, 9, 1)] ready
  { s with sessions := [(1, session1)], fuses := { lc := lc }, power := { s.power with startStep := 8 }, inUse := [(okey 0x4400 1, 1)], holder := none, holderWord := 0
           lease := 0 }
def askBody (type : Byte) (data : List Byte) : Dgram :=
  { portB := false, ver := 1, type := type, sid := 17, seq := 6, index := 0x5030, sub := 0, status := 0, offset := 0, aux := 4, data := data
    tag := [], iid := 0, dstIid := w64 (ownIid 0) }
/-- The body with its tag, under the key 1, 2, 3. -/
def ask (type : Byte) (data : List Byte) : Dgram := { askBody type data with tag := hmacSha256 [1, 2, 3] (dgramBytes (askBody type data)) }
theorem ask_tagged (type : Byte) (data : List Byte) : dgramTagged (ask type data) [1, 2, 3] = true := by
  have h : dgramBytes (ask type data) = dgramBytes (askBody type data) := by simp only [dgramBytes, ask]
  unfold dgramTagged
  rw [h]
  exact decide_eq_true rfl
theorem ask_form (type : Byte) (data : List Byte) (h : data.length ≤ 1024) : dgramForm (ask type data) = true := by
  have h1 : data.length % 65536 = data.length := Nat.mod_eq_of_lt (by omega)
  simp [dgramForm, ask, askBody, h1, h]
  omega
theorem takes_of (d : Dgram) (s : State) (h1 : d.srcPrefix = 0xFE80000000000000) (h2 : d.dstPrefix = 0xFE80000000000000) (h3 : d.dstIid = w64 (ownIid d.portB.toNat))
    (h4 : d.dstPort.toNat = mget objDefault s.inUse (okey (portIdx d.portB) 7)) : s.takesDgram d = true := by
  unfold State.takesDgram
  rw [h1, h2, h3, h4]
  simp
theorem asked : (served 3).nextRequest (ask 0x02 []) 0x02 := by
  refine ⟨by decide +kernel, takes_of _ _ rfl rfl rfl (by decide +kernel), ask_form _ _ (by decide), by decide +kernel, by decide +kernel, by decide +kernel, by decide +kernel, ?_, by decide +kernel, by decide +kernel, by decide +kernel⟩
  have h : ((served 3).session (Machine.slotOf (ask 0x02 []))).key = [1, 2, 3] := by decide +kernel
  rw [h]
  exact ask_tagged _ _
/-- Management port A may read and write DRAM. -/
def debugging : State := let s := served 1
  { s with dict := s.dict ++ [tableEntry 7 2 0 0 0x3FFFFFF 26] }
theorem asked_debug : debugging.nextRequest (ask 0x22 (natBytes 8 0x1000)) 0x22 := by
  refine ⟨by decide +kernel, takes_of _ _ rfl rfl rfl (by decide +kernel), ask_form _ _ (by decide), by decide +kernel, by decide +kernel, by decide +kernel, by decide +kernel, ?_, by decide +kernel, by decide +kernel, by decide +kernel⟩
  have h : (debugging.session (Machine.slotOf (ask 0x22 (natBytes 8 0x1000)))).key = [1, 2, 3] := by decide +kernel
  rw [h]
  exact ask_tagged _ _
theorem witness_session_read : ((served 3).objRead (.session false 17) 0x5030 0).1 = 0 ∧ (objDesc 0x5030 0).isSome = true
    ∧ (served 3).holder = none ∧ (served 3).attests = true ∧ debugging.halted = none ∧ typeKnown 0x08 = false ∧ typeKnown 0x26 = false ∧ typeKnown 0x25 = true
    ∧ bytesNat (natBytes 8 0x1000) = 0x1000 ∧ debugging.debugAllowed (.session false 17) 0x1000 .read = true
    ∧ debugging.debugAllowed (.session false 17) 0xE800000808000 .write = true ∧ debugging.allowed 0x4031 (.mgmt false) 5 0 .write = true := by decide +kernel

/-- Every request of session 17 with the next SEQ and its tag is its next request. -/
theorem asked_in (s : State) (ty : Byte) (data : List Byte) (hd : data.length ≤ 1024) (h1 : s.portServes false = true)
    (h2 : (askBody 0 []).dstPort.toNat = mget objDefault s.inUse (okey 0x4400 7)) (h3 : s.session 1 = session1) (h4 : s.fuses.lc ≠ 5)
    (h5 : s.romOnly = false) : s.nextRequest (ask ty data) ty.toNat := by
  have hn : Machine.slotOf (ask ty data) = 1 := by
    unfold Machine.slotOf
    rw [show (ask ty data).sid = 17 from rfl]
    decide
  refine ⟨h1, takes_of _ _ rfl rfl rfl h2, ask_form _ _ hd, rfl, by rw [hn]; exact (by decide : (1 : Nat) ∈ slotsOf false), ?_, ?_, ?_, ?_, h4, h5⟩ <;> rw [hn, h3]
  · decide
  · rfl
  · exact ask_tagged _ _
  · rfl
/-- Manufacture, development, and service with the semaphore held or not. -/
def service (held : Bool) : State := { served 4 with holder := if held then some (.session false 17) else some .host }
theorem asked_served (ty : Byte) (data : List Byte) (h : data.length ≤ 1024) : (served 3).nextRequest (ask ty data) ty.toNat
    ∧ (served 1).nextRequest (ask ty data) ty.toNat ∧ (service true).nextRequest (ask ty data) ty.toNat
    ∧ (service false).nextRequest (ask ty data) ty.toNat ∧ debugging.nextRequest (ask ty data) ty.toNat := by
  refine ⟨asked_in _ _ _ h ?_ ?_ ?_ ?_ ?_, asked_in _ _ _ h ?_ ?_ ?_ ?_ ?_, asked_in _ _ _ h ?_ ?_ ?_ ?_ ?_, asked_in _ _ _ h ?_ ?_ ?_ ?_ ?_,
    asked_in _ _ _ h ?_ ?_ ?_ ?_ ?_⟩ <;> decide +kernel
theorem witness_requests : (service true).holder = some (.session false 17) ∧ (service false).holder ≠ some (.session false 17)
    ∧ (∃ h, (service false).holder = some h ∧ h ≠ .session false 17) ∧ (served 3).fuses.lc ≠ 1 ∧ (served 3).fuses.lc ≠ 4
    ∧ (service false).fuses.lc = 4 ∧ (served 1).fuses.lc = 1 ∧ ((served 3).session 1).nonce = none
    ∧ (({ served 3 with sessions := [(1, { session1 with report := [1] })] } : State).session 1).report.length = 1
    ∧ (service true).bist.run = false ∧ debugging.debugAllowed (.session false 17) 0xE800000808000 .write = true
    ∧ wf (w64 (2 ^ 62 + 46 * 2 ^ 16 + 46)) 63 62 = 1 ∧ ({ debugging with halted := some 3 } : State).halted = some 3
    ∧ debugging.clusterFenced 3 = false ∧ (debugging.cluster 3).phase ≠ .parked := by
  refine ⟨by decide +kernel, by decide +kernel, ⟨.host, by decide +kernel, by decide +kernel⟩, ?_⟩
  decide +kernel
theorem witness_debug : debugging.obj 0x2010 0 = 2 ∧ debugging.targetError 0x1000 (masterWho (.session false 17)) .read = 0 ∧ debugging.lineBad 32 = false := by decide +kernel
theorem witness_debug_write : debugging.writable (masterWho (.session false 17)) 0x1000 8 := writable_of_writes _ _ _ _ (by decide +kernel) (by decide +kernel)

def mail (b : Mailbox) : State := { ready with mailboxes := [(2, b)] }
def claimed : Mailbox := { owner := some .host, cmd := w64 (2 ^ 62 + 0x5030 * 2 ^ 40 + 4) }
theorem test_mailboxes : ((after (.mailboxClaim .host 2) (mail {})).mailbox 2).owner = some .host ∧ ((after (.mailboxRelease .host 2) (mail claimed)).mailbox 2).owner = none
    ∧ ((after (.mailboxRead .host 2 claimed.cmd) (mail claimed)).mailbox 2).run = true
    ∧ ((after (.mailboxOpDone 2) (mail { claimed with run := true, user := some .host })).mailbox 2).status = 0
    ∧ ((after (.mailboxOpDone 2) (mail { claimed with run := true, user := some .host })).mailbox 2).done = true
    ∧ ((after (.mailboxClaimExpiry 2) (mail claimed)).mailbox 2).owner = none := by decide +kernel
def segment : State := { served 3 with holder := some (.session false 17), lease := 9 }
theorem witness_ports : segment.portServes false = true ∧ (withObjs [(0x4400, 9, 0)] segment).portEnabled false = true
    ∧ (slotsOf false).find? (fun n => (segment.session n).st = 0) = some 2 := by decide +kernel
theorem test_ports : (after (.mgmtLinkDown false) segment).obj 0x4400 9 = 0 ∧ (after (.duplicateAddress false) segment).obj 0x4400 9 = 2
    ∧ (after (.mgmtFrameDiscarded false) segment).obj 0x4400 0x0D = 1 ∧ (after .leaseExpiry segment).holder = none
    ∧ ((after (.sessionIdleExpiry 0) segment).session 1).st = 0 ∧ (after (.sessionIdleExpiry 0) segment).holder = none
    ∧ (after (.echoRequest false [1, 2]) segment).netSent = [(false, [129, 1, 2])] := by decide +kernel

def bisting (first last : Nat) : State := { ready with bist := { run := true, direct := true, first := first, last := last } }
theorem witness_bist : (bisting 46 47).bist.testing 46 = true ∧ (bisting 46 47).bist.testing 48 = false ∧ (bisting 46 47).itemBusy 46 = false
    ∧ (bisting 0 13).itemBusy 12 = false ∧ farEnd 13 = true ∧ farEnd 12 = false ∧ farEnd 6 = true ∧ farEnd 5 = false := by decide +kernel
theorem test_bist : mget resDef (after (.bistItemDone 46 true) (bisting 46 47)).bist.results 46 = 1
    ∧ mget resDef (after (.bistItemDone 47 false) (bisting 46 47)).bist.results 47 = 2
    ∧ mget resDef (after (.bwaitExpiry 13) (bisting 0 13)).bist.results 13 = 3 := by decide +kernel
theorem test_bist_run : (after .bistRunDone { bisting 46 46 with bist := { (bisting 46 46).bist with results := [(46, 2)] } }).bist.outcome = 2 := by decide +kernel
theorem witness_signing : ({ served 3 with signWait := [1] } : State).attests = true ∧ (served 3).flash.point = some 0
    ∧ imageKey.id.length = 16 ∧ (served 3).fuses.publicKept = none ∧ (served 3).signQ < 2 ^ 40 := by decide +kernel
/-- A datagram from outside the segment, or whose LENGTH is not its own, is not for the port. -/
theorem witness_not_accepted : segment.takesDgram { askBody 2 [] with srcPrefix := 0 } = false
    ∧ dgramForm { askBody 2 [] with length := 7 } = false ∧ (askBody 2 []).type = 2 ∧ (withObjs [(0x4400, 9, 1)] segment).portEnabled false = true
    ∧ segment.obj 0x4400 9 ≠ 0 ∧ (askBody 2 []).portB = false := by decide +kernel
theorem witness_mailboxes : (mail claimed).power.off = false ∧ (mail { claimed with run := true, user := some .host, lost := true }).mailbox 2 =
      { claimed with run := true, user := some .host, lost := true } ∧ wf claimed.cmd 11 0 = 4 ∧ wf claimed.cmd 63 62 = 1
    ∧ (ready.objRead .host 0x5030 0).1 = 0 ∧ objDesc (wf claimed.cmd 55 40) (wf claimed.cmd 39 32) = some (.u32, .rw)
    ∧ wf (w64 (2 ^ 63 + 0x5030 * 2 ^ 40 + 4)) 63 62 = 2 ∧ wf (w64 (2 ^ 63 + 0x5030 * 2 ^ 40 + 4)) 31 16 = 0 := by decide +kernel
/-- A claim that ended before the operation did: nothing is told. -/
theorem test_lost_claim : ((after (.mailboxOpDone 2) (mail { claimed with run := true, user := some .host, lost := true })).mailbox 2).done = false := by
  decide +kernel
theorem witness_bist_items : (bisting 46 47).bist.atItem 46 = true ∧ (bisting 45 46).bist.atItem 46 = false ∧ (bisting 0 13).bist.atItem 0 = true
    ∧ ({ bisting 0 0 with bist := { (bisting 0 0).bist with results := [(0, 1)] } } : State).bist.testing 0 = false
    ∧ ({ ready with bist := { run := true, direct := false, first := 0, last := 0, results := [(0, 1)] } } : State).bist.testing 0 = false
    ∧ ({ served 3 with signWait := [1] } : State).treeDue = false := by decide +kernel

/-! ### Steps, decoding, issue and results -/

theorem test_step : (match step { at5 k0 with pending := [.add 5 3 1 2, .sub 5 3 1 2] } with
    | .next t => t.pending == [.sub 5 3 1 2] && (t.core 5).pend.length == 1
    | _ => false) = true ∧ step (at5 k0) = .next (at5 k0) := ⟨by decide +kernel, rfl⟩
theorem witness_decoding : decodeWord 5 0x10610001 = some (.addi 5 3 1 1) ∧ encodeWord (.addi 5 3 1 1) = 0x10610001 ∧ legalInstr (.addi 5 3 1 1) = true ∧ instrCore (.addi 5 3 1 1) = some 5 := by
  decide +kernel
theorem witness_issue : (at5 k0).canIssue 5 = true ∧ (at5 k0).mayIssue 5 = true ∧ ((at5 k0).core 5).absent ((at5 k0).issueActive 5) = none
    ∧ (at5 { k0 with pend := [{ awaited with due := 0 }] }).canIssue 5 = true
    ∧ ((at5 { k0 with pend := [{ awaited with due := 0 }] }).core 5).absent ((at5 { k0 with pend := [{ awaited with due := 0 }] }).issueActive 5) = some 0
    ∧ legalInstr (.nmc 5 12 4 0) = false ∧ legalInstr (.nmc 5 11 4 0) = true ∧ isControl (.beq 5 1 1 4) = true ∧ (((at5 { k0 with slot := some 0x40 }).atIssue 5).core 5).slot.isSome = true
    ∧ (at5 { k0 with frozen := some (.answer, 3) }).canIssue 5 = false := by decide +kernel
/-- A branch in a delay slot raises illegal instruction with its word in FAULTV. -/
theorem test_branch_in_slot : ((after (.beq 5 1 1 4) (at5 { k0 with slot := some 0x40 })).core 5).exc.map (fun e => (e.code, e.faultv)) = some (3, 0x80210004) := by
  decide +kernel
/-- An interrupt to be taken at the issue beat; a halted cluster; a fetch outside DRAM, one that needs a walk, and one that misses; the
last instruction of a loop. -/
theorem witness_issue_stops : (let s := at5 { k0 with stat := 0x10100000000 }
      s.canIssue 5 = true ∧ (s.core 5).absent (s.issueActive 5) = none ∧ (s.core 5).boundary (s.issueBeat 5) = true
        ∧ (((s.atIssue 5).core 5).interrupt (coreBoot 5)).isSome = true)
    ∧ ({ at5 k0 with halted := some 0 } : State).stopAsked (clusterOf 5) = true ∧ ((at5 k0).core 5).boundary ((at5 k0).issueBeat 5) = true
    ∧ ((at5 { k0 with pc := 0xE40000000000 }).atIssue 5).fetch 5 = some (.inl 0x02)
    ∧ ((at5 { k0 with pc := 0x1000 }).atIssue 5).fetch 5 = some (.inr .icache)
    ∧ ((at5 { k0 with pc := 0x1000, stat := 1, atb := 1 }).atIssue 5).fetch 5 = some (.inr (.walk 0x1000 .fetch))
    ∧ (((at5 { k0 with lcnt := 0x300000002 }).atIssue 5).core 5).atLend = true := by decide +kernel
/-- Nothing issues at a beat at which an interrupt is to be taken. -/
theorem test_interrupt_comes_first : ((after (.add 5 3 1 2) (at5 { k0 with stat := 0x10100000000 })).core 5).pend = []
    ∧ ((after (.add 5 3 1 2) { at5 k0 with halted := some 0 }).core 5).stopped = some 0 := by decide +kernel
theorem witness_waitc_leaves : (at5 k0).storeOpen 5 (fun a => a.toNat / 256 = (0xF000000000300 : Word).toNat / 256) = false
    ∧ ((at5 k0).core 5).rowCame 7 = none ∧ napping.rimKeeps 5 = true ∧ napping.rimKeeps 65536 = false := by decide +kernel
theorem witness_clamped : (takeFirst (fun a => a.dst == .core 5 && a.code != 0 && a.asyncKind.isSome)
      ({ napping with answers := [ansOf (.core 5) (.signal 1) 0x1005 0] } : State).answers).isSome = true
    ∧ (napping.domain (coreDomain 5)).cad ≠ 2 := by decide +kernel
theorem test_clamped_error :
    ((after (.asyncErrorAnswer 5) { napping with answers := [ansOf (.core 5) (.signal 1) 0x1005 0] }).core 5).held = 4 := by decide +kernel
theorem witness_freeze_ends : (open5 k0).saddlesOff = false ∧ (open5 k0).lineBusy 0 = false ∧ ((open5 k0).plinth (stackOf 0)).slots.length < 1024 := by
  decide +kernel
/-- A fetched line that its memory-side cache holds is read at once. -/
theorem witness_fetch : ∀ cls, (inMsc [0] (open5 k0)).readNow 0 (.core 5) cls ≠ none := by decide +kernel
theorem test_results : ((((at5 { k0 with pend := [{ due := 2, dst := .sreg 4, tag := none, val := 5 }, { due := 2, dst := .sreg 4, tag := none, val := 6 }] }).landAll 5 2).core 5).sreg 4) = 6
    ∧ ((((at5 k0).sysWrite 5 2 0x00500004 0 3 0).core 5).vcfg).toNat / 65536 = 80 := by decide +kernel

end Sys2Proof.Tests
end

section
/-! SUPPORT. The module right after reset: no unit is listed, so every unit reads as its reset value, and no core runs. -/

namespace Sys2Proof.Machine

@[simp] theorem mget_nil {α : Type} (d : Nat → α) (k : Nat) : mget d [] k = d k := rfl

/-! ### What a read of each unit gives -/

@[simp] theorem State.reset_core (c : Nat) : State.reset.core c = {} := mget_nil coreDef c
@[simp] theorem State.reset_cluster (k : Nat) : State.reset.cluster k = {} := mget_nil clusterDef k
@[simp] theorem State.reset_cairn (q : Nat) : State.reset.cairn q = {} := mget_nil cairnDef q
@[simp] theorem State.reset_obj (idx sub : Nat) : State.reset.obj idx sub = objDefault (okey idx sub) :=
  mget_nil objDefault (okey idx sub)

/-! ### When a core does not run -/

/-- The boot cores have no supply while the module is Off (R383). -/
theorem State.running_eq_false_of_off {s : State} {c : Nat} (hc : coreBoot c = true) (hoff : s.power.off = true) :
    s.running c = false := by
  simp [State.running, hc, hoff]

/-- The other cores run only while their cluster does (R404). -/
theorem State.running_eq_false_of_phase {s : State} {c : Nat} (hc : coreBoot c = false)
    (hp : (s.cluster (clusterOf c)).phase ≠ .run) : s.running c = false := by
  simp [State.running, hc, hp]

theorem State.canIssue_eq_false_of_running {s : State} {c : Nat} (h : s.running c = false) : s.canIssue c = false := by
  simp [State.canIssue, h]

/-- A boot core waits for its supply, every other core for the release of its cluster. -/
theorem State.reset_running (c : Nat) : State.reset.running c = false := by
  cases hc : coreBoot c with
  | true => exact State.running_eq_false_of_off hc rfl
  | false =>
    have held : (State.reset.cluster (clusterOf c)).phase ≠ .run := by simp
    exact State.running_eq_false_of_phase hc held

/-- Settles O57: the tables of the reset state are empty, so each read gives the unit's reset value. -/
theorem resetIsAColdStart : Obligations.ResetIsAColdStart := by
  unfold Obligations.ResetIsAColdStart
  refine ⟨rfl, rfl, mwf_nil memDefault, fun c => ?running, fun c => ?core, fun k => ?cluster, fun q => ?cairn, ?objects⟩
  case running => exact ⟨State.reset_running c, State.canIssue_eq_false_of_running (State.reset_running c)⟩
  case core => simp only [State.reset_core, and_self]
  case cluster => simp only [State.reset_cluster, and_self]
  case cairn => simp only [State.reset_cairn, and_self]
  case objects => exact State.reset_obj

end Sys2Proof.Machine
end

section
/-! SUPPORT. Issue of every instruction of a core: each acts through issue alone, and issue has one branch for each thing that
keeps an instruction from issuing. -/

namespace Sys2Proof.Machine

/-! ### Every instruction of a core issues -/

/-- The one way in which an instruction of a core acts: through issue, with a body of its own. -/
theorem exec_eq_issueOut {i : Instr} {c : CoreId} (h : instrCore i = some c) :
    ∃ body, ∀ s, exec i s = issueOut s c i body := by
  cases i <;> cases h <;> exact ⟨_, fun _ => rfl⟩

/-! ### What issue does, branch by branch -/

/-- Core `c` is asked to stop, and the issue beat is a boundary at which it does (R388, R453). -/
def State.stopsAtIssue (s : State) (c : Nat) : Bool :=
  !coreBoot c && s.stopAsked (clusterOf c) && (s.core c).boundary (s.issueBeat c)

/-- An interrupt is to be taken at the issue beat (R183). -/
def State.interruptAtIssue (s : State) (c : Nat) : Bool :=
  (s.core c).boundary (s.issueBeat c) && (((s.atIssue c).core c).interrupt (coreBoot c)).isSome

/-- Issue from the fetch on (R209, R282), which faults, misses, or gives the instruction. -/
def State.issueFetched (s : State) (c : CoreId) (i : Instr) (body : State → Nat → Res) : Option (Nat ⊕ Freeze) → State
  | some (.inl code) => (s.atIssue c).modCore c (fun k => k.raise (s.issueBeat c) code (w64 k.pc.toNat) 0)
  | some (.inr why) => (s.atFreeze c).modCore c (fun k => k.freeze why (s.issueBeat c))
  | none =>
    if !legalInstr i || (isControl i && (((s.atIssue c).core c).slot.isSome || ((s.atIssue c).core c).atLend)) then
      (s.atIssue c).finish c (s.issueBeat c) i (.raise causeIllegal (wordOf i)) (s.atFreeze c)
    else (s.atIssue c).finish c (s.issueBeat c) i (body (s.atIssue c) (s.issueBeat c)) (s.atFreeze c)

section
variable {s : State} {c : CoreId} (i : Instr) (body : State → Nat → Res)

theorem State.issue_of_canIssue_eq_false (h : s.canIssue c = false) (hm : (s.core c).move = none) :
    s.issue c i body = s := by
  have hover : s.moveOver c = s := by rw [State.moveOver, hm]
  simp [State.issue, State.issueNow, hover, h]

theorem State.issue_of_absent {due : Nat} (h : s.canIssue c = true)
    (ha : (s.core c).absent (s.issueActive c) = some due) :
    s.issue c i body = ((s.toBeat (coreDomain c) (s.issueBeat c)).landAll c (due - 1)).modCore c
      (fun k => k.freeze .answer (due + k.fcnt)) := by
  rw [State.issueActive, State.issueBeat] at ha
  simp only [State.issue, State.moveOver_of_canIssue h, State.issueNow, h, ha]
  rfl

theorem State.issue_of_due (h : s.canIssue c = true) (ha : (s.core c).absent (s.issueActive c) = none) :
    s.issue c i body =
      if s.stopsAtIssue c then (s.atIssue c).modCore c (fun k => { k with stopped := some (s.issueBeat c) })
      else if s.interruptAtIssue c then s
      else s.issueFetched c i body ((s.atIssue c).fetch c) := by
  rw [State.issueActive, State.issueBeat] at ha
  simp only [State.issue, State.moveOver_of_canIssue h, State.issueNow, h, ha]
  rfl

end

/-! ### Recognised exceptions -/

/-- An exception before the instruction is known leaves TPROG as it was. -/
theorem Core.raise_eq_recognised (k : Core) (b code : Nat) (fv : Word) :
    k.raise b code fv 0 = { k.recognised b code fv with tprog := k.tprog } := by
  unfold Core.raise Core.recognised
  rfl

/-- An instruction that raises clears TPROG.VALID, unless it is a transfer (R106). -/
theorem Core.clearValid_raise_eq_recognised (k : Core) (i : Instr) (b code : Nat) (fv : Word) :
    (k.clearValid i).raise b code fv 0 =
      if isTransfer i then { k.recognised b code fv with tprog := k.tprog } else k.recognised b code fv := by
  unfold Core.clearValid
  cases isTransfer i <;> rfl

/-- An instruction that is illegal where it stands (R121, R130, R137). -/
theorem State.issue_of_illegal {s : State} {c : CoreId} {i : Instr} (body : State → Nat → Res) (h : s.mayIssue c = true)
    (hi : legalInstr i = false
      ∨ (isControl i = true ∧ (((s.atIssue c).core c).slot.isSome = true ∨ ((s.atIssue c).core c).atLend = true))) :
    s.issue c i body = (s.atIssue c).modCore c (fun k =>
      if isTransfer i then { k.recognised (s.issueBeat c) 0x03 (wordOf i) with tprog := k.tprog }
      else k.recognised (s.issueBeat c) 0x03 (wordOf i)) := by
  have illegal : (!legalInstr i || (isControl i && (((s.atIssue c).core c).slot.isSome || ((s.atIssue c).core c).atLend)))
      = true := by simpa using hi
  rw [State.issue_of_mayIssue body h, if_pos illegal, State.finish]
  exact State.modCore_congr _ _ _ _ fun k => Core.clearValid_raise_eq_recognised k i _ _ _

/-- A fetch that faults (R209): the address that was to be fetched goes to FAULTV. -/
theorem State.issueFetched_fault (s : State) (c : CoreId) (i : Instr) (body : State → Nat → Res) (code : Nat) :
    s.issueFetched c i body (some (.inl code)) = (s.atIssue c).modCore c (fun k =>
      { k.recognised (s.issueBeat c) code (w64 ((s.atIssue c).core c).pc.toNat) with tprog := k.tprog }) :=
  congrArg ((s.atIssue c).setCore c) (Core.raise_eq_recognised _ _ _ _)

/-- A fetch that misses or needs a walk (R116, R209). -/
theorem State.issueFetched_miss (s : State) (c : CoreId) (i : Instr) (body : State → Nat → Res) (why : Freeze) :
    s.issueFetched c i body (some (.inr why)) = (s.atFreeze c).modCore c (fun k => k.freeze why (s.issueBeat c)) := rfl

/-- Settles O59: every instruction of a core acts through issue, and each clause is one branch of issue. -/
theorem issueOfInstructions : Obligations.IssueOfInstructions := by
  unfold Obligations.IssueOfInstructions
  intro s i c hi b u stops taken raised
  obtain ⟨body, hexec⟩ := exec_eq_issueOut hi
  simp only [hexec, issueOut]
  refine ⟨fun hc hm => ?cannot, fun due hc ha => ?absent, fun hc ha => ?due, fun hm hl => ?illegal⟩
  case cannot => exact congrArg _ (State.issue_of_canIssue_eq_false i body hc hm)
  case absent => exact congrArg _ (State.issue_of_absent i body hc ha)
  case illegal => exact congrArg _ (State.issue_of_illegal body hm hl)
  case due =>
    have branches := State.issue_of_due i body hc ha
    have fetched (hs : s.stopsAtIssue c = false) (ht : s.interruptAtIssue c = false) :
        s.issue c i body = s.issueFetched c i body (u.fetch c) := by
      rw [branches, hs, ht, if_neg Bool.false_ne_true, if_neg Bool.false_ne_true]
    refine ⟨fun hs => ?stops, fun hs ht => ?taken, fun code hs ht hf => ?fault, fun why hs ht hf => ?miss⟩
    case stops => exact congrArg _ (branches.trans (if_pos hs))
    case taken => exact congrArg _ (branches.trans ((if_neg (ne_true_of_eq_false hs)).trans (if_pos ht)))
    case fault => exact congrArg _ ((fetched hs ht).trans (hf ▸ State.issueFetched_fault s c i body code))
    case miss => exact congrArg _ ((fetched hs ht).trans (hf ▸ State.issueFetched_miss s c i body why))

end Sys2Proof.Machine
end

section
/-! SUPPORT. What leaves the power controller, the fuses and the dictionary alone: sending and answering of requests, the cairn
units, the links, and the stop of a core. -/

namespace Sys2Proof.Machine

/-- From `s` to `t` the power controller and the fuses stay as they are, and so does every object but those of whose keys `K` holds. -/
structure State.ChangesOnly (K : Nat → Prop) (s t : State) : Prop where
  power : t.power = s.power
  fuses : t.fuses = s.fuses
  obj : ∀ i j, ¬K (okey i j) → t.obj i j = s.obj i j

/-- The keys of the objects from index `i` on. From 0x4000 on stand links, range, host link, recovery and counters. -/
def keysFrom (i k : Nat) : Prop := okey i 0 ≤ k

theorem keysFrom_okey {i x : Nat} (h : i ≤ x) (y : Nat) : keysFrom i (okey x y) := by
  unfold keysFrom okey
  omega

theorem not_keysFrom_okey {i x y : Nat} (h : x < i) (hy : y < 256) : ¬keysFrom i (okey x y) := by
  unfold keysFrom okey
  omega

namespace State.ChangesOnly

variable {K : Nat → Prop} {s t : State}

theorem refl (s : State) : s.ChangesOnly K s := ⟨rfl, rfl, fun _ _ _ => rfl⟩

/-- A step that touches neither the power controller nor the fuses nor the dictionary. -/
theorem step {u : State} (h : s.ChangesOnly K t) (hu : (u.power, u.fuses, u.dict) = (t.power, t.fuses, t.dict)) :
    s.ChangesOnly K u := by
  obtain ⟨hpower, hfuses, hdict⟩ : u.power = t.power ∧ u.fuses = t.fuses ∧ u.dict = t.dict := by simpa using hu
  exact ⟨hpower.trans h.power, hfuses.trans h.fuses,
    fun i j hk => (congrArg (fun d => mget objDefault d (okey i j)) hdict).trans (h.obj i j hk)⟩

theorem mono {K' : Nat → Prop} (h : s.ChangesOnly K t) (hK : ∀ k, K k → K' k) : s.ChangesOnly K' t :=
  ⟨h.power, h.fuses, fun i j hk => h.obj i j (fun hk' => hk (hK _ hk'))⟩

theorem trans {u : State} (h : s.ChangesOnly K t) (h' : t.ChangesOnly K u) : s.ChangesOnly K u :=
  ⟨h'.power.trans h.power, h'.fuses.trans h.fuses, fun i j hk => (h'.obj i j hk).trans (h.obj i j hk)⟩

theorem setObj {i j v : Nat} (h : s.ChangesOnly K t) (hk : K (okey i j)) : s.ChangesOnly K (t.setObj i j v) where
  power := h.power
  fuses := h.fuses
  obj x y hxy := by
    rw [State.setObj_obj_ne t i j v x y (fun e => hxy (e ▸ hk))]
    exact h.obj x y hxy

theorem count {i j : Nat} (h : s.ChangesOnly K t) (hk : K (okey i j)) : s.ChangesOnly K (t.count i j) := h.setObj hk

theorem ite {p : Prop} [Decidable p] {u : State} (ht : s.ChangesOnly K t) (hu : s.ChangesOnly K u) :
    s.ChangesOnly K (if p then t else u) := by
  split <;> assumption

theorem foldl {α : Type} {f : State → α → State} {l : List α} (h : s.ChangesOnly K t)
    (hf : ∀ u a, a ∈ l → s.ChangesOnly K u → s.ChangesOnly K (f u a)) : s.ChangesOnly K (l.foldl f t) := by
  induction l generalizing t with
  | nil => exact h
  | cons a l ih => exact ih (hf t a List.mem_cons_self h) (fun u b hb => hf u b (List.mem_cons_of_mem a hb))

theorem takeFree (h : s.ChangesOnly K t) : s.ChangesOnly K t.takeFree.2 := h.step rfl

/-! ### Links and requests -/

theorem pump (h : s.ChangesOnly K t) (l : Nat) : s.ChangesOnly K (t.pump l) := by
  unfold State.pump
  exact ite (h.step (by rfl)) h

theorem enqueue (h : s.ChangesOnly K t) (l : Nat) (f : LFrame) : s.ChangesOnly K (t.enqueue l f) := pump (h.step (by rfl)) l

theorem transmit (h : s.ChangesOnly K t) (n p ty : Nat) (f : Frame) : s.ChangesOnly K (t.transmit n p ty f) := h.enqueue _ _

theorem hsend (h : s.ChangesOnly K t) (ty : Nat) (f : HFrame) : s.ChangesOnly K (t.hsend ty f) := h.enqueue _ _

theorem mgrSend (h : s.ChangesOnly K t) (kind : MgrKind) (dest : Nat) (xs : List Nat) :
    s.ChangesOnly K (t.mgrSend kind dest xs) := by
  unfold State.mgrSend
  dsimp only
  split
  · exact h.step rfl
  · exact enqueue (h.step (by rfl)) _ _

theorem answerHere (h : s.ChangesOnly K t) (a : Ans) : s.ChangesOnly K (t.answerHere a) := by
  unfold State.answerHere
  refine ite (h.step (by rfl)) (ite (h.step (by rfl)) ?_)
  split <;> exact h.step rfl

theorem sendFar (h : s.ChangesOnly K t) (r : Req) : s.ChangesOnly K (t.sendFar r) := by
  unfold State.sendFar
  dsimp only
  refine ite (ite (h.answerHere _) h) ?_
  split
  · exact ite (h.answerHere _) h
  · exact ite (ite (h.answerHere _) h) (transmit (ite (h.step (by rfl)) h) _ _ _ _)

theorem send (h : s.ChangesOnly K t) (r : Req) : s.ChangesOnly K (t.send r) := by
  unfold State.send
  exact ite (h.step (by rfl)) (ite (h.step (by rfl)) (h.sendFar r))

theorem sendNew (h : s.ChangesOnly K t) (src : Src) (kind : RKind) (addr ident : Word) (cls : BitVec 2) (b : Nat) :
    s.ChangesOnly K (t.sendNew src kind addr ident cls b) := send (h.step (by rfl)) _

/-! ### Cores that stop -/

theorem moveOver (h : s.ChangesOnly K t) (c : Nat) : s.ChangesOnly K (t.moveOver c) := by
  unfold State.moveOver
  split
  · exact h
  · exact ite h (h.step (by rfl))

theorem tryStop (h : s.ChangesOnly K t) (c : Nat) : s.ChangesOnly K (t.tryStop c) := by
  unfold State.tryStop
  exact ite (step (h.moveOver c) (by rfl)) (h.moveOver c)

theorem cancelWaits (h : s.ChangesOnly K t) (c : Nat) : s.ChangesOnly K (t.cancelWaits c) := by
  unfold State.cancelWaits
  have one (q : Bool) (u : State) (e : QEntry) (hu : s.ChangesOnly K u) : s.ChangesOnly K
      (if qWaits e && e.sent then u.sendNew (.core c) .cancel e.pa (u.coreIdent c (qOpCode e) q) 0 0 else u) :=
    ite (hu.sendNew _ _ _ _ _ _) hu
  exact (h.foldl fun u e _ => one false u e).foldl fun u e _ => one true u e

/-! ### The cairn units -/

theorem modSaddle (h : s.ChangesOnly K t) (n : Nat) (f : Saddle → Saddle) : s.ChangesOnly K (t.modSaddle n f) := h.step rfl

theorem outlet (h : s.ChangesOnly K t) (n : Nat) (a : Ans) : s.ChangesOnly K (t.outlet n a) := h.modSaddle _ _

theorem cairnCancel (h : s.ChangesOnly K t) (q : Nat) (r : Req) : s.ChangesOnly K (t.cairnCancel q r) := h.step rfl

theorem cairnAnswer (h : s.ChangesOnly K t) (n : Nat) (r : Req) (code : Nat) (sense : Option Bool) :
    s.ChangesOnly K (t.cairnAnswer n r code sense) := h.step rfl

theorem releaseWaiters (h : s.ChangesOnly K t) (q : Nat) (done : Waiter → Bool) :
    s.ChangesOnly K (t.releaseWaiters q done) := by
  unfold State.releaseWaiters
  exact foldl (h.step (by rfl)) fun u w _ hu => hu.cairnAnswer _ _ _ _

theorem list (h : s.ChangesOnly K t) (q : Nat) (w : Waiter) : s.ChangesOnly K (t.list q w) := by
  unfold State.list
  exact ite (h.step (by rfl)) (h.step (by rfl))

theorem endEpisode (h : s.ChangesOnly K t) (q : Nat) (r : Option Req) : s.ChangesOnly K (t.endEpisode q r) := by
  unfold State.endEpisode
  cases r with
  | none => exact releaseWaiters (h.step (by rfl)) _ _
  | some r => exact releaseWaiters (h.step (by rfl)) _ _

/-- A unit's generator starts again: it is no spur's. -/
theorem wakes (h : s.ChangesOnly K t) {d : Nat} (hd : 1024 ≤ d) : s.ChangesOnly K (t.wakes d) := by
  have hspur : ¬d < 1024 := by omega
  simp only [State.wakes, State.restartDomain, hspur, decide_false, Bool.false_and, Bool.false_eq_true, if_false]
  exact ite (h.step (by rfl)) h

/-! ### Spurs and the refuge -/

theorem setSpurState (h : s.ChangesOnly K t) (hK : K (okey 0x2011 0)) (d v : Nat) : s.ChangesOnly K (t.setSpurState d v) := h.setObj hK

theorem entrySpurs (h : s.ChangesOnly K t) (hK : K (okey 0x2011 0)) (v : Nat) : s.ChangesOnly K (t.entrySpurs v) := by
  unfold State.entrySpurs
  split
  · exact h
  · exact h.foldl fun u d _ hu => ite hu (hu.setSpurState hK _ _)

theorem linkToRefuge (h : s.ChangesOnly K t) (n : Nat) : s.ChangesOnly K (t.linkToRefuge n) := by
  unfold State.linkToRefuge
  cases saddleLink n with
  | none => exact h
  | some l => exact h.step rfl

theorem brownoutSaddles (h : s.ChangesOnly K t) : s.ChangesOnly K t.brownoutSaddles := by
  unfold State.brownoutSaddles
  exact foldl (h.step (by rfl)) fun u n _ hu => hu.linkToRefuge n

/-! ### What counts in objects from index 0x4000 on -/

section
variable (h : s.ChangesOnly (keysFrom 0x4000) t)
include h

/-- A flag of a cairn counts in the object of its saddle (R260). -/
theorem cairnFlag (q : Nat) (f : BitVec 4) (ident : Word) : s.ChangesOnly (keysFrom 0x4000) (t.cairnFlag q f ident) :=
  count (h.step (by rfl)) (keysFrom_okey (by decide) _)

theorem cairnSignal (q n : Nat) (r : Req) : s.ChangesOnly (keysFrom 0x4000) (t.cairnSignal q n r) := by
  unfold State.cairnSignal
  exact ite ((h.cairnFlag _ _ _).cairnAnswer _ _ _ _)
    (releaseWaiters (cairnAnswer (ite (cairnFlag (h.step (by rfl)) _ _ _) (h.step (by rfl))) _ _ _ _) _ _)

theorem cairnDecrement (q n : Nat) (r : Req) : s.ChangesOnly (keysFrom 0x4000) (t.cairnDecrement q n r) := by
  unfold State.cairnDecrement
  exact ite ((h.cairnFlag _ _ _).cairnAnswer _ _ _ _) (cairnAnswer (ite (cairnFlag (h.step (by rfl)) _ _ _) (h.step (by rfl))) _ _ _ _)

theorem cairnWait (q n : Nat) (r : Req) : s.ChangesOnly (keysFrom 0x4000) (t.cairnWait q n r) := by
  unfold State.cairnWait
  exact ite ((h.cairnFlag _ _ _).cairnAnswer _ _ _ _) (ite (h.cairnAnswer _ _ _ _) (h.list _ _))

theorem cairnBarrier (q : Nat) (sense : Option Bool) (r : Req) : s.ChangesOnly (keysFrom 0x4000) (t.cairnBarrier q sense r) := by
  unfold State.cairnBarrier
  refine ite ((h.cairnFlag _ _ _).cairnAnswer _ _ _ _) ?_
  cases sense with
  | some v => exact ite (h.cairnAnswer _ _ _ _) (h.list _ _)
  | none => exact ite (h.endEpisode _ _) (ite (h.list _ _) (list (h.step (by rfl)) _ _))

theorem cairnConfig (q : Nat) (v : Word) (r : Req) : s.ChangesOnly (keysFrom 0x4000) (t.cairnConfig q v r) := by
  unfold State.cairnConfig
  exact cairnAnswer (ite h (ite (h.cairnFlag _ _ _) (h.step (by rfl)))) _ _ _ _

theorem cairnPset (q : Nat) (v : Word) (r : Req) : s.ChangesOnly (keysFrom 0x4000) (t.cairnPset q v r) := by
  unfold State.cairnPset
  exact cairnAnswer (ite (endEpisode (h.step (by rfl)) _ _) (h.step (by rfl))) _ _ _ _

theorem cairnDo (q off : Nat) (r : Req) : s.ChangesOnly (keysFrom 0x4000) (t.cairnDo q off r) := by
  unfold State.cairnDo
  have atState (u : State) (hu : s.ChangesOnly (keysFrom 0x4000) u) : s.ChangesOnly (keysFrom 0x4000)
      (if off = 0 then u else t.cairnAnswer (saddleOfCairn q) r codeNoAddress none) := ite hu (h.cairnAnswer _ _ _ _)
  generalize r.kind = kind
  cases kind with
  | signal v => exact atState _ (h.cairnSignal _ _ _)
  | decrement v => exact atState _ (h.cairnDecrement _ _ _)
  | waitGe v => exact atState _ (h.cairnWait _ _ _)
  | waitBar sense => exact atState _ (h.cairnBarrier _ _ _)
  | word v =>
    exact ite (h.cairnConfig _ _ _) (ite (h.step (by rfl)) (ite (h.cairnSignal _ _ _) (ite (h.cairnPset _ _ _) (h.cairnAnswer _ _ _ _))))
  | _ => exact h.cairnAnswer _ _ _ _

/-- The unit of a saddle performs one request (R266). -/
theorem unitOne (n : Nat) (r : Req) : s.ChangesOnly (keysFrom 0x4000) (t.unitOne n r) := by
  unfold State.unitOne
  split
  · exact h
  · have taken : s.ChangesOnly (keysFrom 0x4000) { t with reqs := t.reqs.filter (fun x => x.id != r.id) } := h.step rfl
    have woken := wakes taken (show 1024 ≤ 0x410 + n by omega)
    dsimp only
    split
    · exact (woken.modSaddle _ _).cairnCancel _ _
    · exact (woken.modSaddle _ _).outlet _ _
    · exact ite ((woken.modSaddle _ _).cairnAnswer _ _ _ _) ((woken.modSaddle _ _).cairnDo _ _ _)

theorem unitUntil (n id k : Nat) : s.ChangesOnly (keysFrom 0x4000) (t.unitUntil n id k) := by
  induction k generalizing t with
  | zero => exact h
  | succ k ih =>
    unfold State.unitUntil
    split
    · exact ite h (ih (h.unitOne n _))
    · exact h

/-- A host write that is refused is counted (R369). -/
theorem hostRefused (code : Nat) : s.ChangesOnly (keysFrom 0x4000) (t.hostRefused code) :=
  count (setObj h (keysFrom_okey (by decide) _)) (keysFrom_okey (by decide) _)

theorem ddata (tag a : Nat) (bs : List Byte) : s.ChangesOnly (keysFrom 0x4000) (t.ddata tag a bs) := by
  unfold State.ddata
  exact h.foldl fun u i _ hu => hu.hsend _ _

theorem answer (a : Ans) : s.ChangesOnly (keysFrom 0x4000) (t.answer a) := by
  unfold State.answer
  refine ite (h.step (by rfl)) ?_
  split
  case h_1 =>
    have frame (ty : Nat) (f : Frame) (port : Option Nat) : s.ChangesOnly (keysFrom 0x4000) (match port with
      | none => t
      | some p => t.transmit a.saddle p ty f) := by
      cases port with
      | none => exact h
      | some p => exact h.transmit _ _ _ _
    dsimp only
    generalize a.kind = kind
    cases kind with
    | read w => exact ite (ite (frame _ _ _) (frame _ _ _)) (frame _ _ _)
    | loadWord => exact ite (frame _ _ _) (frame _ _ _)
    | readReserve _ => exact ite (frame _ _ _) (frame _ _ _)
    | prefetch _ _ => exact ite (frame _ _ _) (frame _ _ _)
    | sketchRelease _ => exact h
    | _ => exact frame _ _ _
  case h_2 =>
    exact ite (ite (h.ddata _ _ _) (h.hsend _ _)) (ite (h.step (by rfl)) (ite (ite h (h.hostRefused _)) (h.step (by rfl))))
  case h_3 => exact h.answerHere a

theorem noteVisible (x : Src) (far : Bool) (b : Nat) : s.ChangesOnly (keysFrom 0x4000) (t.noteVisible x far b) := by
  unfold State.noteVisible
  cases x with
  | core c => exact h.step rfl
  | storePath k who =>
    cases who with
    | nil => exact h.step rfl
    | cons w ws => exact h.foldl fun u a _ hu => hu.step rfl
  | _ => exact h

theorem outletSend (n : Nat) : s.ChangesOnly (keysFrom 0x4000) (t.outletSend n) := by
  unfold State.outletSend
  dsimp only
  split
  · exact h
  · exact ite (answer (h.step (by rfl)) _) (noteVisible (h.step (by rfl)) _ _ _)

theorem outletUntil (n id k : Nat) : s.ChangesOnly (keysFrom 0x4000) (t.outletUntil n id k).2 := by
  induction k generalizing t with
  | zero => exact h
  | succ k ih =>
    unfold State.outletUntil
    split
    · exact h
    · split
      · exact h.step rfl
      · exact ih (h.outletSend n)

/-- A request of the summit or of the link engine is seen through (R266, R267). -/
theorem cairnNow (r : Req) : s.ChangesOnly (keysFrom 0x4000) (t.cairnNow r).2 := by
  unfold State.cairnNow
  have waited := unitUntil (step h (u := { t with reqs := t.reqs ++ [t.arriveAt r] }) (by rfl)) (targetSaddle (localOf r.addr)) r.id
    (t.reqs ++ [t.arriveAt r]).length
  refine outletUntil ?_ _ _ _
  dsimp only
  split
  · exact waited.unitOne _ _
  · exact waited

theorem linkWait : s.ChangesOnly (keysFrom 0x4000) t.linkWait := h.sendNew _ _ _ _ _ _

/-- The engine configures its ring cairn (R374): of the objects, only those of the host link change. -/
theorem ringConfig (sets : List (Nat × Nat)) : s.ChangesOnly (keysFrom 0x4000) (t.ringConfig sets) := by
  unfold State.ringConfig
  have put (u : State) (hu : s.ChangesOnly (keysFrom 0x4000) u) : s.ChangesOnly (keysFrom 0x4000)
      ((t.host.ringSet.getD [] ++ sets).foldl (fun v x => v.setObj 0x4300 x.1 x.2) { u with host := { u.host with ringSet := none } }) :=
    foldl (hu.step (by rfl)) fun v x _ hv => hv.setObj (keysFrom_okey (by decide) _)
  have cancelled : s.ChangesOnly (keysFrom 0x4000) t.cancelLinkWait := h.step rfl
  refine ite (put _ cancelled) ?_
  have numbered : s.ChangesOnly (keysFrom 0x4000) { t.cancelLinkWait with nextId := t.cancelLinkWait.nextId + 1 } := cancelled.step rfl
  dsimp only [State.request]
  generalize hx : State.cairnNow _ _ = x
  have performed : s.ChangesOnly (keysFrom 0x4000) x.2 := hx ▸ numbered.cairnNow _
  exact ite (performed.step (by rfl)) (linkWait (step (put _ performed) (by rfl)))

/-! ### The refuge and the range -/

theorem portFromRefuge (l : Nat) : s.ChangesOnly (keysFrom 0x4000) (t.portFromRefuge l) := by
  unfold State.portFromRefuge
  have kept (p x r : Nat) : s.ChangesOnly (keysFrom 0x4000) (((t.setObj (0x4200 + l) 3 p).setObj (0x4200 + l) 2 x).setObj 0x4010 0 r) :=
    setObj (setObj (setObj h (keysFrom_okey (by omega) _)) (keysFrom_okey (by omega) _)) (keysFrom_okey (by decide) _)
  exact step (ite (kept _ _ _) h) rfl

theorem linksOff (keep : Bool) : s.ChangesOnly (keysFrom 0x4000) (t.linksOff keep) := by
  unfold State.linksOff
  have ports : s.ChangesOnly (keysFrom 0x4000) ((List.range 6).foldl (fun u p => u.setObj (0x4200 + p) 1 0) t) :=
    h.foldl fun u p _ hu => hu.setObj (keysFrom_okey (by omega) _)
  have host := ports.setObj (i := 0x4300) (j := 1) (v := 0) (keysFrom_okey (by decide : 0x4000 ≤ 0x4300) 1)
  exact step (ite ports host) rfl

theorem leaveRange : s.ChangesOnly (keysFrom 0x4000) t.leaveRange := by
  unfold State.leaveRange
  exact ite (setObj (mgrSend (ite (h.mgrSend _ _ _) h) _ _ _) (keysFrom_okey (by decide) _)) h

end

end State.ChangesOnly

end Sys2Proof.Machine
end

section
/-! SUPPORT. The input, the brownout, the start-up and the temperatures: what each of their events does to the power
controller and the objects. -/

namespace Sys2Proof.Machine

/-! ### The power controller -/

@[simp] theorem State.modPower_power (s : State) (f : Power → Power) : (s.modPower f).power = f s.power := rfl
@[simp] theorem State.modPower_obj (s : State) (f : Power → Power) (i j : Nat) : (s.modPower f).obj i j = s.obj i j := rfl
@[simp] theorem State.modPower_fuses (s : State) (f : Power → Power) : (s.modPower f).fuses = s.fuses := rfl
@[simp] theorem State.modEntry_power (s : State) (f : Entry → Entry) :
    (s.modEntry f).power = { s.power with entry := s.power.entry.map f } := rfl
@[simp] theorem State.modEntry_obj (s : State) (f : Entry → Entry) (i j : Nat) : (s.modEntry f).obj i j = s.obj i j := rfl

/-! ### Brownout (R401) -/

theorem State.changesOnly_brownoutSaddles (s : State) (K : Nat → Prop) : s.ChangesOnly K s.brownoutSaddles :=
  (State.ChangesOnly.refl s).brownoutSaddles

theorem State.brownoutQuiet_obj (s : State) (i j : Nat) : s.brownoutQuiet.obj i j = s.obj i j := by
  unfold State.brownoutQuiet
  split
  · rw [State.modEntry_obj, (s.changesOnly_brownoutSaddles fun _ => False).obj i j not_false]
  · rfl

/-- The brownout's entry goes at most to another stage. -/
theorem State.brownoutQuiet_power (s : State) :
    ∃ f : Entry → Entry, (∀ e, (f e).hold = e.hold) ∧ s.brownoutQuiet.power = { s.power with entry := s.power.entry.map f } := by
  unfold State.brownoutQuiet
  split
  · exact ⟨fun e => { e with stage := 6 }, fun _ => rfl,
      by rw [State.modEntry_power, (s.changesOnly_brownoutSaddles fun _ => False).power]⟩
  · exact ⟨id, fun _ => rfl, by rw [Option.map_id]; rfl⟩

/-- The module is no member once it has left its range. -/
theorem State.leaveRange_rstate (s : State) : s.leaveRange.obj 0x4000 4 ≠ 2 := by
  unfold State.leaveRange
  split
  next => rw [State.setObj_obj_same]; decide
  next h => exact h

/-- The state in which a brownout finds the module: of a wake that it cuts off, cairns and ports are still the refuge's. -/
def State.brownoutFrom (s : State) : State :=
  if 1 ≤ s.power.wakePhase && s.power.wakePhase ≤ 4
  then (List.range 7).foldl State.portFromRefuge { s with cairns := s.refuge } else s

/-- The module has left its range; an entry that the brownout cuts off says so. -/
def State.brownoutLeft (s : State) : State :=
  (if s.brownoutFrom.power.entry.isSome then s.brownoutFrom.setObj 0x2020 4 5 else s.brownoutFrom).leaveRange

/-- The brownout is noted. -/
def State.brownoutNoted (s : State) (thermal : Bool) : State :=
  (s.brownoutLeft.setMstate 3).modPower (fun p =>
    { p with entry := some (holdEntry false false 7), brownoutSaved := true, stopHeld := thermal
             wasMember := decide (s.brownoutFrom.rstate = 2), wakePhase := 0 })

theorem State.startBrownout_eq (s : State) (thermal : Bool) (h : s.brownoutOn = false) :
    s.startBrownout thermal = ((s.brownoutNoted thermal).entrySpurs 2).brownoutQuiet := by
  simp only [State.startBrownout, h, Bool.false_eq_true, if_false]
  rfl

theorem State.changesOnly_brownoutLeft (s : State) : s.ChangesOnly (keysFrom 0x2020) s.brownoutLeft := by
  have later (k : Nat) (hk : keysFrom 0x4000 k) : keysFrom 0x2020 k := Nat.le_trans (by decide) hk
  have ports : s.ChangesOnly (keysFrom 0x4000) s.brownoutFrom :=
    .ite (State.ChangesOnly.foldl ((State.ChangesOnly.refl s).step (by rfl)) fun u l _ hu => hu.portFromRefuge l) (.refl s)
  have noted := State.ChangesOnly.ite (p := s.brownoutFrom.power.entry.isSome = true)
    ((ports.mono later).setObj (v := 5) (keysFrom_okey (by decide : 0x2020 ≤ 0x2020) 4)) (ports.mono later)
  exact noted.trans ((State.ChangesOnly.refl _).leaveRange.mono later)

/-- A brownout begins: the module state, the entry, what the power controller notes of it, and the objects that stay. -/
theorem State.startBrownout_spec (s : State) (thermal : Bool) (h : s.brownoutOn = false) :
    (s.startBrownout thermal).obj 0x2010 0 = 3
    ∧ (∃ e, (s.startBrownout thermal).power.entry = some e ∧ e.hold = true)
    ∧ (s.startBrownout thermal).power.brownoutSaved = true ∧ (s.startBrownout thermal).power.stopHeld = thermal
    ∧ (s.startBrownout thermal).obj 0x4000 4 ≠ 2
    ∧ ∀ j, j < 256 → (s.startBrownout thermal).obj 0x2001 j = s.obj 0x2001 j := by
  have spurs := (State.ChangesOnly.refl (s.brownoutNoted thermal)).entrySpurs (K := fun k => k = okey 0x2011 0) rfl 2
  obtain ⟨f, hf, hpower⟩ := ((s.brownoutNoted thermal).entrySpurs 2).brownoutQuiet_power
  rw [spurs.power] at hpower
  have obj (i j : Nat) (hij : okey i j ≠ okey 0x2011 0) :
      (s.startBrownout thermal).obj i j = (s.brownoutLeft.setObj 0x2010 0 3).obj i j := by
    rw [State.startBrownout_eq s thermal h, State.brownoutQuiet_obj, spurs.obj i j hij]
    rfl
  have before (j : Nat) (hj : j < 256) : okey 0x2001 j < okey 0x2010 0 := by unfold okey; omega
  rw [obj 0x2010 0 (by decide), obj 0x4000 4 (by decide), State.startBrownout_eq s thermal h, hpower]
  refine ⟨State.setObj_obj_same _ _ _ _, ⟨_, rfl, hf _⟩, rfl, rfl, ?member, fun j hj => ?supply⟩
  case member =>
    rw [State.setObj_obj_ne _ _ _ _ _ _ (by decide)]
    exact State.leaveRange_rstate _
  case supply =>
    rw [← State.startBrownout_eq s thermal h, obj 0x2001 j (by have := before j hj; unfold okey at *; omega),
      State.setObj_obj_ne _ _ _ _ _ _ (by have := before j hj; omega)]
    exact s.changesOnly_brownoutLeft.obj 0x2001 j (not_keysFrom_okey (by decide) hj)

end Sys2Proof.Machine
end

section
/-! SUPPORT. A sample of the input, and the limits of R22. -/

namespace Sys2Proof.Machine

/-! ### A sample of the input (R22, R378, R379, R382) -/

/-- The samples of the last 100 ms, with the one of `mV` and `mA`. -/
def Power.samplesWith (p : Power) (mV : Int) (mA : Nat) : List Nat := (mV.toNat * mA :: p.samples).take 40000

/-- A limit of R22 applies at the sample. -/
def Power.limitedAt (p : Power) (mV : Int) (mA : Nat) : Bool := p.overLimit (p.samplesWith mV mA) (mV.toNat * mA) mA mV

/-- The power controller after a sample; `v` is the free value behind the fall of the ridge rails. -/
def Power.sampled (p : Power) (mV : Int) (mA v : Nat) : Power :=
  { p with
    samples := p.samplesWith mV mA, wasOut := decide (mV < 40000) || decide (60000 < mV), limited := p.limitedAt mV mA, lastMv := mV
    over19 := runOf p.over19 (mV.toNat * mA) 19000000000
    over475 := runOf p.over475 mA 475000
    railDrop := if p.limitedAt mV mA then p.railDrop + 1 + v % railSpan else 0
    low40 := if mV < 40000 then 40000 else p.low40 - 1
    below34 := if mV < 34000 then p.below34 + 1 else 0
    above60 := if 60000 < mV then p.above60 + 1 else 0 }

/-- The state with the measurements of a sample. -/
def State.sampleMeasured (s : State) (mV : Int) (mA : Nat) : State :=
  ((s.setObj 0x2000 1 mV.toNat).setObj 0x2000 2 mA).setObj 0x2000 3 (averagePower (s.power.samplesWith mV mA))

/-- The state with the supply flags of a sample too. -/
def State.sampleFlagged (s : State) (mV : Int) (mA : Nat) : State :=
  let s1 := s.sampleMeasured mV mA
  let s2 := if s.power.overCurrent mA mV then s1.supplyFlag 2 else s1
  let s3 := if mV < 40000 then s2.supplyFlag 0 else if 60000 < mV then s2.supplyFlag 1 else s2
  if s.power.limitedAt mV mA then s3.supplyFlag 4 else s3

/-- The state with the counts and the lowest voltage of a sample too. -/
def State.sampleCounted (s : State) (mV : Int) (mA : Nat) : State :=
  let s4 := s.sampleFlagged mV mA
  let s5 := if (decide (mV < 40000) || decide (60000 < mV)) && !s.power.wasOut then s4.count 0x2001 (if mV < 40000 then 3 else 4) else s4
  let s6 := if s.power.limitedAt mV mA && !s.power.limited then s5.count 0x2001 6 else s5
  if mV.toNat < s6.obj 0x2001 7 then s6.setObj 0x2001 7 mV.toNat else s6

/-- The key of the supply flags, and those in which a sample counts. -/
def supplyFlags (k : Nat) : Prop := k = okey 0x2001 1
def supplyCounts (k : Nat) : Prop := k ∈ [okey 0x2001 3, okey 0x2001 4, okey 0x2001 6, okey 0x2001 7]

theorem State.changesOnly_sampleMeasured (s : State) (mV : Int) (mA : Nat) :
    s.ChangesOnly (fun k => k ∈ [okey 0x2000 1, okey 0x2000 2, okey 0x2000 3]) (s.sampleMeasured mV mA) :=
  (((State.ChangesOnly.refl s).setObj (by decide)).setObj (by decide)).setObj (by decide)

theorem State.changesOnly_sampleFlagged (s : State) (mV : Int) (mA : Nat) :
    (s.sampleMeasured mV mA).ChangesOnly supplyFlags (s.sampleFlagged mV mA) := by
  unfold State.sampleFlagged
  have flag {t : State} (n : Nat) (ht : (s.sampleMeasured mV mA).ChangesOnly supplyFlags t) :
      (s.sampleMeasured mV mA).ChangesOnly supplyFlags (t.supplyFlag n) := ht.setObj rfl
  have current := State.ChangesOnly.ite (p := s.power.overCurrent mA mV = true) (flag 2 (.refl _)) (.refl _)
  have range := State.ChangesOnly.ite (p := mV < 40000) (flag 0 current) (.ite (p := 60000 < mV) (flag 1 current) current)
  exact .ite (flag 4 range) range

theorem State.changesOnly_sampleCounted (s : State) (mV : Int) (mA : Nat) :
    (s.sampleFlagged mV mA).ChangesOnly supplyCounts (s.sampleCounted mV mA) := by
  unfold State.sampleCounted
  have crossed : supplyCounts (okey 0x2001 (if mV < 40000 then 3 else 4)) := by split <;> simp [supplyCounts]
  have out (p : Prop) [Decidable p] := State.ChangesOnly.ite (p := p) ((State.ChangesOnly.refl (s.sampleFlagged mV mA)).count crossed) (.refl _)
  have limit (p q : Prop) [Decidable p] [Decidable q] := State.ChangesOnly.ite (p := q)
    ((out p).count (show supplyCounts (okey 0x2001 6) by simp [supplyCounts])) (out p)
  exact .ite ((limit _ _).setObj (by simp [supplyCounts])) (limit _ _)

/-- The free value behind the fall of the ridge rails, where a limit applies, and the state that has drawn it. -/
def State.sampleDrawn (s : State) (mV : Int) (mA : Nat) : Word × State :=
  if s.power.limitedAt mV mA then (s.sampleCounted mV mA).takeFree else (0, s.sampleCounted mV mA)

theorem State.sampleObjects_eq (s : State) (mV : Int) (mA : Nat) :
    s.sampleObjects mV mA = (s.sampleDrawn mV mA).2.modPower (fun q => { q with
      samples := s.power.samplesWith mV mA, wasOut := decide (mV < 40000) || decide (60000 < mV)
      limited := s.power.limitedAt mV mA, lastMv := mV
      over19 := runOf s.power.over19 (mV.toNat * mA) 19000000000
      over475 := runOf s.power.over475 mA 475000
      railDrop := if s.power.limitedAt mV mA then s.power.railDrop + 1 + (s.sampleDrawn mV mA).1.toNat % railSpan else 0
      low40 := if mV < 40000 then 40000 else q.low40 - 1
      below34 := if mV < 34000 then q.below34 + 1 else 0
      above60 := if 60000 < mV then q.above60 + 1 else 0 }) := by
  -- The function is unfolded without its arguments: with them the kernel would evaluate the limit's condition, over 40,000 samples.
  generalize hf : @State.sampleObjects = f
  delta State.sampleObjects at hf
  subst hf
  beta_reduce
  unfold State.sampleDrawn
  extract_lets v p uw xs out lim s1 s2 s3 s4 s5 s6 s7
  have limited : lim = s.power.limitedAt mV mA := rfl
  have counted : s7 = s.sampleCounted mV mA := rfl
  have measured : xs = s.power.samplesWith mV mA := rfl
  rewrite [← counted, ← limited, ← measured]
  generalize lim = l
  generalize s7 = t
  generalize xs = samples
  cases l <;> rfl

theorem State.sampleDrawn_eq_or_eq (s : State) (mV : Int) (mA : Nat) :
    s.sampleDrawn mV mA = (s.sampleCounted mV mA).takeFree ∨ s.sampleDrawn mV mA = (0, s.sampleCounted mV mA) :=
  ite_eq_or_eq _ _ _

theorem State.changesOnly_sampleDrawn (s : State) (mV : Int) (mA : Nat) (K : Nat → Prop) :
    (s.sampleCounted mV mA).ChangesOnly K (s.sampleDrawn mV mA).2 := by
  rcases s.sampleDrawn_eq_or_eq mV mA with h | h <;> rw [h]
  · exact (State.ChangesOnly.refl _).takeFree
  · exact .refl _

theorem State.sampleObjects_obj (s : State) (mV : Int) (mA i j : Nat) :
    (s.sampleObjects mV mA).obj i j = (s.sampleCounted mV mA).obj i j := by
  rw [State.sampleObjects_eq, State.modPower_obj, (s.changesOnly_sampleDrawn mV mA fun _ => False).obj i j not_false]

theorem State.sampleObjects_fuses (s : State) (mV : Int) (mA : Nat) : (s.sampleObjects mV mA).fuses = s.fuses := by
  rw [State.sampleObjects_eq, State.modPower_fuses, (s.changesOnly_sampleDrawn mV mA fun _ => False).fuses, (s.changesOnly_sampleCounted mV mA).fuses,
    (s.changesOnly_sampleFlagged mV mA).fuses, (s.changesOnly_sampleMeasured mV mA).fuses]

/-- The power controller after a sample. -/
theorem State.sampleObjects_power (s : State) (mV : Int) (mA : Nat) : ∃ v, (s.sampleObjects mV mA).power = s.power.sampled mV mA v := by
  refine ⟨(s.sampleDrawn mV mA).1.toNat, ?_⟩
  rw [State.sampleObjects_eq, State.modPower_power, (s.changesOnly_sampleDrawn mV mA fun _ => False).power,
    (s.changesOnly_sampleCounted mV mA).power, (s.changesOnly_sampleFlagged mV mA).power, (s.changesOnly_sampleMeasured mV mA).power]
  rfl

/-! The objects after a sample. -/

theorem State.sampleObjects_voltage (s : State) (mV : Int) (mA : Nat) : (s.sampleObjects mV mA).obj 0x2000 1 = mV.toNat := by
  rw [State.sampleObjects_obj, (s.changesOnly_sampleCounted mV mA).obj _ _ (by simp [supplyCounts, okey]),
    (s.changesOnly_sampleFlagged mV mA).obj _ _ (by simp [supplyFlags, okey]), State.sampleMeasured,
    State.setObj_obj_ne _ _ _ _ _ _ (by decide), State.setObj_obj_ne _ _ _ _ _ _ (by decide), State.setObj_obj_same]

theorem State.sampleObjects_current (s : State) (mV : Int) (mA : Nat) : (s.sampleObjects mV mA).obj 0x2000 2 = mA := by
  rw [State.sampleObjects_obj, (s.changesOnly_sampleCounted mV mA).obj _ _ (by simp [supplyCounts, okey]),
    (s.changesOnly_sampleFlagged mV mA).obj _ _ (by simp [supplyFlags, okey]), State.sampleMeasured,
    State.setObj_obj_ne _ _ _ _ _ _ (by decide), State.setObj_obj_same]

/-- A sample counts no brownout, and leaves the objects beyond those of the supply. -/
theorem State.sampleObjects_obj_other (s : State) (mV : Int) (mA : Nat) {i j : Nat}
    (h : okey i j = okey 0x2001 5 ∨ okey 0x2001 7 < okey i j) : (s.sampleObjects mV mA).obj i j = s.obj i j := by
  have hk : okey 0x2001 7 < okey i j ∨ okey i j = okey 0x2001 5 := h.symm
  simp only [okey] at hk
  rw [State.sampleObjects_obj, (s.changesOnly_sampleCounted mV mA).obj _ _ (by simp [supplyCounts, okey]; omega),
    (s.changesOnly_sampleFlagged mV mA).obj _ _ (by simp [supplyFlags, okey]; omega),
    (s.changesOnly_sampleMeasured mV mA).obj _ _ (by simp [okey]; omega)]

/-- Under a limit of R22 its flag is set. -/
theorem State.sampleObjects_flag (s : State) (mV : Int) (mA : Nat) (h : s.power.limitedAt mV mA = true) :
    ((s.sampleObjects mV mA).obj 0x2001 1).testBit 4 = true := by
  rw [State.sampleObjects_obj, (s.changesOnly_sampleCounted mV mA).obj _ _ (by simp [supplyCounts, okey]), State.sampleFlagged]
  simp only [h, if_true]
  rw [State.supplyFlag, State.setObj_obj_same, Nat.testBit_or, Nat.testBit_two_pow_self, Bool.or_true]

/-! ### The limits (R22) -/

theorem le_runOf_iff (n x bound : Nat) : 4000 ≤ runOf n x bound ↔ bound < x ∧ 3999 ≤ n := by
  unfold runOf
  split <;> omega

theorem Power.limitedAt_iff (p : Power) (mV : Int) (mA : Nat) : p.limitedAt mV mA = true ↔
    19000000000 * (p.samplesWith mV mA).length < (p.samplesWith mV mA).sum ∨ 21000000000 < mV.toNat * mA
      ∨ (19000000000 < mV.toNat * mA ∧ 3999 ≤ p.over19) ∨ 525000 < mA
      ∨ (475000 < mA ∧ (mV < 40000 ∨ 3999 ≤ p.over475)) := by
  simp only [Power.limitedAt, Power.overLimit, Power.overCurrent, overAverage, Bool.or_eq_true, Bool.and_eq_true, decide_eq_true_eq,
    le_runOf_iff, List.sum_eq_foldl]
  tauto

/-! ### What a sample brings -/

section
variable {s : State} {mV : Int} {mA : Nat} (hon : s.power.off = false) (hrating : ¬mV < -60000)
include hon hrating

theorem execInputSample_plain (h60 : (s.sampleObjects mV mA).power.above60 ≠ 4001)
    (h34 : (s.sampleObjects mV mA).power.below34 ≠ 800) : execInputSample mV mA s = .next (s.sampleObjects mV mA) := by
  unfold execInputSample
  simp only [hrating, hon, h60, h34, if_false, Bool.false_eq_true]

theorem execInputSample_above (h60 : (s.sampleObjects mV mA).power.above60 = 4001) :
    execInputSample mV mA s = .next (((s.sampleObjects mV mA).gasp 3).turnOff true) := by
  unfold execInputSample
  simp only [hrating, hon, h60, if_false, if_true, Bool.false_eq_true]

theorem execInputSample_brownout (h60 : (s.sampleObjects mV mA).power.above60 ≠ 4001)
    (h34 : (s.sampleObjects mV mA).power.below34 = 800) (hrun : (s.sampleObjects mV mA).mstate = 2)
    (hnone : (s.sampleObjects mV mA).brownoutOn = false) :
    execInputSample mV mA s = .next ((((s.sampleObjects mV mA).supplyFlag 3).count 0x2001 5).startBrownout false) := by
  unfold execInputSample
  simp [hrating, hon, h60, h34, hrun, hnone]

end

end Sys2Proof.Machine
end

section
/-! SUPPORT. The events of the input, and the limits of a brownout. -/

namespace Sys2Proof.Machine

/-! ### The input -/

@[simp] theorem State.gasp_fuses (s : State) (cause : Nat) : (s.gasp cause).fuses = s.fuses := rfl

/-- Off (R383): nothing is kept but the flash, the fuses and the signing state. -/
theorem State.turnOff_dark (s : State) (latched : Bool) :
    (s.turnOff latched).power.off = true ∧ (s.turnOff latched).cores = [] ∧ (s.turnOff latched).clusters = []
    ∧ (s.turnOff latched).dram = [] ∧ (s.turnOff latched).fuses = s.fuses ∧ (s.turnOff latched).dict = [] :=
  ⟨rfl, rfl, rfl, rfl, rfl, rfl⟩

theorem execInputLoss_of_started {s : State} (hon : s.power.off = false) (hms : s.obj 0x2010 0 ≠ 1) :
    execInputLoss s = .next ((s.gasp (if s.brownoutOn then 5 else 1)).turnOff false) := by
  have started : (s.gasp (if s.brownoutOn then 5 else 1)).mstate ≠ 1 := hms
  simp only [execInputLoss, hon, started, if_false, Bool.false_eq_true]

theorem execInputOvervoltage_of_on {s : State} (hon : s.power.off = false) :
    execInputOvervoltage s = .next ((s.gasp 2).turnOff true) := by
  simp only [execInputOvervoltage, hon, if_false, Bool.false_eq_true]

/-- A sample in the range of operation (R378, R379). -/
theorem execInputSample_of_range {s : State} {mV : Int} (mA : Nat) (hon : s.power.off = false) (hlow : 34000 ≤ mV) (hhigh : mV ≤ 60000) :
    ∃ t, execInputSample mV mA s = .next t ∧ t.obj 0x2000 1 = mV.toNat ∧ t.obj 0x2000 2 = mA ∧ t.power.lastMv = mV
      ∧ t.power.below34 = 0 ∧ t.power.above60 = 0 ∧ t.obj 0x2010 0 = s.obj 0x2010 0
      ∧ (s.power.limitedAt mV mA = true →
          (t.obj 0x2001 1).testBit 4 = true ∧ t.power.limited = true ∧ s.power.railDrop < t.power.railDrop)
      ∧ (s.power.limitedAt mV mA = false → t.power.limited = false ∧ t.power.railDrop = 0) := by
  obtain ⟨v, hv⟩ := s.sampleObjects_power mV mA
  have h34 : (s.power.sampled mV mA v).below34 = 0 := if_neg (by omega)
  have h60 : (s.power.sampled mV mA v).above60 = 0 := if_neg (by omega)
  refine ⟨s.sampleObjects mV mA, execInputSample_plain hon (by omega) (by simp [hv, h60]) (by simp [hv, h34]),
    s.sampleObjects_voltage mV mA, s.sampleObjects_current mV mA, ?_⟩
  rw [hv]
  refine ⟨rfl, h34, h60, s.sampleObjects_obj_other mV mA (.inr (by decide)), fun hlim => ⟨s.sampleObjects_flag mV mA hlim, hlim, ?_⟩,
    fun hlim => ⟨hlim, if_neg (by simp [hlim])⟩⟩
  rw [show (s.power.sampled mV mA v).railDrop = s.power.railDrop + 1 + v % railSpan from if_pos hlim]
  omega

/-- The count and the flag of a brownout. -/
theorem State.brownoutCounted (s : State) : ((s.supplyFlag 3).count 0x2001 5).brownoutOn = s.brownoutOn
    ∧ ((s.supplyFlag 3).count 0x2001 5).obj 0x2001 5 = satInc (s.obj 0x2001 5) := by
  refine ⟨rfl, ?_⟩
  unfold State.count State.supplyFlag
  rw [State.setObj_obj_same, State.setObj_obj_ne _ _ _ _ _ _ (by decide)]

/-- The 800th sample in succession under 34 V begins a brownout (R380, R401). -/
theorem execInputSample_of_brownout {s : State} {mV : Int} (mA : Nat) (hon : s.power.off = false) (h0 : 0 ≤ mV) (hlow : mV < 34000)
    (hrun : s.obj 0x2010 0 = 2) (h34 : s.power.below34 = 799) (hnone : s.power.entry = none) :
    ∃ t e, execInputSample mV mA s = .next t ∧ t.obj 0x2010 0 = 3 ∧ t.power.entry = some e ∧ e.hold = true
      ∧ t.power.brownoutSaved = true ∧ t.obj 0x2001 5 = satInc (s.obj 0x2001 5) ∧ t.obj 0x4000 4 ≠ 2 := by
  obtain ⟨v, hv⟩ := s.sampleObjects_power mV mA
  have hbelow : (s.power.sampled mV mA v).below34 = 800 := (if_pos hlow).trans (by rw [h34])
  have habove : (s.power.sampled mV mA v).above60 = 0 := if_neg (by omega)
  have hentry : (s.sampleObjects mV mA).power.entry = none := by rw [hv]; exact hnone
  have hms : (s.sampleObjects mV mA).mstate = 2 := (s.sampleObjects_obj_other mV mA (.inr (by decide))).trans hrun
  have hoff : (s.sampleObjects mV mA).brownoutOn = false := by rw [State.brownoutOn, hentry, Option.isSome_none, Bool.false_and]
  have hbrownout := execInputSample_brownout hon (by omega) (by simp [hv, habove]) (by simp [hv, hbelow]) hms hoff
  obtain ⟨hon', hcount⟩ := (s.sampleObjects mV mA).brownoutCounted
  rw [s.sampleObjects_obj_other mV mA (.inl rfl)] at hcount
  obtain ⟨h3, ⟨e, he, hhold⟩, hsaved, -, hleft, hsupply⟩ := State.startBrownout_spec _ false (hon'.trans hoff)
  exact ⟨_, e, hbrownout, h3, he, hhold, hsaved, (hsupply 5 (by decide)).trans hcount, hleft⟩

/-- The 4,001st sample in succession above 60 V opens the input switch (R381). -/
theorem execInputSample_of_above {s : State} {mV : Int} (mA : Nat) (hon : s.power.off = false) (hhigh : 60000 < mV)
    (h60 : s.power.above60 = 4000) : execInputSample mV mA s = .next (((s.sampleObjects mV mA).gasp 3).turnOff true) := by
  obtain ⟨v, hv⟩ := s.sampleObjects_power mV mA
  have habove : (s.power.sampled mV mA v).above60 = 4001 := (if_pos hhigh).trans (by rw [h60])
  exact execInputSample_above hon (by omega) (by rw [hv, habove])

/-! ### The limits of a brownout (R401) -/

theorem execBrownoutDrainLimit_spec {s : State} {e : Entry} (he : s.power.entry = some e) (h7 : e.stage = 7) :
    ∃ t, execBrownoutDrainLimit s = .next t ∧ t.power.entry = some { e with stage := 8 }
      ∧ ∀ r ∈ t.resend, srcIn .module r.src = false := by
  have stopped : s.ChangesOnly (fun _ => False)
      (s.cores.foldl (fun t x => if coreBoot x.1 then t else (t.tryStop x.1).cancelWaits x.1) s) :=
    (State.ChangesOnly.refl s).foldl fun u x _ hu => hu.ite ((hu.tryStop x.1).cancelWaits x.1)
  unfold execBrownoutDrainLimit
  simp only [he, h7, if_true]
  refine ⟨_, rfl, ?_, fun r hr => ?_⟩
  · rw [State.modEntry_power, State.abandon, stopped.power, he]
    rfl
  · have kept := (List.mem_filter.1 (show r ∈ List.filter _ _ from hr)).2
    simpa using kept

/-- Hold is reached as the last block is shut down, or with the clamps of a brownout. -/
theorem State.entryDone_hold {s : State} {e : Entry} (hhold : e.hold = true) (hoff : e.off = false) (hre : e.restart = false) :
    (s.entryDone e).power.entry = none ∧ (s.entryDone e).obj 0x2010 0 = 4 := by
  unfold State.entryDone
  extract_lets r lost left s1 s2 off s3
  simp only [hhold, hoff, hre, Bool.not_true, Bool.false_eq_true, if_false]
  have spurs : s1.ChangesOnly (fun k => k = okey 0x2011 0) (e.spurs.foldl (fun u d => if u.spurState d = 7 then u else u.setSpurState d 5) s1) :=
    (State.ChangesOnly.refl s1).foldl fun u d _ hu => hu.ite (hu.setSpurState rfl d 5)
  have links := (State.ChangesOnly.refl s2).linksOff (decide (s2.obj 0x2041 0 = 1))
  have entry := congrArg Power.entry spurs.power
  refine ⟨?_, State.setObj_obj_same _ _ _ _⟩
  calc s3.power.entry = (s2.linksOff (decide (s2.obj 0x2041 0 = 1))).power.entry := rfl
    _ = s2.power.entry := congrArg _ links.power
    _ = s1.power.entry := entry
    _ = none := rfl

theorem execBrownoutClampLimit_hold {s : State} {e : Entry} (he : s.power.entry = some e) (h8 : e.stage = 8) (hhold : e.hold = true)
    (hoff : e.off = false) (hre : e.restart = false) :
    ∃ t, execBrownoutClampLimit s = .next t ∧ t.power.entry = none ∧ t.obj 0x2010 0 = 4 := by
  unfold execBrownoutClampLimit
  simp only [he, h8]
  exact ⟨_, rfl, State.entryDone_hold hhold hoff hre⟩

end Sys2Proof.Machine
end

section
/-! SUPPORT. The start-up steps and the temperature sample: what each does to the power controller and the objects. -/

namespace Sys2Proof.Machine

/-! ### Safe hold (R383, R405) -/

theorem State.safeHold_dict (s : State) :
    s.safeHold.dict = (((s.linksOff false).setObj 0x2010 0 6).setObj 0x2011 0 (objDefault (okey 0x2011 0))).dict := by
  unfold State.safeHold
  generalize objDefault (okey 0x2011 0) = v
  rfl

theorem State.safeHold_obj (s : State) (i j : Nat) : s.safeHold.obj i j
    = (((s.linksOff false).setObj 0x2010 0 6).setObj 0x2011 0 (objDefault (okey 0x2011 0))).obj i j :=
  congrArg (fun d => mget objDefault d (okey i j)) s.safeHold_dict

theorem State.safeHold_mstate (s : State) : s.safeHold.obj 0x2010 0 = 6 := by
  rw [State.safeHold_obj, State.setObj_obj_ne _ _ _ _ _ _ (by decide), State.setObj_obj_same]

theorem State.safeHold_blocks (s : State) : s.safeHold.clusters = [] ∧ s.safeHold.cairns = [] ∧ s.safeHold.dram = [] := ⟨rfl, rfl, rfl⟩

/-- The objects before the module state stay. -/
theorem State.safeHold_obj_before (s : State) {i j : Nat} (hi : i < 0x2010) (hj : j < 256) : s.safeHold.obj i j = s.obj i j := by
  have before : okey i j < okey 0x2010 0 ∧ okey i j < okey 0x2011 0 := by unfold okey; omega
  rw [State.safeHold_obj, State.setObj_obj_ne _ _ _ _ _ _ (by omega), State.setObj_obj_ne _ _ _ _ _ _ (by omega)]
  exact ((State.ChangesOnly.refl s).linksOff false).obj i j (not_keysFrom_okey (by omega) hj)

/-! ### Start-up (R403) -/

theorem execInputQualified_of_off {s : State} (hoff : s.power.off = true) (hlatched : s.power.latched = false) :
    ∃ t, execInputQualified s = .next t ∧ t.power.off = false ∧ t.power.startStep = 1 ∧ t.obj 0x2010 0 = 1 := by
  unfold execInputQualified
  simp only [hoff, hlatched, if_true, Bool.false_eq_true, if_false]
  refine ⟨_, rfl, rfl, rfl, ?_⟩
  rw [State.modPower_obj]
  exact State.setObj_obj_same _ _ _ _

/-- Ready after step 7: the SVN fuses follow the image that runs (R444). -/
def State.started (s : State) : State :=
  (({ s with fuses := { s.fuses with svn := Nat.max s.fuses.svn (imageSvn (s.image (s.obj 0x1001 1))) } } : State).setMstate 2).startTo 8

theorem State.started_mstate (s : State) : s.started.obj 0x2010 0 = 2 := by
  unfold State.started State.startTo
  rw [State.modPower_obj]
  exact State.setObj_obj_same _ _ _ _

section
variable {s : State} (hon : s.power.off = false) (hstart : s.obj 0x2010 0 = 1) (hgoing : s.power.abandoned = false)
include hon hstart hgoing

/-- The ends of steps 1, 2 and 5. -/
theorem execStartupStepEnd_plain (hstep : s.power.startStep = 1 ∨ s.power.startStep = 2 ∨ s.power.startStep = 5) :
    execStartupStepEnd s = .next (s.startTo (s.power.startStep + 1)) := by
  have hms : s.mstate = 1 := hstart
  obtain h | h | h := hstep <;> simp [execStartupStepEnd, hon, hms, hgoing, h]

/-- Step 3 has chosen the image `n`. -/
theorem execStartupStepEnd_image {n : Nat} (hstep : s.power.startStep = 3) (himage : s.bootImage = some n) :
    execStartupStepEnd s = .next (((s.setObj 0x1001 1 n).bootCores).startTo 4) := by
  have hms : s.mstate = 1 := hstart
  simp [execStartupStepEnd, hon, hms, hgoing, hstep, himage]

/-- Step 3 finds no image. -/
theorem execStartupStepEnd_noImage (hstep : s.power.startStep = 3) (himage : s.bootImage = none) :
    execStartupStepEnd s = .next (s.setObj 0x1001 1 0xFF).safeHold := by
  have hms : s.mstate = 1 := hstart
  simp [execStartupStepEnd, hon, hms, hgoing, hstep, himage]

/-- Step 4 (R436, R458). -/
theorem execStartupStepEnd_record (hstep : s.power.startStep = 4) :
    execStartupStepEnd s = .next (if s.recordObjects.obj 0x6000 1 = 2 || s.recordObjects.lc = 0 || s.recordObjects.lc = 5
      then s.recordObjects.safeHold else s.recordObjects.startTo 5) := by
  have hms : s.mstate = 1 := hstart
  simp [execStartupStepEnd, hon, hms, hgoing, hstep]

/-- Step 7: the module is Ready. -/
theorem execStartupStepEnd_ready (hstep : s.power.startStep = 7) :
    execStartupStepEnd s = .next s.started.ringConfig := by
  have hms : s.mstate = 1 := hstart
  simp [execStartupStepEnd, hon, hms, hgoing, hstep, State.started]

end

theorem State.bootCores_obj (s : State) (i j : Nat) : s.bootCores.obj i j = s.obj i j := by
  have booted : s.ChangesOnly (fun _ => False) s.bootCores := (State.ChangesOnly.refl s).foldl fun _ _ _ hu => hu.step rfl
  exact booted.obj i j not_false

theorem State.recordObjects_fuses (s : State) : s.recordObjects.fuses = s.fuses := by
  have record (j v : Nat) {i : Nat} (hi : 0x6000 ≤ i) {u : State} (hu : s.ChangesOnly (keysFrom 0x6000) u) :
      s.ChangesOnly (keysFrom 0x6000) (u.setObj i j v) := hu.setObj (keysFrom_okey hi j)
  unfold State.recordObjects
  split
  · rfl
  · exact (record _ _ (by decide) (record _ _ (by decide) (record _ _ (by decide) (record _ _ (by decide)
      (record _ _ (by decide) (.refl s)))))).fuses

section
variable {s : State} (hon : s.power.off = false) (hstart : s.obj 0x2010 0 = 1) (hgoing : s.power.abandoned = false)
include hon hstart hgoing

theorem execStartupStepEnd_image_spec {n : Nat} (hstep : s.power.startStep = 3) (himage : s.bootImage = some n) :
    ∃ t, execStartupStepEnd s = .next t ∧ t.power.startStep = 4 ∧ t.obj 0x1001 1 = n := by
  refine ⟨_, execStartupStepEnd_image hon hstart hgoing hstep himage, rfl, ?_⟩
  rw [State.startTo, State.modPower_obj, State.bootCores_obj, State.setObj_obj_same]

theorem execStartupStepEnd_noImage_spec (hstep : s.power.startStep = 3) (himage : s.bootImage = none) :
    ∃ t, execStartupStepEnd s = .next t ∧ t.obj 0x1001 1 = 0xFF ∧ t.obj 0x2010 0 = 6 :=
  ⟨_, execStartupStepEnd_noImage hon hstart hgoing hstep himage,
    (State.safeHold_obj_before _ (by decide) (by decide)).trans (State.setObj_obj_same _ _ _ _), State.safeHold_mstate _⟩

/-- In Blank and in Retired, step 4 ends in Safe (R436). -/
theorem execStartupStepEnd_unusable_spec (hstep : s.power.startStep = 4) (hlc : s.fuses.lc = 0 ∨ s.fuses.lc = 5) :
    ∃ t, execStartupStepEnd s = .next t ∧ t.obj 0x2010 0 = 6 := by
  have lc : s.recordObjects.lc = s.fuses.lc := congrArg Fuses.lc s.recordObjects_fuses
  refine ⟨s.recordObjects.safeHold, ?_, State.safeHold_mstate _⟩
  rw [execStartupStepEnd_record hon hstart hgoing hstep, lc]
  obtain h | h := hlc <;> simp [h]

/-- Step 4 finds no valid record, in a life-cycle state that starts (R460). -/
theorem execStartupStepEnd_noRecord_spec (hstep : s.power.startStep = 4) (hbest : s.flash.best = none) (h0 : s.fuses.lc ≠ 0)
    (h5 : s.fuses.lc ≠ 5) : ∃ t, execStartupStepEnd s = .next t ∧ t.power.startStep = 5 ∧ t.obj 0x6000 1 = 0 := by
  have lc : s.recordObjects.lc = s.fuses.lc := congrArg Fuses.lc s.recordObjects_fuses
  have outcome : s.recordObjects.obj 0x6000 1 = 0 := by
    unfold State.recordObjects
    rw [hbest]
    exact State.setObj_obj_same _ _ _ _
  refine ⟨s.recordObjects.startTo 5, ?_, rfl, outcome⟩
  rw [execStartupStepEnd_record hon hstart hgoing hstep, lc, outcome]
  simp [h0, h5]

theorem execStartupStepEnd_ready_spec (hstep : s.power.startStep = 7) :
    ∃ t, execStartupStepEnd s = .next t ∧ t.power.startStep = 8 ∧ t.obj 0x2010 0 = 2 ∧ s.fuses.svn ≤ t.fuses.svn := by
  have ring := (State.ChangesOnly.refl s.started).ringConfig []
  refine ⟨_, execStartupStepEnd_ready hon hstart hgoing hstep, congrArg Power.startStep ring.power, ?_, ?_⟩
  · exact (ring.obj _ _ (not_keysFrom_okey (by decide) (by decide))).trans s.started_mstate
  · rw [ring.fuses]
    exact Nat.le_max_left _ _

end

end Sys2Proof.Machine
end

section
/-! SUPPORT. The temperature sample (R469 to R471). -/

namespace Sys2Proof.Machine

/-- Only the setpoints change with a throttling step. -/
theorem Power.throttle_entry (p : Power) (x : Sensor) :
    (p.throttle x).entry = p.entry ∧ (p.throttle x).brownoutSaved = p.brownoutSaved := by
  unfold Power.throttle
  split
  · exact ⟨rfl, rfl⟩
  · split_ifs <;> exact ⟨rfl, rfl⟩

theorem Power.foldl_throttle_entry (p : Power) (xs : List Sensor) :
    (xs.foldl Power.throttle p).entry = p.entry ∧ (xs.foldl Power.throttle p).brownoutSaved = p.brownoutSaved := by
  induction xs generalizing p with
  | nil => exact ⟨rfl, rfl⟩
  | cons x xs ih =>
    obtain ⟨he, hb⟩ := p.throttle_entry x
    obtain ⟨he', hb'⟩ := ih (p.throttle x)
    exact ⟨he'.trans he, hb'.trans hb⟩

/-- A module at work after a temperature sample, before its stop limits. -/
def State.temperatures (s : State) (x : Temps) : State :=
  let hot := (sensorsOf x).filter Sensor.hot
  let begun := hot.filter (fun y => !s.power.throttled.contains y.no)
  let s1 := (s.tempObjects x).modPower (fun p =>
    { (sensorsOf x).foldl Power.throttle p with
      throttled := hot.map (·.no)
      overWake := (sensorsOf x).any (fun y => decide (y.wake ≤ y.t)) })
  begun.foldl (fun u _ => u.count 0x3010 2) (if !hot.isEmpty then s1.setObj 0x3010 1 (s1.obj 0x3010 1 ||| 1) else s1)

/-- That a stop limit has been reached is kept in the record of throttling. -/
def State.stopNoted (s : State) : State := s.setObj 0x3010 1 (s.obj 0x3010 1 ||| 2)

/-- Whether a sensor is at its stop limit. -/
def atStopLimit (x : Temps) : Bool := (sensorsOf x).any (fun y => decide (y.stop ≤ y.t))

theorem State.changesOnly_tempObjects (s : State) (x : Temps) : s.ChangesOnly (keysFrom 0x3000) (s.tempObjects x) := by
  have put {i : Nat} (hi : 0x3000 ≤ i) (xs : List Int) {u : State} (hu : s.ChangesOnly (keysFrom 0x3000) u) :
      s.ChangesOnly (keysFrom 0x3000) (xs.zipIdx.foldl (fun w y => w.setObj i (y.2 + 1) (i32 y.1)) u) :=
    hu.foldl fun _ _ _ hw => hw.setObj (keysFrom_okey hi _)
  unfold State.tempObjects
  exact ((((put (by decide) _ (put (by decide) _ (put (by decide) _ (.refl s)))).setObj (keysFrom_okey (by decide) _)).setObj
    (keysFrom_okey (by decide) _)).setObj (keysFrom_okey (by decide) _))

theorem State.tempObjects_summit (s : State) (x : Temps) : (s.tempObjects x).obj 0x3002 0 = i32 x.summit := by
  unfold State.tempObjects
  dsimp only
  rw [State.setObj_obj_ne _ _ _ _ _ _ (by decide), State.setObj_obj_ne _ _ _ _ _ _ (by decide), State.setObj_obj_same]

/-- The sample's readings aside, only the record of throttling changes; of the power controller, the setpoints and what is over its
thresholds. -/
theorem State.temperatures_spec (s : State) (x : Temps) :
    (s.temperatures x).power.entry = s.power.entry ∧ (s.temperatures x).power.brownoutSaved = s.power.brownoutSaved
    ∧ (s.temperatures x).obj 0x2010 0 = s.obj 0x2010 0 ∧ (s.temperatures x).obj 0x3002 0 = i32 x.summit := by
  unfold State.temperatures
  extract_lets hot begun s1
  have marked : s1.ChangesOnly (keysFrom 0x3010) (begun.foldl (fun u _ => u.count 0x3010 2)
      (if !hot.isEmpty then s1.setObj 0x3010 1 (s1.obj 0x3010 1 ||| 1) else s1)) :=
    (State.ChangesOnly.ite ((State.ChangesOnly.refl s1).setObj (keysFrom_okey (by decide) _)) (.refl s1)).foldl
      fun _ _ _ hu => hu.count (keysFrom_okey (by decide) _)
  have noted := s.changesOnly_tempObjects x
  obtain ⟨hentry, hsaved⟩ := (s.tempObjects x).power.foldl_throttle_entry (sensorsOf x)
  refine ⟨?_, ?_, ?_, ?_⟩
  · exact (congrArg Power.entry marked.power).trans (hentry.trans (congrArg Power.entry noted.power))
  · exact (congrArg Power.brownoutSaved marked.power).trans (hsaved.trans (congrArg Power.brownoutSaved noted.power))
  · exact (marked.obj _ _ (not_keysFrom_okey (by decide) (by decide))).trans
      (noted.obj _ _ (not_keysFrom_okey (by decide) (by decide)))
  · exact (marked.obj _ _ (not_keysFrom_okey (by decide) (by decide))).trans (s.tempObjects_summit x)

theorem i32_eq (x : Int) : i32 x = (x % 2 ^ 32).toNat := rfl

/-- Under every stop limit of R469. -/
theorem atStopLimit_of_below {x : Temps} (ridge : ∀ y ∈ x.ridge, y < 108000) (saddle : ∀ y ∈ x.saddle, y < 105000)
    (summit : x.summit < 100000) (stack : ∀ y ∈ x.stack, y < 95000) (outlet : x.outlet < 65000) (inlet : x.inlet < 50000) :
    atStopLimit x = false := by
  have below {xs : List Int} {n : Int} (h : ∀ y ∈ xs, y < n) (no : Nat → Nat) (hi : Option (Int × Int)) (wake : Int) :
      (xs.zipIdx.map (fun y => (⟨no y.2, y.1, hi, n, wake⟩ : Sensor))).any (fun y => decide (y.stop ≤ y.t)) = false := by
    rw [List.any_map, List.any_eq_false]
    intro y hy
    simpa using h y.1 (List.fst_mem_of_mem_zipIdx hy)
  unfold atStopLimit sensorsOf
  simp only [List.any_append, List.any_cons, List.any_nil, Bool.or_false, Bool.or_eq_false_iff, decide_eq_false_iff_not, not_le]
  exact ⟨⟨⟨⟨below ridge id _ _, below saddle _ _ _⟩, summit⟩, below stack _ _ _⟩, outlet, inlet⟩

theorem atStopLimit_of_summit {x : Temps} (summit : 100000 ≤ x.summit) : atStopLimit x = true := by
  have sensor : (⟨24, x.summit, none, 100000, 95000⟩ : Sensor) ∈ sensorsOf x := by simp [sensorsOf]
  exact List.any_eq_true.2 ⟨_, sensor, decide_eq_true summit⟩

section
variable {s : State} {x : Temps} (hon : s.power.off = false) (hrun : s.obj 0x2010 0 = 2)
include hon hrun

/-- No sensor is at its stop limit. -/
theorem execTemperatureSample_cool (hcool : atStopLimit x = false) : execTemperatureSample x s = .next (s.temperatures x) := by
  have hms : s.mstate = 2 := hrun
  unfold atStopLimit at hcool
  simp only [execTemperatureSample, hon, hms, hcool]
  rfl

/-- A sensor at its stop limit: the module goes the way of a brownout. -/
theorem execTemperatureSample_stop (hstop : atStopLimit x = true) : execTemperatureSample x s
    = .next ((s.temperatures x).stopNoted.startBrownout true) := by
  have hms : s.mstate = 2 := hrun
  have hms' : (s.temperatures x).stopNoted.mstate = 2 := by
    obtain ⟨-, -, hstate, -⟩ := s.temperatures_spec x
    exact (State.setObj_obj_ne _ _ _ _ _ _ (by decide)).trans (hstate.trans hrun)
  unfold atStopLimit at hstop
  simp only [execTemperatureSample, hon, hms, hstop, decide_true, if_true, Bool.false_eq_true, if_false, Bool.true_and]
  split
  next => rfl
  next h => exact absurd (h.symm.trans hms') (by decide)
  next h => exact absurd (h.symm.trans hms') (by decide)
  next h _ _ => exact absurd hms' h

theorem execTemperatureSample_cool_spec (hcool : atStopLimit x = false) :
    ∃ t, execTemperatureSample x s = .next t ∧ t.obj 0x2010 0 = 2 ∧ t.obj 0x3002 0 = (x.summit % 2 ^ 32).toNat := by
  obtain ⟨-, -, hstate, hsummit⟩ := s.temperatures_spec x
  exact ⟨_, execTemperatureSample_cool hon hrun hcool, hstate.trans hrun, hsummit.trans (i32_eq _)⟩

theorem execTemperatureSample_stop_spec (hstop : atStopLimit x = true) (hnone : s.brownoutOn = false) :
    ∃ t, execTemperatureSample x s = .next t ∧ t.obj 0x2010 0 = 3 ∧ t.power.stopHeld = true := by
  obtain ⟨hentry, hsaved, -, -⟩ := s.temperatures_spec x
  have hnone' : (s.temperatures x).stopNoted.brownoutOn = false := by
    simpa only [State.brownoutOn, State.stopNoted, State.setObj_power, hentry, hsaved] using hnone
  obtain ⟨hstate, -, -, hheld, -, -⟩ := State.startBrownout_spec _ true hnone'
  exact ⟨_, execTemperatureSample_stop hon hrun hstop, hstate, hheld⟩

end

theorem execSummitFault_of_on {s : State} (hon : s.power.off = false) : execSummitFault s = .next s.safeHold := by
  simp only [execSummitFault, hon, Bool.false_eq_true, if_false]

end Sys2Proof.Machine
end

section
/-! O48: the input, the start-up and the temperatures. -/

namespace Sys2Proof.Machine

/-- Settles O48: each event's branch is taken from the hypotheses of its clause, and what the branch does is a lemma of the sample, the
brownout, the start-up or the temperatures. -/
theorem inputStartupAndTemperatures : Obligations.InputStartupAndTemperatures := by
  intro s
  refine ⟨?rating, ?range, ?brownout, ?above, ?loss, ?overvoltage, ?drainLimit, ?clampLimit, ?qualified, ?startup, ?cool, ?stop, ?summit⟩
  case rating =>
    intro mV mA h
    exact if_pos h
  case range =>
    intro mV mA hon hlow hhigh
    obtain ⟨t, ht, hmV, hmA, hlast, h34, h60, hms, hlim, hfree⟩ := execInputSample_of_range mA hon hlow hhigh
    have limits := s.power.limitedAt_iff mV mA
    exact ⟨t, ht, hmV, hmA, hlast, h34, h60, hms, fun h => hlim (limits.2 h),
      fun h => hfree (Bool.eq_false_iff.2 fun h' => h (limits.1 h'))⟩
  case brownout =>
    intro mV mA h0 hlow hon hms h34 hnone
    exact execInputSample_of_brownout mA hon h0 hlow hms h34 hnone
  case above =>
    intro mV mA hhigh hon h60
    obtain ⟨hoff, hcores, hclusters, hdram, hfuses, hdict⟩ := ((s.sampleObjects mV mA).gasp 3).turnOff_dark true
    exact ⟨_, execInputSample_of_above mA hon hhigh h60, hoff, hcores, hclusters, hdram,
      hfuses.trans ((State.gasp_fuses _ 3).trans (s.sampleObjects_fuses mV mA)), hdict⟩
  case loss => exact fun hon hms => ⟨_, execInputLoss_of_started hon hms, State.turnOff_dark _ _⟩
  case overvoltage => exact fun hon => ⟨_, execInputOvervoltage_of_on hon, State.turnOff_dark _ _, rfl⟩
  case drainLimit => exact fun e he h7 => execBrownoutDrainLimit_spec he h7
  case clampLimit => exact fun e he h8 hhold hoff hre => execBrownoutClampLimit_hold he h8 hhold hoff hre
  case qualified => exact fun hoff hlatched => execInputQualified_of_off hoff hlatched
  case startup =>
    intro hon hms hgoing
    refine ⟨fun hstep => ⟨_, execStartupStepEnd_plain hon hms hgoing hstep, rfl⟩,
      fun n hstep himage => execStartupStepEnd_image_spec hon hms hgoing hstep himage,
      fun hstep himage => execStartupStepEnd_noImage_spec hon hms hgoing hstep himage,
      fun hstep hlc => execStartupStepEnd_unusable_spec hon hms hgoing hstep hlc,
      fun hstep hbest h0 h5 => execStartupStepEnd_noRecord_spec hon hms hgoing hstep hbest h0 h5,
      fun hstep => execStartupStepEnd_ready_spec hon hms hgoing hstep⟩
  case cool =>
    intro x hon hms _ _ _ ridge saddle summit stack outlet inlet
    exact execTemperatureSample_cool_spec hon hms (atStopLimit_of_below ridge saddle summit stack outlet inlet)
  case stop =>
    intro x hon hms hnone summit _ _ _
    exact execTemperatureSample_stop_spec hon hms (atStopLimit_of_summit summit) hnone
  case summit =>
    exact fun hon => ⟨_, execSummitFault_of_on hon, State.safeHold_mstate s, State.safeHold_blocks s⟩

end Sys2Proof.Machine
end

section
/-! SUPPORT. What the canvas and the results in flight leave of a core: the canvas touches its palette, its queue and its flags alone;
a result that takes effect leaves the results in flight, and writes a scalar register only where that is its destination. -/

namespace Sys2Proof.Machine

/-! ### The canvas -/

/-- Core `k'` is core `k` but for what the canvas and the palette's writers touch. -/
def Core.ChangesPalette (k k' : Core) : Prop :=
  k' = { k with lines := k'.lines, cflags := k'.cflags, running := k'.running, cq := k'.cq }

namespace Core.ChangesPalette

theorem refl (k : Core) : k.ChangesPalette k := rfl

theorem trans {k q t : Core} (h : k.ChangesPalette q) (h' : q.ChangesPalette t) : k.ChangesPalette t := by
  unfold Core.ChangesPalette at *
  rw [h', h]

theorem foldl {α : Type} {f : Core → α → Core} (hf : ∀ (k : Core) (x : α), k.ChangesPalette (f k x)) (xs : List α) (k : Core) :
    k.ChangesPalette (xs.foldl f k) := by
  induction xs generalizing k with
  | nil => exact refl k
  | cons x xs ih => exact (hf k x).trans (ih _)

section
variable {k k' : Core} (h : k.ChangesPalette k')
include h

theorem sreg : k'.sreg = k.sreg := by rw [h]; rfl
theorem pend : k'.pend = k.pend := by rw [h]
theorem fcnt : k'.fcnt = k.fcnt := by rw [h]

end

theorem setLine (k : Core) (key : Nat) (v : Line) : k.ChangesPalette (k.setLine key v) := rfl

theorem writeRow (k : Core) (e : CEnt) (g : Map Line) (i : Nat) : k.ChangesPalette (k.writeRow e g i) := by
  unfold Core.writeRow
  dsimp only
  split
  · exact refl k
  · rfl
  · exact foldl (fun t q => setLine t _ _) _ k

theorem canvasAccess (k : Core) (x : CEvent) : k.ChangesPalette (k.canvasAccess x) := by
  unfold Core.canvasAccess
  split
  · exact refl k
  · dsimp only
    split
    · exact writeRow k _ _ _
    · rfl

/-- The canvas's work up to a beat (R59, R73). -/
theorem canvasTo (k : Core) (b : Nat) : k.ChangesPalette (k.canvasTo b) := by
  unfold Core.canvasTo
  split
  · exact refl k
  · exact (trans (q := { k with running := k.running ++ k.cq }) rfl (foldl canvasAccess _ _)).trans rfl

end Core.ChangesPalette

/-! ### Results that take effect -/

theorem Core.sreg_setS (k : Core) (q r : Reg) (v : Word) :
    (k.setS q v).sreg r = if q = r then (if r = 0 then 0 else v) else k.sreg r := by
  unfold Core.setS Core.sreg
  by_cases hr : r = 0
  · simp only [if_pos hr, ite_self]
  · by_cases hq : q = 0
    · rw [if_pos hq, if_neg (fun h : q = r => hr (h ▸ hq))]
    · have key : r.toNat = q.toNat ↔ q = r := by rw [← BitVec.toNat_inj, eq_comm]
      simp only [if_neg hr, if_neg hq, mget_mset, key]

@[simp] theorem Core.pend_setS (k : Core) (q : Reg) (v : Word) : (k.setS q v).pend = k.pend := by
  unfold Core.setS
  split <;> rfl

@[simp] theorem Core.fcnt_setS (k : Core) (q : Reg) (v : Word) : (k.setS q v).fcnt = k.fcnt := by
  unfold Core.setS
  split <;> rfl

/-- A write of a system register leaves the scalar registers, the results in flight and the count of frozen beats. -/
theorem State.sysWrite_keeps (s : State) (c sr : Nat) (v clr : Word) (lvl at_ : Nat) :
    let q := (s.sysWrite c sr v clr lvl at_).core c
    q.sreg = (s.core c).sreg ∧ q.pend = (s.core c).pend ∧ q.fcnt = (s.core c).fcnt := by
  have palette := Core.ChangesPalette.canvasTo (s.core c) at_
  have updated (f : Core → Core) (hs : (f (s.core c)).sreg = (s.core c).sreg) (hp : (f (s.core c)).pend = (s.core c).pend)
      (hf : (f (s.core c)).fcnt = (s.core c).fcnt) :
      ((s.modCore c f).core c).sreg = (s.core c).sreg ∧ ((s.modCore c f).core c).pend = (s.core c).pend
        ∧ ((s.modCore c f).core c).fcnt = (s.core c).fcnt := by
    rw [State.modCore_eq, State.setCore_core_same]
    exact ⟨hs, hp, hf⟩
  unfold State.sysWrite
  dsimp only
  split
  case h_4 => exact updated _ palette.sreg palette.pend palette.fcnt
  case h_8 | h_9 | h_10 | h_11 | h_12 | h_13 | h_14 | h_15 | h_16 | h_17 | h_35 => exact ⟨rfl, rfl, rfl⟩
  all_goals exact updated _ rfl rfl rfl

theorem State.land1_keeps (s : State) (c : Nat) (p : Pend) :
    ((s.land1 c p).core c).pend = (s.core c).pend ∧ ((s.land1 c p).core c).fcnt = (s.core c).fcnt := by
  unfold State.land1
  cases p.dst with
  | sreg q => simp
  | sys sr clr lvl =>
    dsimp only
    split
    · simp
    · exact (s.sysWrite_keeps c _ _ _ _ _).2
  | fflags => simp

theorem State.land1_sreg (s : State) (c : Nat) (p : Pend) (r : Reg) :
    ((s.land1 c p).core c).sreg r = if p.dst = .sreg r then (if r = 0 then 0 else p.val) else (s.core c).sreg r := by
  unfold State.land1
  cases p.dst with
  | sreg q => simp [Core.sreg_setS]
  | sys sr clr lvl =>
    simp only [reduceCtorEq, if_false]
    split
    · simp [Core.sreg]
    · rw [(s.sysWrite_keeps c _ _ _ _ _).1]
  | fflags => simp [Core.sreg]

/-- Results taking effect one after another. -/
theorem State.foldl_land1_keeps (c : Nat) (ps : List Pend) (s : State) :
    ((ps.foldl (fun t p => t.land1 c p) s).core c).pend = (s.core c).pend
      ∧ ((ps.foldl (fun t p => t.land1 c p) s).core c).fcnt = (s.core c).fcnt := by
  induction ps generalizing s with
  | nil => exact ⟨rfl, rfl⟩
  | cons p ps ih =>
    obtain ⟨hpend, hfcnt⟩ := s.land1_keeps c p
    exact ⟨(ih _).1.trans hpend, (ih _).2.trans hfcnt⟩

/-- Of the results for a scalar register the last one stands. -/
theorem State.foldl_land1_sreg (c : Nat) (ps : List Pend) (s : State) (r : Reg) :
    ((ps.foldl (fun t p => t.land1 c p) s).core c).sreg r =
      if r = 0 then 0 else ((ps.filter (fun p => p.dst == .sreg r)).getLast?).elim ((s.core c).sreg r) (·.val) := by
  induction ps generalizing s with
  | nil => unfold Core.sreg; split <;> rfl
  | cons p ps ih =>
    rw [List.foldl_cons, ih, State.land1_sreg]
    by_cases hr : r = 0
    · simp only [if_pos hr]
    · simp only [if_neg hr, List.filter_cons, beq_iff_eq]
      by_cases hp : p.dst = .sreg r
      · rw [if_pos hp, if_pos hp, List.getLast?_cons]
        cases (ps.filter (fun p => p.dst == .sreg r)).getLast? <;> rfl
      · rw [if_neg hp, if_neg hp]

/-- What is left in flight after the results due by active beat `a` (R114). -/
theorem State.landAll_pend (s : State) (c a : Nat) :
    ((s.landAll c a).core c).pend = (s.core c).pend.filter (fun p => !(p.due ≤ a && p.present (s.core c).fcnt a)) := by
  rw [State.landAll, State.landIf, (State.foldl_land1_keeps c _ _).1, State.setCore_core_same]

@[simp] theorem State.landAll_fcnt (s : State) (c a : Nat) : ((s.landAll c a).core c).fcnt = (s.core c).fcnt := by
  rw [State.landAll, State.landIf, (State.foldl_land1_keeps c _ _).2, State.setCore_core_same]

/-- The scalar registers after the results due by active beat `a` (R114). -/
theorem State.landAll_sreg (s : State) (c a : Nat) (r : Reg) :
    ((s.landAll c a).core c).sreg r =
      if r = 0 then 0
      else (((s.core c).pend.filter (fun p => p.due ≤ a && p.present (s.core c).fcnt a && p.dst == .sreg r)).getLast?).elim
        ((s.core c).sreg r) (·.val) := by
  rw [State.landAll, State.landIf, State.foldl_land1_sreg, State.setCore_core_same, List.filter_filter]
  simp only [Bool.and_comm (_ == _)]
  rfl

/-! ### Fields of a word -/

/-- A number with field [h:l] replaced, cut at the field's two ends. -/
theorem setFld_eq (x h l v : Nat) (hl : l ≤ h) :
    setFld x h l v = 2 ^ l * (2 ^ (h + 1 - l) * (x / 2 ^ (h + 1)) + v % 2 ^ (h + 1 - l)) + x % 2 ^ l := by
  have cut : 2 ^ l * (2 ^ (h + 1 - l) * (x / 2 ^ (h + 1)) + fld x h l) + x % 2 ^ l = x := by
    have whole : 2 ^ (h + 1) = 2 ^ l * 2 ^ (h + 1 - l) := by rw [← Nat.pow_add]; congr 1; omega
    rw [fld, Nat.shiftRight_eq_div_pow, whole, ← Nat.div_div_eq_div_mul, Nat.div_add_mod, Nat.div_add_mod]
  unfold setFld
  rw [Nat.mul_add] at *
  rw [Nat.mul_comm (fld x h l), Nat.mul_comm (v % _)]
  omega

theorem testBit_setFld (x h l v i : Nat) (hl : l ≤ h) :
    (setFld x h l v).testBit i = if l ≤ i ∧ i ≤ h then v.testBit (i - l) else x.testBit i := by
  rw [setFld_eq x h l v hl, Nat.testBit_two_pow_mul_add _ (Nat.mod_lt _ (Nat.two_pow_pos _)),
    Nat.testBit_two_pow_mul_add _ (Nat.mod_lt _ (Nat.two_pow_pos _))]
  by_cases below : i < l
  · rw [if_pos below, if_neg (by omega), Nat.testBit_mod_two_pow]
    simp [below]
  · by_cases inside : i ≤ h
    · rw [if_neg below, if_pos (by omega), if_pos (by omega), Nat.testBit_mod_two_pow]
      simp [show i - l < h + 1 - l by omega]
    · rw [if_neg below, if_neg (by omega), if_neg (by omega), Nat.testBit_div_two_pow]
      congr 1
      omega

/-- A word with a field replaced, bit by bit. -/
theorem getLsbD_wset (x : Word) (h l v i : Nat) (hl : l ≤ h) (hh : h < 64) :
    (wset x h l v).getLsbD i = if l ≤ i ∧ i ≤ h then v.testBit (i - l) else x.getLsbD i := by
  rw [wset, w64, BitVec.getLsbD_ofNat, testBit_setFld _ _ _ _ _ hl]
  by_cases inside : l ≤ i ∧ i ≤ h
  · simp [inside, show i < 64 by omega]
  · rw [if_neg inside, if_neg inside, BitVec.testBit_toNat]
    cases hx : x.getLsbD i with
    | false => simp
    | true => simp [BitVec.lt_of_getLsbD hx]

theorem testBit_wf (x : Word) (h l i : Nat) : (wf x h l).testBit i = (decide (i < h + 1 - l) && x.getLsbD (l + i)) := by
  rw [wf, fld, Nat.testBit_mod_two_pow, Nat.testBit_shiftRight, BitVec.testBit_toNat]

/-- A write that keeps field [h:l] as it was where `bad` holds of the new one: `m` covers the field, `r` the rest of what is written. -/
theorem fieldUnless_keep (bad : Nat → Bool) (h l n : Nat) (old v r m : Word) (hl : l ≤ h) (hh : h < 64) (hn : w64 n = r ||| m)
    (hm : ∀ i < 64, m.getLsbD i = decide (l ≤ i ∧ i ≤ h)) (hr : r &&& m = 0) :
    fieldUnless bad h l old (keep n v) = (v &&& r) ||| (if bad (wf v h l) then old &&& m else v &&& m) := by
  have apart (i : Nat) (hi : i < 64) (inside : l ≤ i ∧ i ≤ h) : r.getLsbD i = false := by
    have := congrArg (BitVec.getLsbD · i) hr
    simpa [hm i hi, inside] using this
  have field : wf (keep n v) h l = wf v h l := by
    refine Nat.eq_of_testBit_eq fun i => ?_
    rw [testBit_wf, testBit_wf, keep, hn]
    by_cases hi : i < h + 1 - l
    · simp [hi, hm (l + i) (by omega), show l + i ≤ h by omega]
    · simp [hi]
  rw [fieldUnless, field]
  split
  · refine BitVec.eq_of_getLsbD_eq fun i hi => ?_
    rw [getLsbD_wset _ h l _ i hl hh, testBit_wf, keep, hn]
    simp only [BitVec.getLsbD_and, BitVec.getLsbD_or, hm i hi]
    by_cases inside : l ≤ i ∧ i ≤ h
    · simp [inside, apart i hi inside, show i - l < h + 1 - l by omega, show l + (i - l) = i by omega]
    · simp [inside]
  · rw [keep, hn, BitVec.and_or_distrib_left]


/-- The fields that a VCFG holds, as a number (R148). -/
theorem keep_vcfg_toNat (v : Word) : (keep 0xFFFF00FC v).toNat = wf v 7 2 * 4 + wf v 31 16 * 2 ^ 16 := by
  have fields : wf v 7 2 * 4 + wf v 31 16 * 2 ^ 16 = setFld (setFld 0 7 2 (wf v 7 2)) 31 16 (wf v 31 16) := by
    have h1 : wf v 7 2 < 2 ^ 6 := Nat.mod_lt _ (by decide)
    have h2 : wf v 31 16 < 2 ^ 16 := Nat.mod_lt _ (by decide)
    simp only [setFld_eq _ 7 2 _ (by decide), setFld_eq _ 31 16 _ (by decide)]
    omega
  have mask : ∀ i < 64, (w64 0xFFFF00FC).getLsbD i = decide ((2 ≤ i ∧ i ≤ 7) ∨ (16 ≤ i ∧ i ≤ 31)) := by decide
  refine Nat.eq_of_testBit_eq fun i => ?_
  rw [fields, testBit_setFld _ _ _ _ _ (by decide), testBit_setFld _ _ _ _ _ (by decide), testBit_wf, testBit_wf, BitVec.testBit_toNat,
    keep, BitVec.getLsbD_and]
  by_cases hi : i < 64
  · rw [mask i hi]
    by_cases high : 16 ≤ i ∧ i ≤ 31
    · simp [high, show i - 16 < 31 + 1 - 16 by omega, show 16 + (i - 16) = i by omega]
    · by_cases low : 2 ≤ i ∧ i ≤ 7
      · simp [high, low, show i - 2 < 7 + 1 - 2 by omega, show 2 + (i - 2) = i by omega]
      · simp [high, low]
  · simp [BitVec.getLsbD_of_ge v i (by omega), show ¬(16 ≤ i ∧ i ≤ 31) by omega, show ¬(2 ≤ i ∧ i ≤ 7) by omega]

/-- The settings that VCFG refuses (R147). -/
theorem vcfgSupported_eq_false_iff (sew ft : Nat) : vcfgSupported sew ft = false ↔ 2 ≤ sew ∧ ft ≠ 0 ∨ sew < 2 ∧ 2 ≤ ft := by
  match sew with
  | 0 | 1 => simp [vcfgSupported]; omega
  | n + 2 => simp [vcfgSupported]

/-- A software write of VCFG: unsupported settings refused, VL cut to VLMAX (R148). -/
theorem vcfgWrite_eq (old v : Word) : vcfgWrite old v =
    if 2 ≤ wf v 5 4 ∧ wf v 3 2 ≠ 0 ∨ wf v 5 4 < 2 ∧ 2 ≤ wf v 3 2 then old
    else w64 (wf v 7 2 * 4 + Nat.min (wf v 31 16) (2048 * 2 ^ wf v 7 6 / (8 * 2 ^ wf v 5 4)) * 2 ^ 16) := by
  have kept := keep_vcfg_toNat v
  have vl_lt : wf v 31 16 < 2 ^ 16 := Nat.mod_lt _ (by decide)
  have field (h l : Nat) : wf v h l = v.toNat / 2 ^ l % 2 ^ (h + 1 - l) := by rw [wf, fld, Nat.shiftRight_eq_div_pow]
  have seen (h l : Nat) : wf (keep 0xFFFF00FC v) h l = (wf v 7 2 * 4 + wf v 31 16 * 2 ^ 16) / 2 ^ l % 2 ^ (h + 1 - l) := by
    rw [wf, fld, kept, Nat.shiftRight_eq_div_pow]
  have vl : wf (keep 0xFFFF00FC v) 31 16 = wf v 31 16 := by
    have := field 7 2
    rw [seen]
    omega
  have gf : wf (keep 0xFFFF00FC v) 7 6 = wf v 7 6 := by
    have := field 7 2
    rw [seen, field 7 6]
    omega
  have sew : wf (keep 0xFFFF00FC v) 5 4 = wf v 5 4 := by
    have := field 7 2
    rw [seen, field 5 4]
    omega
  have vlmax : vlmaxOf (keep 0xFFFF00FC v) = 2048 * 2 ^ wf v 7 6 / (8 * 2 ^ wf v 5 4) := by rw [vlmaxOf, gf, sew]
  have whole : keep 0xFFFF00FC v = w64 (wf v 7 2 * 4 + wf v 31 16 * 2 ^ 16) := by
    rw [← kept, w64, BitVec.ofNat_toNat, BitVec.setWidth_eq]
  unfold vcfgWrite
  simp only [Bool.not_eq_true', vcfgSupported_eq_false_iff, vlmax, vl]
  generalize 2048 * 2 ^ wf v 7 6 / (8 * 2 ^ wf v 5 4) = most
  split
  · rfl
  · split
    · next cut =>
      rw [Nat.min_eq_min, Nat.min_eq_right (Nat.le_of_lt cut), wset, setFld_eq _ _ _ _ (by decide), kept]
      congr 1
      have : wf v 7 2 < 2 ^ 6 := Nat.mod_lt _ (by decide)
      omega
    · next fits => rw [Nat.min_eq_min, Nat.min_eq_left (Nat.le_of_not_lt fits), whole]

/-- A software write of FCTL (R35). -/
theorem fctlWrite_eq (old v clr : Word) : fctlWrite old v clr =
    (v &&& 0x800) ||| (if 4 ≤ wf v 10 8 then old &&& 0x700 else v &&& 0x700) ||| (old &&& 0x1F &&& ~~~clr) := by
  rw [fctlWrite, fieldUnless_keep _ 10 8 0xF00 old v 0x800 0x700 (by decide) (by decide) (by decide) (by decide) (by decide)]
  simp only [decide_eq_true_eq]
  rfl

/-- A software write of LCNT (R135). -/
theorem lcntWrite_eq (old v : Word) : lcntWrite old v =
    (v &&& 0xFFFFFFFF) ||| (if wf v 33 32 = 2 then old &&& 0x300000000 else v &&& 0x300000000) := by
  rw [lcntWrite, fieldUnless_keep _ 33 32 _ old v 0xFFFFFFFF 0x300000000 (by decide) (by decide) (by decide) (by decide) (by decide)]
  simp only [decide_eq_true_eq]

/-- A software write of a saved STAT (R177). -/
theorem savstWrite_eq (old v : Word) : savstWrite old v =
    (v &&& 0xFFFF0000C000) ||| (if wf v 1 0 = 2 then old &&& 3 else v &&& 3) := by
  rw [savstWrite, fieldUnless_keep _ 1 0 _ old v 0xFFFF0000C000 3 (by decide) (by decide) (by decide) (by decide) (by decide)]
  simp only [decide_eq_true_eq]

/-- A software write of CAUSE (R179). -/
theorem causeWrite_eq (old v : Word) : causeWrite old v =
    (v &&& 0xE000FFFF0000FFFF) ||| (if wf v 57 56 = 2 then old &&& 0x300000000000000 else v &&& 0x300000000000000) := by
  rw [causeWrite, fieldUnless_keep _ 57 56 _ old v 0xE000FFFF0000FFFF 0x300000000000000 (by decide) (by decide) (by decide) (by decide)
    (by decide)]
  simp only [decide_eq_true_eq]

/-! ### The statement -/

/-- A write of a system register of the core alone. -/
theorem State.sysWrite_core_of_mod {s t : State} {c : Nat} (f : Core → Core) (h : t = s.modCore c f) : t.core c = f (s.core c) := by
  rw [h, State.modCore_eq, State.setCore_core_same]

/-- Settles O60: results take effect one after another, so the last one for a register stands; a write of a system register is that of
its fields. -/
theorem resultsTakeEffect : Obligations.ResultsTakeEffect := by
  unfold Obligations.ResultsTakeEffect
  intro s c a
  refine ⟨s.landAll_sreg c a, s.landAll_pend c a, ?_⟩
  intro v clr lvl at_ k now
  have written (sr : Nat) (f : Core → Core) (h : s.sysWrite c sr v clr lvl at_ = s.modCore c f) : now sr = f k :=
    State.sysWrite_core_of_mod f h
  refine ⟨?tprog, ?lbeg, ?lend, ?lcnt, ?vcfg, ?fctl, ?stat, ?atb, ?tlb, ?asid, fun m => ?saved⟩
  case tprog => rw [written 4 (fun q => { q with tprog := keep 0xFC1F v }) rfl]; rfl
  case lbeg => rw [written 9 (fun q => { q with lbeg := keep maskAddr v }) rfl]; rfl
  case lend => rw [written 10 (fun q => { q with lend := keep maskAddr v }) rfl]; rfl
  case lcnt => rw [written 8 (fun q => { q with lcnt := lcntWrite q.lcnt v }) rfl]; exact lcntWrite_eq _ _
  case vcfg => rw [written 2 (fun q => { q with vcfg := vcfgWrite q.vcfg v }) rfl]; exact vcfgWrite_eq _ _
  case fctl => rw [written 3 (fun q => { q with fctl := fctlWrite q.fctl v clr }) rfl]; exact fctlWrite_eq _ _ _
  case stat => rw [written 0x100 (fun q => { q with stat := statWrite q.stat v clr lvl }) rfl]; rfl
  case atb => rw [written 0x180 (fun q => { q with atb := keep maskAtb v, tlb := [] }) rfl]; rfl
  case tlb => rw [written 0x180 (fun q => { q with atb := keep maskAtb v, tlb := [] }) rfl]
  case asid => rw [written 0x181 (fun q => { q with asid := keep 0xFFFF v }) rfl]; rfl
  case saved =>
    intro set is
    have reg (n : Nat) (f : SaveSet → SaveSet) (h : s.sysWrite c (n + if m then 0x100 else 0) v clr lvl at_ =
        s.modCore c (fun q => if m then { q with saveM := f q.saveM } else { q with saveS := f q.saveS })) : is n = f (set k) := by
      dsimp only [is]
      rw [written _ _ h]
      cases m <;> rfl
    refine ⟨?pc, ?st, ?cause, ?faultv, ?aux, ?ivec, ?scratch⟩
    case pc => rw [reg 0x101 (fun x => { x with pc := keep maskAddr v }) (by cases m <;> rfl)]; rfl
    case st => rw [reg 0x102 (fun x => { x with st := savstWrite x.st v }) (by cases m <;> rfl)]; exact savstWrite_eq _ _
    case cause => rw [reg 0x103 (fun x => { x with cause := causeWrite x.cause v }) (by cases m <;> rfl)]; exact causeWrite_eq _ _
    case faultv => rw [reg 0x104 (fun x => { x with faultv := v }) (by cases m <;> rfl)]
    case aux => rw [reg 0x105 (fun x => { x with aux := v }) (by cases m <;> rfl)]
    case ivec => rw [reg 0x106 (fun x => { x with ivec := keep maskIvec v }) (by cases m <;> rfl)]; rfl
    case scratch => rw [reg 0x107 (fun x => { x with scratch := v }) (by cases m <;> rfl)]

end Sys2Proof.Machine
end

section
/-! SUPPORT. A vector instruction that issues: its core goes past it with what the operation writes, its flags and its result, and its lanes
are the elements in order. -/

namespace Sys2Proof.Machine

/-! ### Completion of a vector instruction -/

theorem State.atIssue_active (s : State) (c b : Nat) : ((s.atIssue c).core c).active b = (s.core c).active b := by
  have frozen : ((s.atIssue c).core c).fcnt = (s.core c).fcnt := by
    rw [State.atIssue, State.modCore_eq, State.setCore_core_same, (Core.ChangesPalette.canvasTo _ _).fcnt, State.landAll_fcnt]
    rfl
  rw [Core.active, Core.active, frozen]

theorem Core.result_eq_withResult (k : Core) (a d : Nat) (r : Reg) (v : Word) : k.result a d r v = k.withResult a d r v := by
  unfold Core.result Core.withResult
  split <;> rfl

/-- Flags that a vector instruction raises leave its core's last palette access. -/
theorem Core.raiseFlags_vlast (k : Core) (a n : Nat) (fl : FF) : (k.raiseFlags a n fl).vlast = k.vlast := by
  unfold Core.raiseFlags
  split <;> rfl

/-- The core with the final step, the last palette access and the last line of a vector instruction. -/
def Core.collected (k : Core) (final access : Nat) (line : Option Nat) : Core :=
  { k with vfinal := final, vlast := access, vfinalLine := line }

/-- The core with the scalar result of a vector instruction in flight, if it has one. -/
def Core.withScalar (k : Core) (a d : Nat) (r : Reg) : Option Word → Core
  | some w => k.result a d r w
  | none => k

theorem Core.withScalar_vlast (k : Core) (a d : Nat) (r : Reg) (o : Option Word) : (k.withScalar a d r o).vlast = k.vlast := by
  cases o with
  | none => rfl
  | some w => rw [Core.withScalar, Core.result_eq_withResult]; rfl

/-- A core past a vector instruction: flags, scalar result, collectors, sequence (R160, R163). -/
theorem Core.vecPast_eq (k q : Core) (a b : Nat) (f : VF) (sh : VShape) (fl : FF) (rd : Option Word) :
    let n := sh.cls.beats k.vc.g sh.src sh.dst (if oddFrom b = k.vfinal then k.vfinalLine else none)
    let line := sh.cls.write k.vc.g sh.dst (sh.cls.steps k.vc.g)
    k.vecPast q a b f sh fl rd =
      (((q.raiseFlags a n fl).withScalar a (if sh.cls = VClass.maskOnly then 6 else 4 + 2 * n) f.vd rd).collected (oddFrom b + 2 * n)
        (lastAccess k.vlast sh (oddFrom b + 2 * n) line) line).past b := by
  intro n line
  have value : fl.zeroExtend 64 = w64 fl.toNat := BitVec.eq_of_toNat_eq (by simp [w64])
  rw [Core.raiseFlags, value]
  cases rd with
  | none => rfl
  | some w => rw [Core.withScalar, Core.result_eq_withResult]; rfl

/-- A vector instruction that issues does what its operation says and passes on in sequence. -/
theorem issueOut_vecBody {s : State} {c : CoreId} {i : Instr} {major func : Nat} {f : VF} {cfg : VCfg → Bool} {shape : VCfg → VShape}
    {run : Core → VCfg → VOut} (ht : isTransfer i = false) (hc : isControl i = false) {k : Core} (hk : k = (s.atIssue c).core c)
    (h : s.vecIssues c i major func f (cfg k.vc) (shape k.vc)) (hv : (run k k.vc).core.vlast = k.vlast) :
    issueOut s c i (vecBody c i major func f cfg shape run) = .next ((s.atIssue c).setCore c
      (k.vecPast (run k k.vc).core (s.issueActive c) (s.issueBeat c) f (shape k.vc) (run k k.vc).flags (run k k.vc).rd)) := by
  subst hk
  obtain ⟨hi, ridge, fields, hcfg, hshape, begins⟩ := h
  have onRidge : isBoot c = false := decide_eq_false (Nat.not_le.2 ridge)
  have legal : (isBoot c || !vecFieldsLegal major func f || !cfg ((s.atIssue c).core c).vc || !(shape ((s.atIssue c).core c).vc).ok) = false := by
    simp [onRidge, fields, hcfg, hshape]
  generalize ho : run ((s.atIssue c).core c) ((s.atIssue c).core c).vc = o at hv
  have access (a n d : Nat) : ((o.core.raiseFlags a n o.flags).withScalar a d f.vd o.rd).vlast = ((s.atIssue c).core c).vlast := by
    rw [Core.withScalar_vlast, Core.raiseFlags_vlast, hv]
  rw [issueOut, State.issue_of_issues _ hi, Core.vecPast_eq, ← access]
  simp only [vecBody, legal, Bool.false_eq_true, if_false, if_neg (Nat.not_lt.2 begins), State.finish_seq ht hc, State.modCore_eq,
    State.setCore_core_same, State.setCore_setCore, State.atIssue_active, ho]
  rfl

/-! ### Lanes -/

/-- Lane by lane, lists that are too short giving zeros (R153). -/
theorem lanes_eq (op : Nat → Nat → Nat → Nat × FF) (keepD : Bool) (acts : List Bool) (as bs ds : List Nat) :
    lanes op keepD acts as bs ds = (List.range acts.length).map (fun j =>
      if acts.getD j false then op (as.getD j 0) (bs.getD j 0) (ds.getD j 0) else (if keepD then ds.getD j 0 else 0, 0)) := by
  have head (xs : List Nat) : xs.headD 0 = xs.getD 0 0 := by cases xs <;> rfl
  have tail (xs : List Nat) (j : Nat) : xs.tail.getD j 0 = xs.getD (j + 1) 0 := by cases xs <;> rfl
  induction acts generalizing as bs ds with
  | nil => rfl
  | cons act acts ih =>
    rw [lanes, ih, List.length_cons, List.range_succ_eq_map, List.map_cons, List.map_map]
    simp only [head, tail, List.getD_cons_zero]
    rfl

/-- The flags of the lanes are those that the active elements raise. -/
theorem orFlags_map (n : Nat) (act : Nat → Bool) (fl : Nat → FF) :
    orFlags ((List.range n).map (fun j => if act j then fl j else 0)) =
      ((List.range n).filter act).foldl (fun acc i => acc ||| fl i) 0 := by
  rw [orFlags, List.foldl_map, List.foldl_filter]
  congr 1
  funext acc i
  split
  · rfl
  · exact BitVec.or_zero

theorem elems_length (k : Core) (reg h sew n : Nat) : (k.elems reg h sew n).length = n := by
  rw [Core.elems, List.length_map, List.length_range]

/-- The element widths and VLMAX of a configuration (R146, R148). -/
theorem Core.vc_bounds (k : Core) : (k.vc.sew = 8 ∨ k.vc.sew = 16 ∨ k.vc.sew = 32 ∨ k.vc.sew = 64) ∧ k.vc.vlmax ≤ 2048 := by
  have hg : wf k.vcfg 7 6 < 4 := Nat.mod_lt _ (by decide)
  have hs : wf k.vcfg 5 4 < 4 := Nat.mod_lt _ (by decide)
  rw [Core.vc, vlmaxOf]
  dsimp only
  interval_cases wf k.vcfg 5 4 <;> interval_cases wf k.vcfg 7 6 <;> decide

/-- An element is a number of its width. -/
theorem elems_getD_lt (k : Core) (reg h n j : Nat) {sew : Nat} (hs : 0 < sew) : (k.elems reg h sew n).getD j 0 < 2 ^ sew := by
  rcases Nat.lt_or_ge j n with hj | hj
  · rw [List.getD_eq_getElem _ _ (by rwa [elems_length])]
    simp only [Core.elems, List.getElem_map, unpackAt, fld]
    refine lt_of_lt_of_le (Nat.mod_lt _ (Nat.two_pow_pos _)) (Nat.pow_le_pow_right (by decide) ?_)
    omega
  · rw [List.getD_eq_default _ _ (by rwa [elems_length])]
    exact Nat.two_pow_pos _

/-- The second source, element by element (R155). -/
theorem srcB_getD (k : Core) (f : VF) {j : Nat} (hj : j < k.vc.vlmax) : (srcB k k.vc f).getD j 0 = secondSource k f j := by
  unfold srcB secondSource
  split
  · rw [List.getD_eq_getElem _ _ (by simpa using hj), List.getElem_replicate]
  · rfl

theorem secondSource_lt (k : Core) (f : VF) (j : Nat) : secondSource k f j < 2 ^ k.vc.sew := by
  unfold secondSource
  split
  · exact Nat.mod_lt _ (Nat.two_pow_pos _)
  · exact elems_getD_lt _ _ _ _ _ (by rcases k.vc_bounds.1 with h | h | h | h <;> omega)

theorem actives_getD (k : Core) (f : VF) {j : Nat} (hj : j < k.vc.vlmax) :
    (actives k k.vc f).getD j false = k.isActive k.vc.vl f.km.toNat j := by
  rw [actives, List.getD_eq_getElem _ _ (by simpa using hj), List.getElem_map, List.getElem_range]

/-- The lanes of an instruction over its elements: `out` is what an active element gets, `keep` what an inactive one keeps. -/
theorem lanes_actives (k : Core) (f : VF) (op : Nat → Nat → Nat → Nat × FF) (keepD : Bool) (as bs ds : List Nat) (out : Nat → Nat × FF)
    (h : ∀ j < k.vc.vlmax, op (as.getD j 0) (bs.getD j 0) (ds.getD j 0) = out j) :
    let rs := lanes op keepD (actives k k.vc f) as bs ds
    rs.map (·.1) = (List.range k.vc.vlmax).map (fun j =>
        if k.isActive k.vc.vl f.km.toNat j then (out j).1 else if keepD then ds.getD j 0 else 0)
      ∧ orFlags (rs.map (·.2)) = flagsOf k f (fun j => (out j).2) := by
  have lane : lanes op keepD (actives k k.vc f) as bs ds = (List.range k.vc.vlmax).map (fun j =>
      if k.isActive k.vc.vl f.km.toNat j then out j else (if keepD then ds.getD j 0 else 0, 0)) := by
    rw [lanes_eq, actives, List.length_map, List.length_range]
    refine List.map_congr_left fun j hj => ?_
    rw [← actives, actives_getD k f (List.mem_range.1 hj), h j (List.mem_range.1 hj)]
  dsimp only
  rw [lane, List.map_map, List.map_map, flagsOf, ← orFlags_map]
  constructor
  · refine List.map_congr_left fun j _ => ?_
    dsimp only [Function.comp]
    split <;> rfl
  · congr 1
    refine List.map_congr_left fun j _ => ?_
    dsimp only [Function.comp]
    split <;> rfl

/-! ### What a vector instruction writes leaves the record of the last palette access -/

theorem Core.setLine_vlast (k : Core) (key : Nat) (v : Line) : (k.setLine key v).vlast = k.vlast := rfl

theorem Core.setElems_vlast (k : Core) (reg h sew : Nat) (els : List Nat) : (k.setElems reg h sew els).vlast = k.vlast := by
  have kept := Core.ChangesPalette.foldl (f := fun k' i => k'.setLine (groupKey reg h i)
    (BitVec.ofNat 512 (packAll sew ((els.drop (i * (512 / sew))).take (512 / sew))))) (fun q i => .setLine q _ _) (List.range (4 * h)) k
  rw [Core.setElems, kept]

theorem Core.setVreg_vlast (k : Core) (n v : Nat) : (k.setVreg n v).vlast = k.vlast := by
  have kept := Core.ChangesPalette.foldl (f := fun k' i => k'.setLine (vregKey n i) (BitVec.ofNat 512 (v >>> (512 * i))))
    (fun q i => .setLine q _ _) (List.range 4) k
  rw [Core.setVreg, kept]

end Sys2Proof.Machine
end

section
/-! SUPPORT. Integer elements and bit counts: the model's arithmetic on numbers of `n` bits is that of signed and unsigned elements. -/

namespace Sys2Proof.Machine

/-! ### Signed elements -/

theorem bitAt_eq_testBit (x n : Nat) : bitAt x n = x.testBit n := by
  rw [bitAt, Nat.testBit_eq_decide_div_mod_eq, Nat.shiftRight_eq_div_pow]
  rfl

theorem sint_eq_sgn {n : Nat} (hn : 0 < n) (x : Nat) : sint n x = sgn n x := by
  have small : x % 2 ^ n < 2 ^ n := Nat.mod_lt _ (Nat.two_pow_pos n)
  have double : 2 ^ (n - 1) * 2 = 2 ^ n := Nat.two_pow_pred_mul_two hn
  have top : bitAt (x % 2 ^ n) (n - 1) = decide (2 ^ n ≤ 2 * (x % 2 ^ n)) := by
    rw [bitAt_eq_testBit, Bool.eq_iff_iff, decide_eq_true_iff, Nat.testBit_eq_decide_div_mod_eq, decide_eq_true_iff]
    constructor
    · intro h
      by_contra hlt
      rw [Nat.div_eq_of_lt (by omega)] at h
      simp at h
    · intro h
      rw [Nat.div_eq_of_lt_le (k := 1) (by omega) (by omega)]
  rw [sint, sgn, BitVec.toInt_eq_toNat_cond, BitVec.toNat_ofNat, top]
  by_cases h : 2 * (x % 2 ^ n) < 2 ^ n
  · rw [if_pos h, if_neg (by simpa using h)]
  · rw [if_neg h, if_pos (by simpa using h)]

theorem ofSint_eq_bitsOf (n : Nat) (i : Int) : ofSint n i = bitsOf n i := by rw [ofSint, bitsOf, BitVec.toNat_ofInt]

/-- An element is the bits of its signed value. -/
theorem bitsOf_sgn {n a : Nat} (ha : a < 2 ^ n) : bitsOf n (sgn n a) = a := by
  rw [bitsOf, sgn, BitVec.ofInt_toInt, BitVec.toNat_ofNat, Nat.mod_eq_of_lt ha]

theorem bitsOf_add (n a b : Nat) : bitsOf n (sgn n a + sgn n b) = (a + b) % 2 ^ n := by
  rw [bitsOf, sgn, sgn, BitVec.ofInt_add, BitVec.ofInt_toInt, BitVec.ofInt_toInt, ← BitVec.ofNat_add, BitVec.toNat_ofNat]

theorem bitsOf_sub {n b : Nat} (a : Nat) (hb : b < 2 ^ n) : bitsOf n (sgn n a - sgn n b) = vSub n a b := by
  rw [bitsOf, sgn, sgn, sub_eq_add_neg, BitVec.ofInt_add, BitVec.ofInt_neg, BitVec.ofInt_toInt, BitVec.ofInt_toInt,
    ← BitVec.sub_eq_add_neg, BitVec.toNat_sub, BitVec.toNat_ofNat, BitVec.toNat_ofNat, Nat.mod_eq_of_lt hb, vSub, Nat.add_mod_mod]
  congr 1
  omega

theorem bitsOf_mul (n a b : Nat) : bitsOf n (sgn n a * sgn n b) = a * b % 2 ^ n := by
  rw [bitsOf, sgn, sgn, BitVec.ofInt_mul, BitVec.ofInt_toInt, BitVec.ofInt_toInt, ← BitVec.ofNat_mul, BitVec.toNat_ofNat]

theorem bitsOf_natCast (n m : Nat) : bitsOf n m = m % 2 ^ n := by
  rw [bitsOf, BitVec.ofInt_natCast, BitVec.toNat_ofNat]

/-- The lesser of two elements, chosen by their signed values. -/
theorem bitsOf_min {n a b : Nat} (hn : 0 < n) (ha : a < 2 ^ n) (hb : b < 2 ^ n) :
    bitsOf n (if sgn n a ≤ sgn n b then sgn n a else sgn n b) = vMinS n a b := by
  rw [vMinS, sint_eq_sgn hn, sint_eq_sgn hn]
  rcases lt_trichotomy (sgn n a) (sgn n b) with h | h | h
  · rw [if_pos h.le, if_pos h, bitsOf_sgn ha]
  · rw [if_pos h.le, if_neg h.not_lt, h, bitsOf_sgn hb]
  · rw [if_neg h.not_ge, if_neg h.le.not_gt, bitsOf_sgn hb]

theorem bitsOf_max {n a b : Nat} (hn : 0 < n) (ha : a < 2 ^ n) (hb : b < 2 ^ n) :
    bitsOf n (if sgn n a ≤ sgn n b then sgn n b else sgn n a) = vMaxS n a b := by
  rw [vMaxS, sint_eq_sgn hn, sint_eq_sgn hn]
  rcases lt_trichotomy (sgn n a) (sgn n b) with h | h | h
  · rw [if_pos h.le, if_pos h, bitsOf_sgn hb]
  · rw [if_pos h.le, if_neg h.not_lt, ← h, bitsOf_sgn ha]
  · rw [if_neg h.not_ge, if_neg h.le.not_gt, bitsOf_sgn ha]

/-- VDOT4's sum, saturated once (R157). -/
theorem dot4_eq (a b d : Nat) : dot4 a b d =
    let sum : Int := sgn 32 d + ((List.range 4).map (fun j => sgn 8 (a / 2 ^ (8 * j) % 256) * sgn 8 (b / 2 ^ (8 * j) % 256))).sum
    bitsOf 32 (if sum < -2 ^ 31 then -2 ^ 31 else if 2 ^ 31 ≤ sum then 2 ^ 31 - 1 else sum) := by
  have byte (x j : Nat) : byteOf x j = x / 2 ^ (8 * j) % 256 := by
    rw [byteOf, fld, Nat.shiftRight_eq_div_pow, show 8 * j + 7 + 1 - 8 * j = 8 by omega]
    rfl
  simp only [dot4, sat32, ofSint_eq_bitsOf, sint_eq_sgn (n := 32) (by decide), sint_eq_sgn (n := 8) (by decide), byte,
    ← List.sum_eq_foldl, Int.sub_one_lt_iff]

/-! ### Bits that are 1 -/

theorem onesIn_succ (n x : Nat) : onesIn (n + 1) x = (if x.testBit 0 then [0] else []) ++ (onesIn n (x / 2)).map (· + 1) := by
  rw [onesIn, List.range_succ_eq_map, List.filter_cons, List.filter_map, onesIn]
  have rest : (fun i => x.testBit i) ∘ Nat.succ = fun i => (x / 2).testBit i := by
    funext i
    exact Nat.testBit_succ x i
  rw [rest]
  split <;> rfl

theorem onesIn_succ_top (n x : Nat) : onesIn (n + 1) x = onesIn n x ++ (if x.testBit n then [n] else []) := by
  rw [onesIn, List.range_succ, List.filter_append, onesIn, List.filter_singleton,
    Bool.cond_eq_ite]

theorem mem_onesIn {n x i : Nat} : i ∈ onesIn n x ↔ i < n ∧ x.testBit i = true := by
  rw [onesIn, List.mem_filter, List.mem_range]

theorem popN_eq (n x : Nat) : popN n x = (onesIn n x).length := by
  induction n generalizing x with
  | zero => rfl
  | succ n ih =>
    rw [popN, ih, onesIn_succ, List.length_append, List.length_map]
    congr 1
    rw [Nat.testBit_zero]
    rcases Nat.mod_two_eq_zero_or_one x with h | h <;> simp [h]

theorem revN_eq (n x : Nat) : revN n x = ((onesIn n x).map (fun i => 2 ^ (n - 1 - i))).sum := by
  induction n generalizing x with
  | zero => rfl
  | succ n ih =>
    rw [revN, ih, onesIn_succ, List.map_append, List.sum_append, List.map_map]
    congr 1
    · rw [Nat.testBit_zero]
      rcases Nat.mod_two_eq_zero_or_one x with h | h <;> simp [h]
    · congr 1
      refine List.map_congr_left fun i _ => ?_
      dsimp only [Function.comp]
      congr 1
      omega

theorem clzN_eq (n x : Nat) : clzN n x = match (onesIn n x).getLast? with
    | some i => n - 1 - i
    | none => n := by
  induction n generalizing x with
  | zero => rfl
  | succ n ih =>
    rw [clzN, ih, onesIn_succ_top, bitAt_eq_testBit]
    by_cases h : x.testBit n = true
    · simp [h]
    · have below (i : Nat) (hi : (onesIn n x).getLast? = some i) : i < n := (mem_onesIn.1 (List.mem_of_getLast? hi)).1
      simp only [h, Bool.false_eq_true, if_false, List.append_nil]
      cases hl : (onesIn n x).getLast? with
      | none => exact Nat.add_comm 1 n
      | some i =>
        have := below i hl
        change 1 + (n - 1 - i) = n + 1 - 1 - i
        omega

/-- A CRC step for each bit, bit 0 first. -/
theorem crcBits_eq (poly n c d : Nat) : crcBits poly n c d = crcRule poly n c d := by
  induction n generalizing c d with
  | zero => rfl
  | succ n ih =>
    have step : (if (c ^^^ d) % 2 == 1 then c / 2 ^^^ poly else c / 2) = c / 2 ^^^ (if (c.testBit 0 ^^ d.testBit 0) then poly else 0) := by
      have bit : ((c ^^^ d) % 2 == 1) = (c.testBit 0 ^^ d.testBit 0) := by
        rw [← Nat.testBit_xor, Nat.testBit_zero]
        rfl
      rw [bit]
      split
      · rfl
      · rw [Nat.xor_zero]
    rw [crcBits, ih, step, crcRule, crcRule, List.range_succ_eq_map, List.foldl_cons, List.foldl_map]
    simp only [Nat.succ_eq_add_one, Nat.testBit_succ]

end Sys2Proof.Machine
end

section
/-! O10: the lane operations. -/

namespace Sys2Proof.Machine

/-- An element of an operand with the group and width of the configuration. -/
def Core.el (k : Core) (reg : Reg) (j : Nat) : Nat := (k.elems reg.toNat k.vc.g k.vc.sew k.vc.vlmax).getD j 0

theorem Core.el_lt (k : Core) (reg : Reg) (j : Nat) : k.el reg j < 2 ^ k.vc.sew :=
  elems_getD_lt _ _ _ _ _ (by rcases k.vc_bounds.1 with h | h | h | h <;> omega)

theorem Core.sew_pos (k : Core) : 0 < k.vc.sew := by rcases k.vc_bounds.1 with h | h | h | h <;> omega

/-- What element `j` of a lane instruction's destination gets if it is active, and the flags it raises. -/
def LaneRule.out (r : LaneRule) (k : Core) (j : Nat) : Nat × FF :=
  r.op k k.vc.sew (k.el r.f.vs1 j) (if r.one then 0 else secondSource k r.f j) (if r.reads then k.el r.f.vd j else 0)

/-- The core with the destination group of a lane instruction written. -/
def LaneRule.written (r : LaneRule) (k : Core) : Core :=
  k.setElems r.f.vd.toNat k.vc.g k.vc.sew ((List.range k.vc.vlmax).map (fun j =>
    if k.isActive k.vc.vl r.f.km.toNat j then (r.out k j).1 else if r.reads then k.el r.f.vd j else 0))

/-- Instruction `i` is carried out as rule `r` says. -/
def LaneRule.completes (r : LaneRule) (i : Instr) : Prop :=
  ∀ s : State, let k := (s.atIssue r.core).core r.core
    s.vecIssues r.core i r.major r.func r.f (r.cfg k.vc) (r.shape k.vc) →
    exec i s = .next ((s.atIssue r.core).setCore r.core
      (k.vecPast (r.written k) (s.issueActive r.core) (s.issueBeat r.core) r.f (r.shape k.vc) (flagsOf k r.f (fun j => (r.out k j).2)) none))

/-- A lane operation that agrees with the rule on elements of its width. -/
theorem LaneRule.completes_of_laneRun {r : LaneRule} {i : Instr} {shape : VCfg → VShape} {op : Core → VCfg → Nat → Nat → Nat → Nat × FF}
    (hexec : ∀ s, exec i s = issueOut s r.core i (vecBody r.core i r.major r.func r.f r.cfg shape (laneRun r.f r.one r.reads op)))
    (ht : isTransfer i = false) (hc : isControl i = false) (hshape : ∀ v, shape v = r.shape v)
    (hop : ∀ (k : Core) (a b d : Nat), a < 2 ^ k.vc.sew → b < 2 ^ k.vc.sew → d < 2 ^ k.vc.sew → r.cfg k.vc = true →
      op k k.vc a b d = r.op k k.vc.sew a b d) : r.completes i := by
  intro s k h
  have hcfg : r.cfg k.vc = true := h.2.2.2.1
  have second (j : Nat) (hj : j < k.vc.vlmax) :
      (if r.one then [] else srcB k k.vc r.f).getD j 0 = if r.one then 0 else secondSource k r.f j := by
    split
    · rfl
    · exact srcB_getD k r.f hj
  have third (j : Nat) : (if r.reads then k.elems r.f.vd.toNat k.vc.g k.vc.sew k.vc.vlmax else []).getD j 0 =
      if r.reads then k.el r.f.vd j else 0 := by
    split <;> rfl
  have lane (j : Nat) (hj : j < k.vc.vlmax) : op k k.vc ((k.elems r.f.vs1.toNat k.vc.g k.vc.sew k.vc.vlmax).getD j 0)
      ((if r.one then [] else srcB k k.vc r.f).getD j 0)
      ((if r.reads then k.elems r.f.vd.toNat k.vc.g k.vc.sew k.vc.vlmax else []).getD j 0) = r.out k j := by
    rw [second j hj, third j]
    refine hop k _ _ _ (k.el_lt _ j) ?_ ?_ hcfg
    · split
      · exact Nat.two_pow_pos _
      · exact secondSource_lt k r.f j
    · split
      · exact k.el_lt _ j
      · exact Nat.two_pow_pos _
  obtain ⟨values, flags⟩ := lanes_actives k r.f (op k k.vc) r.reads _ _ _ (r.out k) lane
  have kept (j : Nat) : (if r.reads then (if r.reads then k.elems r.f.vd.toNat k.vc.g k.vc.sew k.vc.vlmax else []).getD j 0 else 0) =
      if r.reads then k.el r.f.vd j else 0 := by
    rw [third]
    split <;> rfl
  rw [← hshape] at h ⊢
  rw [hexec, issueOut_vecBody ht hc rfl h (Core.setElems_vlast _ _ _ _ _)]
  simp only [laneRun]
  rw [values, flags]
  simp only [kept]
  rfl

theorem threeShape_eq (f : VF) (v : VCfg) : threeShape f v =
    { cls := if f.x then .basic else .three, apart := false
      src := (f.vs1.toNat, v.g) :: ((if f.x then [] else [(f.vs2.toNat, v.g)]) ++ [(f.vd.toNat, v.g)]), dst := [(f.vd.toNat, v.g)] } := by
  unfold threeShape basicShape
  cases f.x <;> rfl

/-- Settles O10: each lane instruction is its operation over the lanes, and each operation is its rule's on elements of the width. -/
theorem laneInstructionsComplete : Obligations.LaneInstructionsComplete := by
  unfold Obligations.LaneInstructionsComplete
  intro s i r hr
  suffices h : r.completes i from h s
  cases i <;> cases hr
  case vmv | vand | vor | vxor | vmulhu | vsrl => exact LaneRule.completes_of_laneRun (fun _ => rfl) rfl rfl (fun _ => rfl) fun _ _ _ _ _ _ _ _ => rfl
  case vfadd | vfsub | vfmul | vfdiv | vfsqrt | vfmin | vfmax | vfsgnj | vfsgnjn | vfsgnjx | vcvtI32F32 | vcvtF32I32 =>
    exact LaneRule.completes_of_laneRun (fun _ => rfl) rfl rfl (fun _ => rfl) fun _ _ _ _ _ _ _ _ => rfl
  case vfma | vfdot4E4m3 | vfdot4E5m2 | vfdot2Bf16 | vfdot2Fp16 =>
    exact LaneRule.completes_of_laneRun (fun _ => rfl) rfl rfl (threeShape_eq _) fun _ _ _ _ _ _ _ _ => rfl
  case vdot4 =>
    exact LaneRule.completes_of_laneRun (fun _ => rfl) rfl rfl (threeShape_eq _) fun _ a b d _ _ _ _ => congrArg (·, 0) (dot4_eq a b d)
  all_goals refine LaneRule.completes_of_laneRun (fun _ => rfl) rfl rfl (fun _ => rfl) fun k a b d ha hb _ hcfg => congrArg (·, 0) ?_
  case vadd => exact (bitsOf_add _ _ _).symm
  case vsub => exact (bitsOf_sub _ hb).symm
  case vmul => exact (bitsOf_mul _ _ _).symm
  case vmulh =>
    dsimp only [vMulhS]
    rw [ofSint_eq_bitsOf, sint_eq_sgn k.sew_pos, sint_eq_sgn k.sew_pos]
    push_cast
    rfl
  case vsll => exact (bitsOf_natCast _ _).symm
  case vsra =>
    dsimp only [vSra]
    rw [ofSint_eq_bitsOf, sint_eq_sgn k.sew_pos]
    push_cast
    rfl
  case vmin => exact (bitsOf_min k.sew_pos ha hb).symm
  case vmax => exact (bitsOf_max k.sew_pos ha hb).symm
  case vminu =>
    dsimp only
    split_ifs <;> omega
  case vmaxu =>
    dsimp only
    split_ifs <;> omega
  case vcrc32c | vcrc64 =>
    have sew : k.vc.sew = _ := of_decide_eq_true hcfg
    rw [sew]
    exact crcBits_eq _ _ _ _
  case vparity => exact congrArg (· % 2) (popN_eq _ _)
  case vbrev => exact revN_eq _ _
  case vpopc => exact popN_eq _ _
  case vclz => exact clzN_eq _ _

end Sys2Proof.Machine
end

section
/-! O11: the widening operations and the conversions. -/

namespace Sys2Proof.Machine

/-- What element `j` of a widening instruction's or a conversion's destination gets if it is active, and the flags it raises. -/
def ConvRule.out (r : ConvRule) (k : Core) (j : Nat) : Nat × FF :=
  r.op ((k.elems r.f.vs1.toNat r.sg r.sw k.vc.vlmax).getD j 0) (if r.one then 0 else secondSource k r.f j)

/-- The core with the destination group of a widening instruction or a conversion written. -/
def ConvRule.written (r : ConvRule) (k : Core) : Core :=
  k.setElems r.f.vd.toNat r.dg r.dw ((List.range k.vc.vlmax).map (fun j =>
    if k.isActive k.vc.vl r.f.km.toNat j then (r.out k j).1 else 0))

/-- Instruction `i` of core `c` is carried out at state `s` as rule `r` says. -/
def ConvRule.completes (r : ConvRule) (c : CoreId) (i : Instr) (s : State) : Prop :=
  let k := (s.atIssue c).core c
  s.vecIssues c i r.major r.func r.f r.cfg (r.shape k.vc) →
  exec i s = .next ((s.atIssue c).setCore c
    (k.vecPast (r.written k) (s.issueActive c) (s.issueBeat c) r.f (r.shape k.vc) (flagsOf k r.f (fun j => (r.out k j).2)) none))

/-- Lanes over a source group of a width of its own, into a destination group of another. -/
def convRun (r : ConvRule) (op : Nat → Nat → Nat × FF) (k : Core) : VOut :=
  let rs := lanes (fun a b _ => op a b) false (actives k k.vc r.f) (k.elems r.f.vs1.toNat r.sg r.sw k.vc.vlmax)
    (if r.one then [] else srcB k k.vc r.f) []
  { core := k.setElems r.f.vd.toNat r.dg r.dw (rs.map (·.1)), flags := orFlags (rs.map (·.2)) }

/-- An operation that agrees with the rule on elements of the sources' widths. -/
theorem ConvRule.completes_of_run {s : State} {c : CoreId} {r : ConvRule} {i : Instr} {cfg : VCfg → Bool} {shape : VCfg → VShape}
    {run : Core → VCfg → VOut} {op : Nat → Nat → Nat × FF} {k : Core} (hk : k = (s.atIssue c).core c)
    (hexec : exec i s = issueOut s c i (vecBody c i r.major r.func r.f cfg shape run))
    (ht : isTransfer i = false) (hc : isControl i = false) (hcfg : cfg k.vc = r.cfg) (hshape : shape k.vc = r.shape k.vc)
    (hrun : run k k.vc = convRun r op k) (hw : 0 < r.sw)
    (hop : ∀ a b : Nat, a < 2 ^ r.sw → b < 2 ^ k.vc.sew → op a b = r.op a b) : r.completes c i s := by
  unfold ConvRule.completes
  dsimp only
  rw [← hk]
  intro h
  have lane (j : Nat) (hj : j < k.vc.vlmax) : op ((k.elems r.f.vs1.toNat r.sg r.sw k.vc.vlmax).getD j 0)
      ((if r.one then [] else srcB k k.vc r.f).getD j 0) = r.out k j := by
    have second : (if r.one then [] else srcB k k.vc r.f).getD j 0 = if r.one then 0 else secondSource k r.f j := by
      split
      · rfl
      · exact srcB_getD k r.f hj
    rw [second]
    refine hop _ _ (elems_getD_lt _ _ _ _ _ hw) ?_
    split
    · exact Nat.two_pow_pos _
    · exact secondSource_lt k r.f j
  obtain ⟨values, flags⟩ := lanes_actives k r.f (fun a b _ => op a b) false _ _ [] (r.out k) lane
  rw [← hcfg, ← hshape] at h
  rw [hexec, issueOut_vecBody ht hc hk h (by rw [hrun]; exact Core.setElems_vlast _ _ _ _ _), hrun, hshape]
  simp only [convRun]
  rw [values, flags]
  rfl

/-- Settles O11: each widening instruction and each conversion is its operation over the lanes, between groups of its own sizes. -/
theorem wideningAndConvertingComplete : Obligations.WideningAndConvertingComplete := by
  unfold Obligations.WideningAndConvertingComplete
  intro s i c r k v hr hcore
  suffices h : r.completes c i s from h
  have source : 0 < v.sew := k.sew_pos
  cases i <;> cases hr <;> dsimp only at hcore <;> subst hcore
  case vfwmul | vcvtF32H | vcvtF32Q =>
    exact ConvRule.completes_of_run rfl rfl rfl rfl rfl rfl rfl source fun _ _ _ _ => rfl
  case vcvtHF32 | vcvtQF32 =>
    exact ConvRule.completes_of_run rfl rfl rfl rfl rfl rfl rfl (show 0 < 32 by decide) fun _ _ _ _ => rfl
  case vwmul =>
    refine ConvRule.completes_of_run (op := fun a b => (ofSint (2 * v.sew) (sint v.sew a * sint v.sew b), 0))
      rfl rfl rfl rfl rfl rfl rfl source fun a b _ _ => congrArg (·, 0) ?_
    rw [ofSint_eq_bitsOf, sint_eq_sgn source, sint_eq_sgn source]
  case vwadd =>
    refine ConvRule.completes_of_run (op := fun a b => (ofSint (2 * v.sew) (sint v.sew a + sint v.sew b), 0))
      rfl rfl rfl rfl rfl rfl rfl source fun a b _ _ => congrArg (·, 0) ?_
    rw [ofSint_eq_bitsOf, sint_eq_sgn source, sint_eq_sgn source]
  case vwmulu =>
    refine ConvRule.completes_of_run (op := fun a b => (a * b, 0)) rfl rfl rfl rfl rfl rfl rfl source
      fun a b ha hb => congrArg (·, 0) ?_
    have fits : a * b < 2 ^ (2 * v.sew) := by
      rw [Nat.two_mul, Nat.pow_add]
      exact Nat.mul_lt_mul'' ha hb
    exact ((bitsOf_natCast _ (a * b)).trans (Nat.mod_eq_of_lt fits)).symm

end Sys2Proof.Machine
end

section
/-! SUPPORT. Packed elements (R31): an element read back from a packed number is the one that was put there. -/

namespace Sys2Proof.Machine

theorem unpackAt_eq {w : Nat} (hw : 0 < w) (i x : Nat) : unpackAt w i x = x / 2 ^ (w * i) % 2 ^ w := by
  rw [unpackAt, fld, Nat.shiftRight_eq_div_pow, show w * i + w - 1 + 1 - w * i = w by omega]

theorem packAll_lt (w : Nat) (xs : List Nat) : packAll w xs < 2 ^ (w * xs.length) := by
  induction xs with
  | nil => exact Nat.two_pow_pos _
  | cons x xs ih =>
    have low : x % 2 ^ w < 2 ^ w := Nat.mod_lt _ (Nat.two_pow_pos w)
    rw [packAll, List.length_cons, Nat.mul_succ, Nat.add_comm (w * xs.length), Nat.pow_add]
    calc x % 2 ^ w + 2 ^ w * packAll w xs < 2 ^ w * (packAll w xs + 1) := by rw [Nat.mul_succ]; omega
      _ ≤ 2 ^ w * 2 ^ (w * xs.length) := Nat.mul_le_mul_left _ ih

theorem packAll_div (w i : Nat) (xs : List Nat) : packAll w xs / 2 ^ (w * i) = packAll w (xs.drop i) := by
  induction i generalizing xs with
  | zero => simp
  | succ i ih =>
    cases xs with
    | nil => simp [packAll]
    | cons x xs =>
      rw [Nat.mul_succ, Nat.add_comm, Nat.pow_add, ← Nat.div_div_eq_div_mul, packAll, Nat.add_mul_div_left _ _ (Nat.two_pow_pos w),
        Nat.div_eq_of_lt (Nat.mod_lt _ (Nat.two_pow_pos w)), Nat.zero_add, ih, List.drop_succ_cons]

theorem packAll_mod (w : Nat) (xs : List Nat) : packAll w xs % 2 ^ w = xs.getD 0 0 % 2 ^ w := by
  cases xs with
  | nil => rfl
  | cons x xs => rw [packAll, Nat.add_mul_mod_self_left, Nat.mod_mod, List.getD_cons_zero]

/-- An element of a packed number. -/
theorem unpackAt_packAll {w : Nat} (hw : 0 < w) (i : Nat) (xs : List Nat) : unpackAt w i (packAll w xs) = xs.getD i 0 % 2 ^ w := by
  rw [unpackAt_eq hw, packAll_div, packAll_mod, List.getD_eq_getElem?_getD, List.getElem?_drop, List.getD_eq_getElem?_getD, Nat.add_zero]

/-- A mask built bit by bit. -/
theorem getLsbD_maskOf (bs : List Bool) (h : bs.length ≤ 2048) (j : Nat) : (maskOf bs).getLsbD j = bs.getD j false := by
  have bit : (packAll 1 (bs.map Bool.toNat)).testBit j = bs.getD j false := by
    have read := unpackAt_packAll (w := 1) (by decide) j (bs.map Bool.toNat)
    rw [unpackAt_eq (by decide), Nat.one_mul] at read
    rw [Nat.testBit_eq_decide_div_mod_eq, ← Nat.pow_one 2, read, List.getD_eq_getElem?_getD, List.getElem?_map, List.getD_eq_getElem?_getD]
    rcases bs[j]? with _ | _ | _ <;> rfl
  rw [maskOf, BitVec.getLsbD_ofNat, bit]
  rcases Nat.lt_or_ge j 2048 with hj | hj
  · rw [decide_eq_true hj, Bool.true_and]
  · rw [List.getD_eq_default _ _ (by omega), Bool.and_false]

end Sys2Proof.Machine
end

section
/-! O12: the comparisons and the mask operations. -/

namespace Sys2Proof.Machine

/-- The groups of a comparison (R152). -/
def compareShape (f : VF) (v : VCfg) : VShape :=
  { cls := .basic, apart := false, dst := [], src := (f.vs1.toNat, v.g) :: (if f.x then [] else [(f.vs2.toNat, v.g)]) }

/-- A comparison whose operation is `op`: every bit of the mask it writes. -/
theorem exec_cmpOp {s : State} {c : CoreId} {i : Instr} {func : Nat} {f : VF} {cfg : VCfg → Bool} {op : VCfg → Nat → Nat → Bool × FF}
    {op' : Nat → Nat → Bool × FF} {k : Core} (hk : k = (s.atIssue c).core c) (hexec : exec i s = issueOut s c i (cmpOp c i func f cfg op))
    (ht : isTransfer i = false) (hc : isControl i = false) (hop : ∀ a b, a < 2 ^ k.vc.sew → b < 2 ^ k.vc.sew → op k.vc a b = op' a b)
    (h : s.vecIssues c i 0x36 func f (cfg k.vc) (compareShape f k.vc)) :
    let out (j : Nat) : Bool × FF := op' (k.el f.vs1 j) (secondSource k f j)
    ∃ m : BitVec 2048,
      (∀ j, m.getLsbD j = (decide (j < k.vc.vlmax) && k.isActive k.vc.vl f.km.toNat j && (out j).1))
      ∧ exec i s = .next ((s.atIssue c).setCore c
          (k.vecPast (k.setMask f.vd.toNat m) (s.issueActive c) (s.issueBeat c) f (compareShape f k.vc)
            (flagsOf k f (fun j => (out j).2)) none)) := by
  intro out
  let laneOp (a b : Nat) (_ : Nat) : Nat × FF := let (r, fl) := op k.vc a b; (r.toNat, fl)
  have lane (j : Nat) (hj : j < k.vc.vlmax) : laneOp ((k.elems f.vs1.toNat k.vc.g k.vc.sew k.vc.vlmax).getD j 0)
      ((srcB k k.vc f).getD j 0) (([] : List Nat).getD j 0) = ((out j).1.toNat, (out j).2) := by
    rw [srcB_getD k f hj]
    have same := hop _ _ (k.el_lt f.vs1 j) (secondSource_lt k f j)
    exact congrArg (fun r : Bool × FF => (r.1.toNat, r.2)) same
  obtain ⟨values, flags⟩ := lanes_actives k f laneOp false (k.elems f.vs1.toNat k.vc.g k.vc.sew k.vc.vlmax) (srcB k k.vc f) []
    (fun j => ((out j).1.toNat, (out j).2)) lane
  have shape : (fun v => { basicShape f false false v with dst := [] }) k.vc = compareShape f k.vc := by
    simp [basicShape, compareShape]
  generalize hrs : lanes laneOp false (actives k k.vc f) (k.elems f.vs1.toNat k.vc.g k.vc.sew k.vc.vlmax) (srcB k k.vc f) [] = rs at values flags
  have bits : rs.map (fun r => r.1 == 1) = (List.range k.vc.vlmax).map (fun j => k.isActive k.vc.vl f.km.toNat j && (out j).1) := by
    have := congrArg (List.map (· == 1)) values
    rw [List.map_map, List.map_map] at this
    refine this.trans (List.map_congr_left fun j _ => ?_)
    dsimp only [Function.comp]
    cases k.isActive k.vc.vl f.km.toNat j <;> cases (out j).1 <;> rfl
  refine ⟨maskOf (rs.map (fun r => r.1 == 1)), fun j => ?bit, ?exec⟩
  case bit =>
    have long : (rs.map (fun r => r.1 == 1)).length ≤ 2048 := by
      rw [bits, List.length_map, List.length_range]
      exact k.vc_bounds.2
    rw [getLsbD_maskOf _ long, bits, List.getD_eq_getElem?_getD, List.getElem?_map]
    rcases Nat.lt_or_ge j k.vc.vlmax with hj | hj
    · simp [hj]
    · simp [Nat.not_lt.2 hj]
  case exec =>
    rw [← shape] at h ⊢
    rw [hexec, cmpOp, issueOut_vecBody ht hc hk h rfl]
    dsimp only
    rw [show (fun a b _ => ((op k.vc a b).1.toNat, (op k.vc a b).2)) = laneOp from rfl, hrs, flags]

theorem exec_maskOp {s : State} {c : CoreId} {i : Instr} {func : Nat} {f : VF} {op : BitVec 2048 → BitVec 2048 → BitVec 2048}
    {bit : Bool → Bool → Bool} {k : Core} (hk : k = (s.atIssue c).core c) (hexec : exec i s = issueOut s c i (maskOp c i func f op))
    (ht : isTransfer i = false) (hc : isControl i = false)
    (hop : ∀ (x y : BitVec 2048) (j : Nat), j < 2048 → (op x y).getLsbD j = bit (x.getLsbD j) (y.getLsbD j))
    (h : s.vecIssues c i 0x36 func f true masksOnlyShape) :
    ∃ m : BitVec 2048,
      (∀ j, j < 2048 → m.getLsbD j = bit ((k.mask f.vs1.toNat).getLsbD j) ((k.mask f.vs2.toNat).getLsbD j))
      ∧ exec i s = .next ((s.atIssue c).setCore c
          (k.vecPast (k.setMask f.vd.toNat m) (s.issueActive c) (s.issueBeat c) f masksOnlyShape 0 none)) :=
  ⟨op (k.mask f.vs1.toNat) (k.mask f.vs2.toNat), hop _ _, hexec.trans (issueOut_vecBody ht hc hk h rfl)⟩

/-- Settles O12: each comparison is its relation over the lanes, each mask operation its connective bit by bit. -/
theorem comparisonsAndMasksComplete : Obligations.ComparisonsAndMasksComplete := by
  unfold Obligations.ComparisonsAndMasksComplete
  intro s i c func f k v a b
  have signed (x : Nat) : sgn v.sew x = sint v.sew x := (sint_eq_sgn k.sew_pos x).symm
  refine ⟨?compare, fun op hrule h => ?mask⟩
  case compare =>
    intro cfg op hrule sh out h
    cases i <;> cases hrule
    case vcmpeq.refl | vcmpltu.refl | vcmpleu.refl =>
      exact exec_cmpOp (cfg := anyCfg) (k := k) rfl rfl rfl rfl (fun _ _ _ _ => rfl) h
    case vfcmpeq.refl | vfcmpne.refl | vfcmplt.refl | vfcmple.refl =>
      exact exec_cmpOp (cfg := VCfg.isFloat) (k := k) rfl rfl rfl rfl (fun _ _ _ _ => rfl) h
    case vcmpne.refl =>
      exact exec_cmpOp (cfg := anyCfg) (k := k) rfl rfl rfl rfl (fun x y _ _ => congrArg (·, 0) decide_not.symm) h
    case vcmplt.refl =>
      exact exec_cmpOp (cfg := anyCfg) (k := k) (op' := fun x y => (decide (sgn v.sew x < sgn v.sew y), 0)) rfl rfl rfl rfl
        (fun x y _ _ => by rw [signed, signed]) h
    case vcmple.refl =>
      exact exec_cmpOp (cfg := anyCfg) (k := k) (op' := fun x y => (decide (sgn v.sew x ≤ sgn v.sew y), 0)) rfl rfl rfl rfl
        (fun x y _ _ => by rw [signed, signed]) h
  case mask =>
    cases i <;> cases hrule
    case kand.refl => exact exec_maskOp rfl rfl rfl rfl (fun _ _ _ _ => BitVec.getLsbD_and) h
    case kor.refl => exact exec_maskOp rfl rfl rfl rfl (fun _ _ _ _ => BitVec.getLsbD_or) h
    case kxor.refl => exact exec_maskOp rfl rfl rfl rfl (fun _ _ _ _ => BitVec.getLsbD_xor) h
    case kandn.refl => exact exec_maskOp (bit := fun a b => a && !b) rfl rfl rfl rfl (fun x y j hj => by simp [hj]) h
    case knot.refl => exact exec_maskOp (bit := fun a _ => !a) rfl rfl rfl rfl (fun x y j hj => by simp [hj]) h

end Sys2Proof.Machine
end

section
/-! SUPPORT. Blocks of 32 elements (R39): what the blocks of a group are, one after another. -/

namespace Sys2Proof.Machine

/-- The elements of block `i` of a list. -/
def blockOf (xs : List Nat) (i : Nat) : List Nat := (List.range 32).map (fun j => xs.getD (32 * i + j) 0)

theorem take_eq_blockOf (xs : List Nat) (h : 32 ≤ xs.length) : xs.take 32 = blockOf xs 0 := by
  refine List.ext_getElem (by simp [blockOf, h]) fun j hj hj' => ?_
  have inside : j < xs.length := by
    rw [List.length_take] at hj
    omega
  simp [blockOf, inside]

theorem blockOf_drop (xs : List Nat) (i : Nat) : blockOf (xs.drop 32) i = blockOf xs (i + 1) := by
  refine List.map_congr_left fun j _ => ?_
  rw [List.getD_eq_getElem?_getD, List.getD_eq_getElem?_getD, List.getElem?_drop]
  congr 2
  omega

/-- What converted blocks give together: their scales, their elements one after another, the flags of all. -/
def joinBlocks (blocks : List (Nat × List Nat × FF)) : List Nat × List Nat × FF :=
  (blocks.map (·.1), blocks.flatMap (·.2.1), blocks.foldl (fun fl x => fl ||| x.2.2) 0)

theorem joinBlocks_cons (b : Nat × List Nat × FF) (bs : List (Nat × List Nat × FF)) :
    joinBlocks (b :: bs) = (b.1 :: (joinBlocks bs).1, b.2.1 ++ (joinBlocks bs).2.1, b.2.2 ||| (joinBlocks bs).2.2) := by
  have gather (x y : FF) : bs.foldl (fun fl x => fl ||| x.2.2) (x ||| y) = x ||| bs.foldl (fun fl x => fl ||| x.2.2) y := by
    induction bs generalizing y with
    | nil => rfl
    | cons b bs ih => rw [List.foldl_cons, List.foldl_cons, BitVec.or_assoc, ih]
  have flags : (b :: bs).foldl (fun fl x => fl ||| x.2.2) 0 = b.2.2 ||| bs.foldl (fun fl x => fl ||| x.2.2) 0 := by
    rw [List.foldl_cons, BitVec.or_comm, gather]
  rw [joinBlocks, flags]
  rfl

/-- Blocks converted one after another: each alone, with the flags of all. -/
theorem mxBlocks_eq (fm : Fmt) (t : MxElem) (n : Nat) (xs : List Nat) (h : 32 * n ≤ xs.length) :
    mxBlocks fm t n xs = joinBlocks ((List.range n).map (fun i => mxBlock fm t (blockOf xs i))) := by
  induction n generalizing xs with
  | zero => rfl
  | succ n ih =>
    have later : (fun i => mxBlock fm t (blockOf (xs.drop 32) i)) = (fun i => mxBlock fm t (blockOf xs i)) ∘ Nat.succ := by
      funext i
      exact congrArg (mxBlock fm t) (blockOf_drop xs i)
    rw [mxBlocks, ih (xs.drop 32) (by rw [List.length_drop]; omega), take_eq_blockOf xs (by omega), later, List.range_succ_eq_map,
      List.map_cons, List.map_map, joinBlocks_cons]

theorem byteOf_eq (x i : Nat) : byteOf x i = x / 2 ^ (8 * i) % 256 := by
  rw [byteOf, fld, Nat.shiftRight_eq_div_pow, show 8 * i + 7 + 1 - 8 * i = 8 by omega]
  rfl

/-- The selection of VSEL, index by index. -/
theorem selectLanes_eq (k : Core) (v : VCfg) (f : VF) (is as bs : List Nat) : selectLanes k v f is as bs = (List.range is.length).map (fun j =>
    if v.vl ≤ is.getD j 0 then 0 else if (k.mask f.km.toNat).getLsbD (is.getD j 0) then as.getD j 0 else bs.getD j 0) := by
  have head (xs : List Nat) : xs.headD 0 = xs.getD 0 0 := by cases xs <;> rfl
  have tail (xs : List Nat) (j : Nat) : xs.tail.getD j 0 = xs.getD (j + 1) 0 := by cases xs <;> rfl
  induction is generalizing as bs with
  | nil => rfl
  | cons i is ih =>
    rw [selectLanes, ih, List.length_cons, List.range_succ_eq_map, List.map_cons, List.map_map]
    simp only [head, tail, List.getD_cons_zero]
    rfl

end Sys2Proof.Machine
end

section
/-! O14: VBCAST, VSEL, the compensated pairs, the MX conversions and VSETVL. -/

namespace Sys2Proof.Machine

/-- The elements of a group, one for each index below VLMAX. -/
def Core.lanesOf (k : Core) (x : Nat → Nat) : List Nat := (List.range k.vc.vlmax).map x

/-- The active elements of `x`, zero elsewhere (R153). -/
def Core.activeOf (k : Core) (f : VF) (x : Nat → Nat) : List Nat :=
  k.lanesOf (fun j => if k.isActive k.vc.vl f.km.toNat j then x j else 0)

/-- Instruction `i` of core `c` writes `k1` and raises `fl`. -/
def State.completes (s : State) (c : CoreId) (f : VF) (i : Instr) (sh : VShape) (k1 : Core) (fl : FF) : Prop :=
  exec i s = .next ((s.atIssue c).setCore c
    (((s.atIssue c).core c).vecPast k1 (s.issueActive c) (s.issueBeat c) f sh fl none))

section
variable {s : State} {c : CoreId} {f : VF} {k : Core} (hk : k = (s.atIssue c).core c)
include hk

/-- An instruction that writes no scalar register. -/
theorem State.completes_of_vecBody {i : Instr} {major func : Nat} {cfg : VCfg → Bool} {shape : VCfg → VShape} {run : Core → VCfg → VOut}
    {sh : VShape} {k1 : Core} {fl : FF}
    (hexec : exec i s = issueOut s c i (vecBody c i major func f cfg shape run)) (ht : isTransfer i = false) (hc : isControl i = false)
    (hsh : shape k.vc = sh) (hv : k1.vlast = k.vlast) (hrun : run k k.vc = { core := k1, flags := fl })
    (h : s.vecIssues c i major func f (cfg k.vc) sh) : s.completes c f i sh k1 fl := by
  subst hsh
  rw [State.completes, hexec, issueOut_vecBody ht hc hk h (by rw [hrun]; exact hv), hrun, hk]

theorem completes_vbcast (sh : VShape) (hsh : sh = { cls := .basic, src := [], dst := [(f.vd.toNat, k.vc.g)], apart := false })
    (h : s.vecIssues c (.vbcast c f) 0x31 0x10 f true sh) :
    s.completes c f (.vbcast c f) sh (k.setElems f.vd.toNat k.vc.g k.vc.sew (k.activeOf f (secondSource k f))) 0 := by
  obtain ⟨values, _⟩ := lanes_actives k f (fun _ b _ => (b, 0)) false [] (srcB k k.vc f) [] (fun j => (secondSource k f j, 0))
    (fun j hj => by rw [srcB_getD k f hj])
  refine State.completes_of_vecBody (cfg := anyCfg) hk rfl rfl rfl hsh.symm (Core.setElems_vlast _ _ _ _ _) ?_ h
  dsimp only
  rw [values]
  rfl

theorem completes_vsel (sh : VShape)
    (hsh : sh = { cls := .basic, src := (f.vs1.toNat, k.vc.g) :: (if f.x then [] else [(f.vs2.toNat, k.vc.g)])
                  dst := [(f.vd.toNat, k.vc.g)], apart := false })
    (h : s.vecIssues c (.vsel c f) 0x31 0x11 f true sh) :
    s.completes c f (.vsel c f) sh (k.setElems f.vd.toNat k.vc.g k.vc.sew (k.lanesOf (fun j =>
      if k.vc.vl ≤ j then 0 else if (k.mask f.km.toNat).getLsbD j then k.el f.vs1 j else secondSource k f j))) 0 := by
  refine State.completes_of_vecBody (cfg := anyCfg) hk rfl rfl rfl (?_ : basicShape f false false k.vc = sh) (Core.setElems_vlast _ _ _ _ _) ?_ h
  · rw [hsh]
    simp [basicShape]
  · dsimp only
    rw [selectLanes_eq, List.length_range]
    congr 2
    refine List.map_congr_left fun j hj => ?_
    rw [List.mem_range] at hj
    rw [List.getD_eq_getElem _ _ (by simpa using hj), List.getElem_range, srcB_getD k f hj]
    rfl

theorem completes_pair {i : Instr} {func : Nat} {op : Nat → Nat → Nat × Nat × FF} (hexec : exec i s = issueOut s c i (pairOp c i func f op))
    (ht : isTransfer i = false) (hc : isControl i = false) (sh : VShape)
    (hsh : sh = { cls := .pair, src := [(f.vs1.toNat, k.vc.g), (f.vs2.toNat, k.vc.g)]
                  dst := [(f.vd.toNat, k.vc.g), (f.vd.toNat + k.vc.g, k.vc.g)], apart := true })
    (h : s.vecIssues c i 0x34 func f (k.vc.isF32 && k.vc.g ≤ 4 && f.vd.toNat % (2 * k.vc.g) = 0) sh) :
    let out (j : Nat) : Nat × Nat × FF := op (k.el f.vs1 j) (k.el f.vs2 j)
    s.completes c f i sh ((k.setElems f.vd.toNat k.vc.g k.vc.sew (k.activeOf f (fun j => (out j).1))).setElems
      (f.vd.toNat + k.vc.g) k.vc.g k.vc.sew (k.activeOf f (fun j => (out j).2.1))) (flagsOf k f (fun j => (out j).2.2)) := by
  intro out
  have twoSources : f.x = false := by
    obtain ⟨_, _, fields, _⟩ := h
    by_contra hx
    simp [vecFieldsLegal, vecOneSource, hx] at fields
  have second (j : Nat) (hj : j < k.vc.vlmax) : (srcB k k.vc f).getD j 0 = k.el f.vs2 j := by
    rw [srcB_getD k f hj, secondSource, twoSources]
    rfl
  let hiOp (a b : Nat) (_ : Nat) : Nat × FF := let (x, _, fl) := op a b; (x, fl)
  let loOp (a b : Nat) (_ : Nat) : Nat × FF := ((op a b).2.1, 0)
  obtain ⟨his, flags⟩ := lanes_actives k f hiOp false (k.elems f.vs1.toNat k.vc.g k.vc.sew k.vc.vlmax) (srcB k k.vc f) []
    (fun j => ((out j).1, (out j).2.2)) (fun j hj => by rw [second j hj]; rfl)
  obtain ⟨los, _⟩ := lanes_actives k f loOp false (k.elems f.vs1.toNat k.vc.g k.vc.sew k.vc.vlmax) (srcB k k.vc f) []
    (fun j => ((out j).2.1, 0)) (fun j hj => by rw [second j hj]; rfl)
  refine State.completes_of_vecBody hk hexec ht hc hsh.symm ((Core.setElems_vlast _ _ _ _ _).trans (Core.setElems_vlast _ _ _ _ _)) ?_ h
  dsimp only
  rw [show (fun a b (_ : Nat) => ((op a b).1, (op a b).2.2)) = hiOp from rfl, show (fun a b (_ : Nat) => ((op a b).2.1, (0 : FF))) = loOp from rfl,
    his, los, flags]
  rfl

theorem completes_vcvtF2mx (ty : Fin 6) (sh : VShape)
    (hsh : sh = { cls := .toMx, src := [(f.vs1.toNat, k.vc.g)], dst := [(f.vd.toNat, 1), (f.vs2.toNat, 1)], apart := true })
    (h : s.vecIssues c (.vcvtF2mx c ty f) 0x35 (0x08 + ty.val) f (k.vc.isFloat && k.vc.vlmax ≤ 256) sh) :
    let blocks := (List.range (k.vc.vlmax / 32)).map (fun n => mxBlock k.vc.f (mxElem ty.val) ((List.range 32).map (fun j =>
      if k.isActive k.vc.vl f.km.toNat (32 * n + j) then k.el f.vs1 (32 * n + j) else 0)))
    s.completes c f (.vcvtF2mx c ty f) sh
      ((k.setVreg f.vd.toNat (packAll (mxElem ty.val).bits (blocks.flatMap (fun x => x.2.1)))).setLine (vregKey f.vs2.toNat 0)
        (BitVec.ofNat 512 (packAll 8 (blocks.map (fun x => x.1)))))
      (blocks.foldl (fun fl x => fl ||| x.2.2) 0) := by
  intro blocks
  obtain ⟨values, _⟩ := lanes_actives k f (fun a _ _ => (a, 0)) false (k.elems f.vs1.toNat k.vc.g k.vc.sew k.vc.vlmax) [] []
    (fun j => (k.el f.vs1 j, 0)) (fun _ _ => rfl)
  have joined : mxBlocks k.vc.f (mxElem ty.val) (k.vc.vlmax / 32) (k.activeOf f (k.el f.vs1)) = joinBlocks blocks := by
    rw [mxBlocks_eq _ _ _ _ (by simp [Core.activeOf, Core.lanesOf]; omega)]
    refine congrArg joinBlocks (List.map_congr_left fun n hn => congrArg (mxBlock _ _) (List.map_congr_left fun j hj => ?_))
    rw [List.mem_range] at hn hj
    have inside : 32 * n + j < k.vc.vlmax := by omega
    rw [List.getD_eq_getElem _ _ (by simpa [Core.activeOf, Core.lanesOf] using inside)]
    simp [Core.activeOf, Core.lanesOf]
  refine State.completes_of_vecBody (cfg := mxCfg) hk rfl rfl rfl hsh.symm ((Core.setLine_vlast _ _ _).trans (Core.setVreg_vlast _ _ _)) ?_ h
  dsimp only
  rw [values, show (List.range k.vc.vlmax).map (fun j => if k.isActive k.vc.vl f.km.toNat j then k.el f.vs1 j else if false then _ else 0) =
    k.activeOf f (k.el f.vs1) from rfl, joined]
  rfl

theorem completes_vcvtMx2f (ty : Fin 6) (sh : VShape)
    (hsh : sh = { cls := .fromMx, src := [(f.vs1.toNat, 1), (f.vs2.toNat, 1)], dst := [(f.vd.toNat, k.vc.g)], apart := true })
    (h : s.vecIssues c (.vcvtMx2f c ty f) 0x35 (0x10 + ty.val) f (k.vc.isFloat && k.vc.vlmax ≤ 256) sh) :
    let out (j : Nat) : Nat × FF := mxToFloat (mxElem ty.val) k.vc.f k.rm (unpackAt (mxElem ty.val).bits j (k.vreg f.vs1.toNat))
      ((k.line (vregKey f.vs2.toNat 0)).toNat / 2 ^ (8 * (j / 32)) % 256)
    s.completes c f (.vcvtMx2f c ty f) sh (k.setElems f.vd.toNat k.vc.g k.vc.sew (k.activeOf f (fun j => (out j).1)))
      (flagsOf k f (fun j => (out j).2)) := by
  intro out
  obtain ⟨values, flags⟩ := lanes_actives k f (fun a x _ => mxToFloat (mxElem ty.val) k.vc.f k.rm a x) false
    (k.lanesOf (fun i => unpackAt (mxElem ty.val).bits i (k.vreg f.vs1.toNat)))
    (k.lanesOf (fun i => byteOf (k.line (vregKey f.vs2.toNat 0)).toNat (i / 32))) [] out (fun j hj => by
      rw [List.getD_eq_getElem _ _ (by simpa [Core.lanesOf] using hj), List.getD_eq_getElem _ _ (by simpa [Core.lanesOf] using hj)]
      simp [Core.lanesOf, byteOf_eq, out])
  refine State.completes_of_vecBody (cfg := mxCfg) hk rfl rfl rfl hsh.symm (Core.setElems_vlast _ _ _ _ _) ?_ h
  dsimp only [Core.lanesOf] at values flags ⊢
  rw [values, flags]
  rfl

end

/-- VSETVL (its page). -/
theorem exec_vsetvl {s : State} {c : CoreId} {rd rs1 : Reg} {gfl sew ft : BitVec 2} (h : s.issues c (.vsetvl c rd rs1 gfl sew ft) = true) :
    let vlmax := 2048 * 2 ^ gfl.toNat / (8 * 2 ^ sew.toNat)
    let x := (((s.atIssue c).core c).sreg rs1).toNat
    let vl := if x < vlmax then x else vlmax
    let p : Pend := { due := s.issueActive c + 3, dst := .sys 2 0 0, tag := none
                      val := w64 (vl * 2 ^ 16 + gfl.toNat * 2 ^ 6 + sew.toNat * 2 ^ 4 + ft.toNat * 2 ^ 2) }
    exec (.vsetvl c rd rs1 gfl sew ft) s = .next ((s.atIssue c).modCore c (fun k =>
      let k1 := k.withResult (s.issueActive c) 2 rd (w64 vl)
      ({ k1 with pend := addPend p k1.pend, shadow := s.issueActive c + 2 } : Core).past (s.issueBeat c))) := by
  intro vlmax x vl p
  have least : Nat.min x vlmax = vl := by
    dsimp only [vl]
    rw [Nat.min_eq_min]
    split <;> omega
  refine congrArg Host.Outcome.next ((State.issue_coreBody _ rfl rfl h).trans ?_)
  simp only [State.modCore_eq]
  rw [show (((s.atIssue c).core c).active (s.issueBeat c)) = s.issueActive c from s.atIssue_active c _]
  simp only [Core.result_eq_withResult]
  rw [show Nat.min (((s.atIssue c).core c).sreg rs1).toNat (2048 * 2 ^ gfl.toNat / (8 * 2 ^ sew.toNat)) = vl from least]

/-- Settles O14: each instruction by the lemma of its own above. -/
theorem otherVectorInstructionsComplete : Obligations.OtherVectorInstructionsComplete := by
  unfold Obligations.OtherVectorInstructionsComplete
  intro s c f k v a b done el act lanesOf
  refine ⟨completes_vbcast rfl, completes_vsel rfl, ?pair, fun ty => completes_vcvtF2mx rfl ty _ rfl, fun ty => completes_vcvtMx2f rfl ty _ rfl,
    fun rd rs1 gfl sew ft => exec_vsetvl⟩
  case pair =>
    rintro i func op (⟨rfl, rfl, rfl⟩ | ⟨rfl, rfl, rfl⟩)
    · exact completes_pair rfl rfl rfl rfl _ rfl
    · exact completes_pair rfl rfl rfl rfl _ rfl

end Sys2Proof.Machine
end

section
/-! SUPPORT. Magnitudes (R27): the numbers that the encodings of one sign stand for, in order, on grids of powers of two. -/

namespace Sys2Proof.Machine

/-! ### The numbers of encodings -/

/-- The number of magnitude `m`, an exponent field over a fraction (R27); the exponents go on past the format's largest. -/
def Fmt.mag (f : Fmt) (m : Nat) : ℚ :=
  if m / 2 ^ f.fbits = 0 then ((m % 2 ^ f.fbits : ℕ) : ℚ) * 2 ^ (1 - (f.bias : ℤ) - f.fbits)
  else (2 ^ f.fbits + (m % 2 ^ f.fbits : ℕ)) * 2 ^ (((m / 2 ^ f.fbits : ℕ) : ℤ) - f.bias - f.fbits)

/-- The sign put on a magnitude. -/
def signed (neg : Bool) (x : ℚ) : ℚ := if neg then -x else x

theorem abs_signed (neg : Bool) (x : ℚ) : |signed neg x| = |x| := by
  cases neg <;> simp [signed]

theorem Fmt.expo_eq (f : Fmt) (h : 0 < f.signBit) (x : Nat) : f.expo x = x % 2 ^ f.signBit / 2 ^ f.fbits := by
  rw [Fmt.expo, fld, Nat.shiftRight_eq_div_pow, Fmt.signBit, Nat.add_comm f.ebits, Nat.pow_add, Nat.mod_mul_right_div_self]
  rw [Fmt.signBit] at h
  congr 2
  omega

theorem Fmt.frac_eq (f : Fmt) (x : Nat) : f.frac x = x % 2 ^ f.signBit % 2 ^ f.fbits := by
  rw [Fmt.frac, Nat.mod_mod_of_dvd _ (show 2 ^ f.fbits ∣ 2 ^ f.signBit from Nat.pow_dvd_pow 2 (Nat.le_add_left _ _))]

/-- An encoding is a sign and a magnitude. -/
theorem Fmt.num_eq (f : Fmt) (h : 0 < f.signBit) (x : Nat) : f.num x = signed (f.neg x) (f.mag (x % 2 ^ f.signBit)) := by
  rw [Fmt.num, Fmt.mag, ← f.expo_eq h, ← f.frac_eq, signed]

/-! ### The grid of magnitudes -/

/-- A magnitude on the grid of its exponent: `n` steps from zero. -/
theorem Fmt.mag_grid (f : Fmt) (k n : Nat) (hn : n ≤ 2 ^ (f.fbits + 1)) (h : 2 ^ f.fbits ≤ n ∨ k = 0) :
    f.mag (k * 2 ^ f.fbits + n) = n * 2 ^ ((k : ℤ) + 1 - f.bias - f.fbits) := by
  have pos : 0 < 2 ^ f.fbits := Nat.two_pow_pos _
  rw [Nat.pow_succ] at hn
  rcases Nat.lt_or_ge n (2 ^ f.fbits) with low | high
  · obtain rfl : k = 0 := by omega
    rw [Nat.zero_mul, Nat.zero_add, Fmt.mag, if_pos (Nat.div_eq_of_lt low), Nat.mod_eq_of_lt low]
    simp
  · obtain ⟨r, rfl⟩ := Nat.exists_eq_add_of_le high
    have quot : (k * 2 ^ f.fbits + (2 ^ f.fbits + r)) / 2 ^ f.fbits = k + 1 + r / 2 ^ f.fbits := by
      rw [← Nat.add_assoc, ← Nat.succ_mul, Nat.add_comm, Nat.add_mul_div_right _ _ pos, Nat.add_comm]
    have rem : (k * 2 ^ f.fbits + (2 ^ f.fbits + r)) % 2 ^ f.fbits = r % 2 ^ f.fbits := by
      rw [← Nat.add_assoc, ← Nat.succ_mul, Nat.add_comm, Nat.add_mul_mod_self_right]
    rw [Fmt.mag, quot, rem, if_neg (by positivity)]
    rcases Nat.lt_or_ge r (2 ^ f.fbits) with hr | hr
    · rw [Nat.mod_eq_of_lt hr, Nat.div_eq_of_lt hr]
      push_cast
      rw [add_zero]
    · obtain rfl : r = 2 ^ f.fbits := by omega
      rw [Nat.mod_self, Nat.div_self pos]
      have shift : (2 : ℚ) ^ (((k + 1 + 1 : ℕ) : ℤ) - f.bias - f.fbits) = 2 * 2 ^ ((k : ℤ) + 1 - f.bias - f.fbits) := by
        rw [← zpow_one_add₀ (by norm_num)]
        congr 1
        push_cast
        ring
      rw [shift]
      push_cast
      ring

/-- The exponent of the grid on which magnitude `m` and the next one lie. -/
def Fmt.gridExp (f : Fmt) (m : Nat) : ℤ := ((m / 2 ^ f.fbits - 1 : ℕ) : ℤ) + 1 - f.bias - f.fbits

/-- A magnitude and the next one are neighbours on one grid. -/
theorem Fmt.mag_step (f : Fmt) (m : Nat) : ∃ n : ℕ, f.mag m = n * 2 ^ f.gridExp m ∧ f.mag (m + 1) = (n + 1 : ℕ) * 2 ^ f.gridExp m := by
  have pos : 0 < 2 ^ f.fbits := Nat.two_pow_pos _
  have double : 2 ^ (f.fbits + 1) = 2 * 2 ^ f.fbits := by rw [Nat.pow_succ, Nat.mul_comm]
  have cut := Nat.div_add_mod m (2 ^ f.fbits)
  have small := Nat.mod_lt m pos
  rcases Nat.eq_zero_or_pos (m / 2 ^ f.fbits) with hz | hz
  · refine ⟨m, ?_, ?_⟩
    · have := f.mag_grid 0 m (by rw [hz] at cut; omega) (.inr rfl)
      rw [Nat.zero_mul, Nat.zero_add] at this
      rw [this, Fmt.gridExp, hz]
    · have := f.mag_grid 0 (m + 1) (by rw [hz] at cut; omega) (.inr rfl)
      rw [Nat.zero_mul, Nat.zero_add] at this
      rw [this, Fmt.gridExp, hz]
  · have whole : m = (m / 2 ^ f.fbits - 1) * 2 ^ f.fbits + (2 ^ f.fbits + m % 2 ^ f.fbits) := by
      rw [← Nat.add_assoc, ← Nat.succ_mul, Nat.succ_eq_add_one, Nat.sub_add_cancel hz, Nat.mul_comm, cut]
    refine ⟨2 ^ f.fbits + m % 2 ^ f.fbits, ?_, ?_⟩
    · conv_lhs => rw [whole]
      exact f.mag_grid _ _ (by omega) (.inl (Nat.le_add_right _ _))
    · conv_lhs => rw [whole]
      rw [Nat.add_assoc]
      exact f.mag_grid _ _ (by omega) (.inl (by omega))

theorem Fmt.mag_lt_succ (f : Fmt) (m : Nat) : f.mag m < f.mag (m + 1) := by
  obtain ⟨n, h, h'⟩ := f.mag_step m
  rw [h, h']
  have : (0 : ℚ) < 2 ^ f.gridExp m := zpow_pos (by norm_num) _
  push_cast
  nlinarith

theorem Fmt.mag_strictMono (f : Fmt) : StrictMono f.mag := strictMono_nat_of_lt_succ f.mag_lt_succ

@[simp] theorem Fmt.mag_zero (f : Fmt) : f.mag 0 = 0 := by simp [Fmt.mag]

theorem Fmt.mag_nonneg (f : Fmt) (m : Nat) : 0 ≤ f.mag m := by
  rw [← f.mag_zero]
  exact f.mag_strictMono.monotone (Nat.zero_le m)

/-- Every number of few enough bits, none below the least, is a magnitude. -/
theorem Fmt.exists_mag (f : Fmt) (k j : Nat) (hj : j < 2 ^ (f.fbits + 1)) : ∃ m, f.mag m = j * 2 ^ ((k : ℤ) + 1 - f.bias - f.fbits) := by
  induction k generalizing j with
  | zero => exact ⟨_, f.mag_grid 0 j hj.le (.inr rfl)⟩
  | succ k ih =>
    rcases Nat.lt_or_ge j (2 ^ f.fbits) with low | high
    · obtain ⟨m, hm⟩ := ih (2 * j) (by rw [Nat.pow_succ]; omega)
      refine ⟨m, hm.trans ?_⟩
      have shift : (2 : ℚ) ^ (((k + 1 : ℕ) : ℤ) + 1 - f.bias - f.fbits) = 2 * 2 ^ ((k : ℤ) + 1 - f.bias - f.fbits) := by
        rw [← zpow_one_add₀ (by norm_num)]
        congr 1
        push_cast
        ring
      rw [shift]
      push_cast
      ring
    · exact ⟨_, f.mag_grid (k + 1) j hj.le (.inl high)⟩

end Sys2Proof.Machine
end

section
/-! SUPPORT. Rounding of a magnitude (R37, R38): down to the magnitude below or up to the next one. -/

namespace Sys2Proof.Machine

/-- Whether a number that lies the part `t` of a step above the `n`-th grid point is rounded up to the next one (R38). -/
def stepsUp (rm : RM) (neg : Bool) (n : Nat) (t : ℚ) : Prop :=
  match rm with
  | .near => 1 / 2 < t ∨ t = 1 / 2 ∧ n % 2 = 1
  | .zero => False
  | .down => neg = true ∧ t ≠ 0
  | .up => neg = false ∧ t ≠ 0

theorem not_stepsUp_zero (rm : RM) (neg : Bool) (n : Nat) : ¬stepsUp rm neg n 0 := by
  cases rm <;> norm_num [stepsUp]

/-- The decision depends on the parity of the grid point alone. -/
theorem stepsUp_congr {rm : RM} {neg : Bool} {n n' : Nat} (t : ℚ) (h : n % 2 = n' % 2) : stepsUp rm neg n t ↔ stepsUp rm neg n' t := by
  cases rm <;> simp only [stepsUp, h]

/-- `N` is the number of grid steps that `n` and the part `t` of a step are rounded to. -/
def roundsStep (rm : RM) (neg : Bool) (n : Nat) (t : ℚ) (N : Nat) : Prop :=
  N = n + 1 ∧ stepsUp rm neg n t ∨ N = n ∧ ¬stepsUp rm neg n t

/-- The model's decision to round away from zero is that of the part of a step. -/
theorem roundAway_iff (rm : RM) (neg : Bool) (n r s : Nat) :
    roundAway rm neg n r s false = true ↔ stepsUp rm neg n ((r : ℚ) / 2 ^ s) := by
  have pos : (0 : ℚ) < 2 ^ s := by positivity
  have zero : (r : ℚ) / 2 ^ s ≠ 0 ↔ r ≠ 0 := by simp
  cases rm with
  | near =>
    have above : 1 / 2 < (r : ℚ) / 2 ^ s ↔ 2 ^ s < 2 * r := by
      rw [lt_div_iff₀ pos, div_mul_eq_mul_div, one_mul, div_lt_iff₀ (by norm_num), mul_comm (r : ℚ)]
      norm_cast
    have half : (r : ℚ) / 2 ^ s = 1 / 2 ↔ 2 * r = 2 ^ s := by
      rw [div_eq_div_iff pos.ne' (by norm_num), one_mul, mul_comm (r : ℚ)]
      norm_cast
    rw [stepsUp, above, half]
    simp [roundAway]
  | zero => simp [roundAway, stepsUp]
  | down => simp [roundAway, stepsUp, zero]
  | up => simp [roundAway, stepsUp, zero]

/-- A number `m` × 2^e cut at 2^q and rounded. -/
theorem roundAt_spec (rm : RM) (neg : Bool) (m : Nat) (e q : ℤ) : ∃ (n : ℕ) (t : ℚ), 0 ≤ t ∧ t < 1 ∧ (m : ℚ) * 2 ^ e = (n + t) * 2 ^ q
    ∧ roundsStep rm neg n t (roundAt rm neg m e q false).1 ∧ ((roundAt rm neg m e q false).2 = true ↔ t ≠ 0) := by
  unfold roundAt
  by_cases hq : q ≤ e
  · have shift : (2 : ℚ) ^ e = 2 ^ (e - q).toNat * 2 ^ q := by
      rw [← zpow_natCast, ← zpow_add₀ (by norm_num), Int.toNat_of_nonneg (by omega), sub_add_cancel]
    refine ⟨m * 2 ^ (e - q).toNat, 0, le_rfl, one_pos, ?_, ?_, ?_⟩
    · rw [shift]
      push_cast
      ring
    · rw [if_pos hq]
      exact .inr ⟨by simp, not_stepsUp_zero _ _ _⟩
    · rw [if_pos hq]
      simp
  · have shift : (2 : ℚ) ^ q = 2 ^ (q - e).toNat * 2 ^ e := by
      rw [← zpow_natCast, ← zpow_add₀ (by norm_num), Int.toNat_of_nonneg (by omega), sub_add_cancel]
    rw [if_neg hq]
    generalize (q - e).toNat = s at shift ⊢
    have pos : (0 : ℚ) < 2 ^ s := by positivity
    have small : m % 2 ^ s < 2 ^ s := Nat.mod_lt _ (Nat.two_pow_pos _)
    have cut : ((2 ^ s : ℕ) : ℚ) * (m / 2 ^ s : ℕ) + (m % 2 ^ s : ℕ) = m := by exact_mod_cast Nat.div_add_mod m (2 ^ s)
    refine ⟨m / 2 ^ s, ((m % 2 ^ s : ℕ) : ℚ) / 2 ^ s, by positivity, ?_, ?_, ?_, ?_⟩
    · rw [div_lt_one pos]
      exact_mod_cast small
    · rw [shift, ← cut]
      push_cast
      field_simp
    · dsimp only [roundsStep]
      rw [← roundAway_iff]
      split
      · next h => exact .inl ⟨rfl, h⟩
      · next h => exact .inr ⟨rfl, h⟩
    · simp

/-! ### A magnitude rounded into a format -/

/-- `m` is what the number `x` above zero is rounded to: it lies the part `t` of a step above magnitude `lo`. -/
structure Fmt.RoundsMag (f : Fmt) (rm : RM) (neg : Bool) (x : ℚ) (lo : ℕ) (t : ℚ) (m : ℕ) : Prop where
  nonneg : 0 ≤ t
  lt_one : t < 1
  split : x = f.mag lo + t * (f.mag (lo + 1) - f.mag lo)
  step : roundsStep rm neg lo t m

/-- The leading bit of a number (R46). -/
theorem leadExp_spec {m : Nat} (hm : m ≠ 0) (e : ℤ) : (2 : ℚ) ^ leadExp m e ≤ m * 2 ^ e ∧ (m : ℚ) * 2 ^ e < 2 ^ (leadExp m e + 1) := by
  have pos : (0 : ℚ) < 2 ^ e := by positivity
  have low : 2 ^ m.log2 ≤ m := Nat.log2_self_le hm
  have high : m < 2 ^ (m.log2 + 1) := Nat.lt_log2_self
  rw [leadExp, add_right_comm, zpow_add₀ (by norm_num), zpow_add₀ (by norm_num)]
  constructor
  · refine mul_le_mul_of_nonneg_right ?_ pos.le
    exact_mod_cast low
  · refine mul_lt_mul_of_pos_right ?_ pos
    exact_mod_cast high

/-- The magnitude that `n` steps of the grid at 2^q stand for, as the model encodes it. -/
def Fmt.encodeSteps (f : Fmt) (q : ℤ) (n : Nat) : Nat :=
  if n < 2 ^ f.fbits then n else (q + f.fbits + f.bias - 1).toNat * 2 ^ f.fbits + n

/-- The exponent of the grid on which a number with leading bit `le` is rounded (R38). -/
def Fmt.roundExp (f : Fmt) (le : ℤ) : ℤ := (if le < 1 - (f.bias : ℤ) then 1 - (f.bias : ℤ) else le) - f.fbits

theorem Fmt.encodeSteps_eq (f : Fmt) {q : ℤ} {k n : Nat} (hq : q = k + 1 - f.bias - f.fbits) (h : 2 ^ f.fbits ≤ n ∨ k = 0) :
    f.encodeSteps q n = k * 2 ^ f.fbits + n := by
  have hk : (q + f.fbits + f.bias - 1).toNat = k := by omega
  rw [Fmt.encodeSteps, hk]
  split
  · obtain rfl : k = 0 := by omega
    omega
  · rfl

/-- The grid point below a number: its significand is full, unless the number is below the least normal one. -/
theorem Fmt.roundExp_spec (f : Fmt) {x t : ℚ} {le : ℤ} {n : Nat} (low : 2 ^ le ≤ x) (high : x < 2 ^ (le + 1)) (ht0 : 0 ≤ t) (ht1 : t < 1)
    (hsplit : x = (n + t) * 2 ^ f.roundExp le) :
    ∃ k : ℕ, f.roundExp le = k + 1 - f.bias - f.fbits ∧ (2 ^ f.fbits ≤ n ∨ k = 0) ∧ n < 2 ^ (f.fbits + 1) := by
  have pos : (0 : ℚ) < 2 ^ f.roundExp le := by positivity
  have scale (d : ℕ) : (2 : ℚ) ^ (f.roundExp le + d) = ((2 ^ d : ℕ) : ℚ) * 2 ^ f.roundExp le := by
    rw [zpow_add₀ (by norm_num), mul_comm, zpow_natCast]
    norm_cast
  by_cases sub : le < 1 - (f.bias : ℤ)
  · have hq : f.roundExp le = 1 - (f.bias : ℤ) - f.fbits := by rw [Fmt.roundExp, if_pos sub]
    have below : x < ((2 ^ f.fbits : ℕ) : ℚ) * 2 ^ f.roundExp le := by
      rw [← scale]
      exact high.trans_le (zpow_le_zpow_right₀ (by norm_num) (by omega))
    rw [hsplit] at below
    have : ((n : ℕ) : ℚ) < ((2 ^ f.fbits : ℕ) : ℚ) := by linarith [lt_of_mul_lt_mul_right below pos.le]
    have small : n < 2 ^ f.fbits := by exact_mod_cast this
    exact ⟨0, by rw [hq]; push_cast; ring, .inr rfl, by rw [Nat.pow_succ]; omega⟩
  · have hq : f.roundExp le = le - f.fbits := by rw [Fmt.roundExp, if_neg sub]
    have above : ((2 ^ f.fbits : ℕ) : ℚ) * 2 ^ f.roundExp le ≤ x := by
      rw [← scale, hq, sub_add_cancel]
      exact low
    have below : x < ((2 ^ (f.fbits + 1) : ℕ) : ℚ) * 2 ^ f.roundExp le := by
      rw [← scale, hq]
      push_cast
      rw [← add_assoc, sub_add_cancel]
      exact high
    rw [hsplit] at above below
    have full : ((2 ^ f.fbits : ℕ) : ℚ) < ((n + 1 : ℕ) : ℚ) := by
      push_cast at *
      linarith [le_of_mul_le_mul_right above pos]
    have small : ((n : ℕ) : ℚ) < ((2 ^ (f.fbits + 1) : ℕ) : ℚ) := by linarith [lt_of_mul_lt_mul_right below pos.le]
    have full' : 2 ^ f.fbits < n + 1 := by exact_mod_cast full
    have small' : n < 2 ^ (f.fbits + 1) := by exact_mod_cast small
    exact ⟨(le + f.bias - 1).toNat, by rw [hq]; omega, .inl (by omega), small'⟩

/-- Rounding at the grid of the leading bit is rounding between neighbouring magnitudes. -/
theorem Fmt.roundsMag_of_roundAt (f : Fmt) (hf : 0 < f.fbits) (rm : RM) (neg : Bool) {m : Nat} (hm : m ≠ 0) (e : ℤ) :
    ∃ lo t, f.RoundsMag rm neg (m * 2 ^ e) lo t
        (f.encodeSteps (f.roundExp (leadExp m e)) (roundAt rm neg m e (f.roundExp (leadExp m e)) false).1)
      ∧ ((roundAt rm neg m e (f.roundExp (leadExp m e)) false).2 = true ↔ t ≠ 0) := by
  obtain ⟨low, high⟩ := leadExp_spec hm e
  obtain ⟨n, t, ht0, ht1, hsplit, hstep, hix⟩ := roundAt_spec rm neg m e (f.roundExp (leadExp m e))
  obtain ⟨k, hq, full, small⟩ := f.roundExp_spec low high ht0 ht1 hsplit
  have here := f.mag_grid k n small.le full
  have next := f.mag_grid k (n + 1) small (by omega)
  have parity : n % 2 = (k * 2 ^ f.fbits + n) % 2 := by
    obtain ⟨d, hd⟩ := Nat.exists_eq_add_of_lt hf
    rw [hd, show k * 2 ^ (0 + d + 1) = 2 * (k * 2 ^ d) by rw [Nat.zero_add, Nat.pow_succ]; ring, Nat.mul_add_mod]
  refine ⟨k * 2 ^ f.fbits + n, t, ⟨ht0, ht1, ?split, ?step⟩, hix⟩
  case split =>
    rw [hsplit, Nat.add_assoc, here, next, hq]
    push_cast
    ring
  case step =>
    rcases hstep with ⟨hN, up⟩ | ⟨hN, stay⟩
    · rw [hN, f.encodeSteps_eq hq (by omega)]
      exact .inl ⟨by omega, (stepsUp_congr t parity).1 up⟩
    · rw [hN, f.encodeSteps_eq hq full]
      exact .inr ⟨rfl, fun up => stay ((stepsUp_congr t parity).2 up)⟩

end Sys2Proof.Machine
end

section
/-! SUPPORT. What a rounded magnitude is among all magnitudes, and tininess (R37, R38). -/

namespace Sys2Proof.Machine

/-! ### The rounded magnitude among the others -/

/-- Whether the mode rounds a number of this sign away from zero. -/
def roundsAway (rm : RM) (neg : Bool) : Prop := rm = .down ∧ neg = true ∨ rm = .up ∧ neg = false

theorem stepsUp_of_roundsAway {rm : RM} {neg : Bool} (h : roundsAway rm neg) (n : Nat) (t : ℚ) : stepsUp rm neg n t ↔ t ≠ 0 := by
  rcases h with ⟨rfl, rfl⟩ | ⟨rfl, rfl⟩ <;> simp [stepsUp]

theorem not_stepsUp_of_trunc {rm : RM} {neg : Bool} (hn : rm ≠ .near) (h : ¬roundsAway rm neg) (n : Nat) (t : ℚ) : ¬stepsUp rm neg n t := by
  cases rm with
  | near => exact absurd rfl hn
  | zero => simp [stepsUp]
  | down => simp_all [stepsUp, roundsAway]
  | up => simp_all [stepsUp, roundsAway]

namespace Fmt.RoundsMag
variable {f : Fmt} {rm : RM} {neg : Bool} {x t : ℚ} {lo m : ℕ}

theorem lo_le (h : f.RoundsMag rm neg x lo t m) : f.mag lo ≤ x := by
  have := mul_nonneg h.nonneg (sub_nonneg.2 (f.mag_lt_succ lo).le)
  linarith [h.split]

theorem lt_next (h : f.RoundsMag rm neg x lo t m) : x < f.mag (lo + 1) := by
  have := mul_lt_mul_of_pos_right h.lt_one (sub_pos.2 (f.mag_lt_succ lo))
  linarith [h.split]

theorem mag_le_iff (h : f.RoundsMag rm neg x lo t m) (k : ℕ) : f.mag k ≤ x ↔ k ≤ lo :=
  ⟨fun hk => Nat.lt_succ_iff.1 (f.mag_strictMono.lt_iff_lt.1 (hk.trans_lt h.lt_next)), fun hk => (f.mag_strictMono.monotone hk).trans h.lo_le⟩

theorem eq_or (h : f.RoundsMag rm neg x lo t m) : m = lo ∨ m = lo + 1 := by
  rcases h.step with ⟨hm, -⟩ | ⟨hm, -⟩
  · exact .inr hm
  · exact .inl hm

/-- The part of a step is zero where the number is a magnitude. -/
theorem exact_iff (h : f.RoundsMag rm neg x lo t m) : f.mag m = x ↔ t = 0 := by
  constructor
  · intro hm
    have up := h.lt_next
    rcases h.eq_or with rfl | rfl
    · have zero : t * (f.mag (m + 1) - f.mag m) = 0 := by linarith [h.split]
      exact (mul_eq_zero.1 zero).resolve_right (sub_pos.2 (f.mag_lt_succ m)).ne'
    · exact absurd hm up.ne'
  · rintro rfl
    have hm : m = lo := by
      rcases h.step with ⟨-, up⟩ | ⟨hm, -⟩
      · exact absurd up (not_stepsUp_zero _ _ _)
      · exact hm
    rw [hm, h.split]
    ring

theorem eq_lo_of_trunc (h : f.RoundsMag rm neg x lo t m) (hn : rm ≠ .near) (ha : ¬roundsAway rm neg) : m = lo := by
  rcases h.step with ⟨-, up⟩ | ⟨hm, -⟩
  · exact absurd up (not_stepsUp_of_trunc hn ha _ _)
  · exact hm

/-- Away from zero: the least magnitude that is not below. -/
theorem le_mag_iff_of_away (h : f.RoundsMag rm neg x lo t m) (ha : roundsAway rm neg) (k : ℕ) : x ≤ f.mag k ↔ m ≤ k := by
  rcases h.step with ⟨rfl, up⟩ | ⟨rfl, stay⟩
  · have inexact := (stepsUp_of_roundsAway ha _ _).1 up
    have above : f.mag lo < x := by
      have := mul_pos (lt_of_le_of_ne h.nonneg inexact.symm) (sub_pos.2 (f.mag_lt_succ lo))
      linarith [h.split]
    refine ⟨fun hk => f.mag_strictMono.lt_iff_lt.1 (above.trans_le hk), fun hk => h.lt_next.le.trans (f.mag_strictMono.monotone hk)⟩
  · have exact := (stepsUp_of_roundsAway ha _ _).not.1 stay
    have hx : f.mag m = x := h.exact_iff.2 (not_not.1 exact)
    rw [← hx, f.mag_strictMono.le_iff_le]

/-- To nearest: no magnitude is nearer, and of two that are as near the even one is taken. -/
theorem near (h : f.RoundsMag .near neg x lo t m) (k : ℕ) :
    |x - f.mag m| ≤ |x - f.mag k| ∧ (|x - f.mag m| = |x - f.mag k| → k ≠ m → m % 2 = 0) := by
  have wide : 0 < f.mag (lo + 1) - f.mag lo := sub_pos.2 (f.mag_lt_succ lo)
  have split := h.split
  have below : |x - f.mag lo| = t * (f.mag (lo + 1) - f.mag lo) := by
    rw [abs_of_nonneg (sub_nonneg.2 h.lo_le)]
    linarith
  have above : |x - f.mag (lo + 1)| = (1 - t) * (f.mag (lo + 1) - f.mag lo) := by
    rw [abs_of_neg (sub_neg.2 h.lt_next)]
    linarith
  have beyond : |x - f.mag lo| + (f.mag lo - f.mag k) ≤ |x - f.mag k| ∧ k ≤ lo
      ∨ |x - f.mag (lo + 1)| + (f.mag k - f.mag (lo + 1)) ≤ |x - f.mag k| ∧ lo + 1 ≤ k := by
    rcases Nat.lt_or_ge lo k with hk | hk
    · refine .inr ⟨?_, hk⟩
      rw [abs_of_neg (sub_neg.2 h.lt_next)]
      linarith [neg_abs_le (x - f.mag k)]
    · refine .inl ⟨?_, hk⟩
      rw [abs_of_nonneg (sub_nonneg.2 h.lo_le)]
      linarith [le_abs_self (x - f.mag k)]
  rcases h.step with ⟨rfl, up⟩ | ⟨rfl, stay⟩
  · have half : 1 / 2 ≤ t := by rcases up with up | ⟨up, -⟩ <;> linarith
    have order : |x - f.mag (lo + 1)| ≤ |x - f.mag lo| := by
      rw [below, above]
      exact mul_le_mul_of_nonneg_right (by linarith) wide.le
    rcases beyond with ⟨far, hk⟩ | ⟨far, hk⟩
    · have := f.mag_strictMono.monotone hk
      refine ⟨by linarith, fun heq _ => ?_⟩
      have tie : (1 - t) * (f.mag (lo + 1) - f.mag lo) = t * (f.mag (lo + 1) - f.mag lo) := by linarith
      have := mul_right_cancel₀ wide.ne' tie
      rcases up with up | ⟨-, odd⟩
      · linarith
      · omega
    · have := f.mag_strictMono.monotone hk
      refine ⟨by linarith, fun heq hne => absurd ?_ hne⟩
      exact f.mag_strictMono.injective (by linarith)
  · have half : t ≤ 1 / 2 := not_lt.1 fun ht => stay (.inl ht)
    have order : |x - f.mag m| ≤ |x - f.mag (m + 1)| := by
      rw [below, above]
      exact mul_le_mul_of_nonneg_right (by linarith) wide.le
    rcases beyond with ⟨far, hk⟩ | ⟨far, hk⟩
    · have := f.mag_strictMono.monotone hk
      refine ⟨by linarith, fun heq hne => absurd ?_ hne⟩
      exact f.mag_strictMono.injective (by linarith)
    · have := f.mag_strictMono.monotone hk
      refine ⟨by linarith, fun heq _ => ?_⟩
      have tie : (1 - t) * (f.mag (m + 1) - f.mag m) = t * (f.mag (m + 1) - f.mag m) := by linarith
      have := mul_right_cancel₀ wide.ne' tie
      by_contra odd
      exact stay (.inr ⟨by linarith, by omega⟩)

end Fmt.RoundsMag

/-! ### Tininess -/

/-- Whether a number of `N` steps less than all rounds to fewer than `N` steps: rounding does not carry. -/
def staysBelow (rm : RM) (neg : Bool) (N y : ℚ) : Prop :=
  (rm = .near → y < N - 1 / 2) ∧ (rm ≠ .near → ¬roundsAway rm neg → y < N) ∧ (roundsAway rm neg → y ≤ N - 1)

theorem not_near_of_roundsAway {rm : RM} {neg : Bool} (h : roundsAway rm neg) : rm ≠ .near := by
  rcases h with ⟨rfl, -⟩ | ⟨rfl, -⟩ <;> decide

theorem not_roundsAway_near (neg : Bool) : ¬roundsAway .near neg := fun h => not_near_of_roundsAway h rfl

theorem staysBelow_near (neg : Bool) (N y : ℚ) : staysBelow .near neg N y ↔ y < N - 1 / 2 := by
  simp [staysBelow, not_roundsAway_near]

theorem staysBelow_of_away {rm : RM} {neg : Bool} (h : roundsAway rm neg) (N y : ℚ) : staysBelow rm neg N y ↔ y ≤ N - 1 := by
  simp [staysBelow, h, not_near_of_roundsAway h]

theorem staysBelow_of_trunc {rm : RM} {neg : Bool} (hn : rm ≠ .near) (h : ¬roundsAway rm neg) (N y : ℚ) : staysBelow rm neg N y ↔ y < N := by
  simp [staysBelow, h, hn]

theorem staysBelow_iff {rm : RM} {neg : Bool} {n N : ℕ} {t : ℚ} (ht0 : 0 ≤ t) (ht1 : t < 1) (hn : n + 1 ≤ N) (even : N % 2 = 0) :
    ¬(n + 1 = N ∧ stepsUp rm neg n t) ↔ staysBelow rm neg N (n + t) := by
  rcases hn.lt_or_eq with lt | rfl
  · have : ((n + 2 : ℕ) : ℚ) ≤ N := by exact_mod_cast lt
    push_cast at this
    refine iff_of_true (fun h => lt.ne h.1) ⟨fun _ => by linarith, fun _ _ => by linarith, fun _ => by linarith⟩
  push_cast
  rw [not_and, forall_prop_of_true rfl]
  by_cases ha : roundsAway rm neg
  · rw [stepsUp_of_roundsAway ha, staysBelow_of_away ha, not_not]
    constructor <;> intro h <;> linarith
  by_cases hr : rm = .near
  · subst hr
    have odd : n % 2 = 1 := by omega
    rw [staysBelow_near, stepsUp, and_iff_left odd, not_or]
    constructor
    · rintro ⟨h, h'⟩
      linarith [lt_of_le_of_ne (not_lt.1 h) h']
    · exact fun h => ⟨by linarith, by linarith⟩
  · rw [staysBelow_of_trunc hr ha]
    exact iff_of_true (not_stepsUp_of_trunc hr ha n t) (by linarith)

/-- Tininess scaled: the bound is that of 2^(fbits + 1) steps. -/
def Fmt.tinyMag (f : Fmt) (rm : RM) (neg : Bool) (x : ℚ) : Prop :=
  staysBelow rm neg (2 ^ (f.fbits + 1)) (x / 2 ^ (-(f.bias : ℤ) - f.fbits))

/-- The least normal number in halves of the least subnormal one. -/
theorem Fmt.least_eq (f : Fmt) : (2 : ℚ) ^ (1 - (f.bias : ℤ)) = 2 ^ (f.fbits + 1) * 2 ^ (-(f.bias : ℤ) - f.fbits) := by
  rw [← zpow_natCast, ← zpow_add₀ (by norm_num)]
  congr 1
  push_cast
  ring

theorem Fmt.tiny_iff (f : Fmt) (rm : RM) (neg : Bool) {x : ℚ} (hx : 0 < x) : f.tiny rm (signed neg x) ↔ f.tinyMag rm neg x := by
  have u : (0 : ℚ) < 2 ^ (-(f.bias : ℤ) - f.fbits) := by positivity
  have half : (2 : ℚ) ^ (f.fbits + 1) * 2 ^ (-(f.fbits : ℤ) - 2) = 1 / 2 := by
    rw [← zpow_natCast, ← zpow_add₀ (by norm_num)]
    push_cast
    rw [show (f.fbits : ℤ) + 1 + (-f.fbits - 2) = -1 by ring]
    norm_num
  have one : (2 : ℚ) ^ (f.fbits + 1) * 2 ^ (-(f.fbits : ℤ) - 1) = 1 := by
    rw [← zpow_natCast, ← zpow_add₀ (by norm_num)]
    push_cast
    rw [show (f.fbits : ℤ) + 1 + (-f.fbits - 1) = 0 by ring]
    norm_num
  have neg_iff : signed neg x < 0 ↔ neg = true := by cases neg <;> simp [signed, hx, hx.le]
  have pos_iff : 0 < signed neg x ↔ neg = false := by cases neg <;> simp [signed, hx, hx.le]
  have nearBound : (2 : ℚ) ^ (f.fbits + 1) * 2 ^ (-(f.bias : ℤ) - f.fbits) * (1 - 2 ^ (-(f.fbits : ℤ) - 2))
      = (2 ^ (f.fbits + 1) - 1 / 2) * 2 ^ (-(f.bias : ℤ) - f.fbits) := by
    linear_combination -(2 ^ (-(f.bias : ℤ) - f.fbits)) * half
  have awayBound : (2 : ℚ) ^ (f.fbits + 1) * 2 ^ (-(f.bias : ℤ) - f.fbits) * (1 - 2 ^ (-(f.fbits : ℤ) - 1))
      = (2 ^ (f.fbits + 1) - 1) * 2 ^ (-(f.bias : ℤ) - f.fbits) := by
    linear_combination -(2 ^ (-(f.bias : ℤ) - f.fbits)) * one
  rw [Fmt.tiny, Fmt.tinyMag, staysBelow, f.least_eq, nearBound, awayBound, neg_iff, pos_iff, abs_signed, abs_of_pos hx, div_lt_iff₀ u, div_lt_iff₀ u,
    div_le_iff₀ u]
  rfl

theorem Fmt.lt_least_of_tinyMag {f : Fmt} {rm : RM} {neg : Bool} {x : ℚ} (h : f.tinyMag rm neg x) : x < 2 ^ (1 - (f.bias : ℤ)) := by
  have u : (0 : ℚ) < 2 ^ (-(f.bias : ℤ) - f.fbits) := by positivity
  obtain ⟨near, trunc, away⟩ := h
  rw [f.least_eq, ← div_lt_iff₀ u]
  by_cases ha : roundsAway rm neg
  · linarith [away ha]
  · by_cases hr : rm = .near
    · linarith [near hr]
    · exact trunc hr ha

/-- The model's test for tininess. -/
def Fmt.tinyAt (f : Fmt) (rm : RM) (neg : Bool) (m : Nat) (e : ℤ) : Bool :=
  leadExp m e + 1 < 1 - (f.bias : ℤ)
    || (leadExp m e < 1 - (f.bias : ℤ) && (roundAt rm neg m e (leadExp m e - f.fbits) false).1 < 2 ^ (f.fbits + 1))

theorem Fmt.tinyAt_iff (f : Fmt) (rm : RM) (neg : Bool) {m : Nat} (hm : m ≠ 0) (e : ℤ) :
    f.tinyAt rm neg m e = true ↔ f.tinyMag rm neg (m * 2 ^ e) := by
  obtain ⟨low, high⟩ := leadExp_spec hm e
  have u : (0 : ℚ) < 2 ^ (-(f.bias : ℤ) - f.fbits) := by positivity
  rcases lt_trichotomy (leadExp m e + 1) (1 - (f.bias : ℤ)) with far | here | normal
  · refine iff_of_true (by simp [Fmt.tinyAt, far]) ?_
    have bound : (m : ℚ) * 2 ^ e / 2 ^ (-(f.bias : ℤ) - f.fbits) < 2 ^ f.fbits := by
      rw [div_lt_iff₀ u, ← zpow_natCast, ← zpow_add₀ (by norm_num)]
      exact high.trans_le (zpow_le_zpow_right₀ (by norm_num) (by omega))
    have one : (1 : ℚ) ≤ 2 ^ f.fbits := one_le_pow₀ (by norm_num)
    have double : (2 : ℚ) ^ (f.fbits + 1) = 2 * 2 ^ f.fbits := by ring
    rw [Fmt.tinyMag, staysBelow, double]
    exact ⟨fun _ => by linarith, fun _ _ => by linarith, fun _ => by linarith⟩
  · have grid : leadExp m e - f.fbits = -(f.bias : ℤ) - f.fbits := by omega
    obtain ⟨n, t, ht0, ht1, split, step, -⟩ := roundAt_spec rm neg m e (leadExp m e - f.fbits)
    have small : n + 1 ≤ 2 ^ (f.fbits + 1) := by
      rw [here, f.least_eq, split, grid] at high
      have : ((n : ℕ) : ℚ) < ((2 ^ (f.fbits + 1) : ℕ) : ℚ) := by
        push_cast
        linarith [lt_of_mul_lt_mul_right high u.le]
      exact_mod_cast this
    have even : 2 ^ (f.fbits + 1) % 2 = 0 := by rw [Nat.pow_succ]; omega
    have same := staysBelow_iff (rm := rm) (neg := neg) ht0 ht1 small even
    rw [Fmt.tinyMag, split, grid, mul_div_cancel_right₀ _ u.ne']
    push_cast at same
    rw [← same, Fmt.tinyAt, decide_eq_false (by omega), decide_eq_true (show leadExp m e < 1 - (f.bias : ℤ) by omega), Bool.false_or,
      Bool.true_and, decide_eq_true_iff]
    rcases step with ⟨hN, up⟩ | ⟨hN, stay⟩
    · rw [hN, and_iff_left up]
      omega
    · rw [hN]
      exact iff_of_true small (fun h => stay h.2)
  · refine iff_of_false (by simp [Fmt.tinyAt]; omega) fun h => ?_
    have := (Fmt.lt_least_of_tinyMag h).trans_le ((zpow_le_zpow_right₀ (by norm_num) (by omega)).trans low)
    exact lt_irrefl _ this

/-- A magnitude rounded into a format: what overflows is delivered as R38 says, and the flags are those of R37. -/
theorem Fmt.roundTo_spec (f : Fmt) (hf : 0 < f.fbits) (rm : RM) (sate4 neg : Bool) {m : Nat} (hm : m ≠ 0) (e : ℤ) :
    ∃ lo t M, ∃ ix tiny : Bool, f.RoundsMag rm neg (m * 2 ^ e) lo t M ∧ (ix = true ↔ t ≠ 0) ∧ (tiny = true ↔ f.tinyMag rm neg (m * 2 ^ e))
      ∧ roundTo f rm sate4 neg m e false
        = if f.maxFinite < M then (f.pack neg (overflowTo f rm sate4 neg), fOF ||| fNX)
          else (f.pack neg M, (if ix then fNX else 0) ||| (if ix && tiny then fUF else 0)) := by
  obtain ⟨lo, t, rounds, inexact⟩ := f.roundsMag_of_roundAt hf rm neg hm e
  refine ⟨lo, t, _, _, _, rounds, inexact, f.tinyAt_iff rm neg hm e, ?_⟩
  rw [roundTo, if_neg hm]
  rfl

end Sys2Proof.Machine
end

section
/-! SUPPORT. Encodings (R27): the finite ones, sign and magnitude; a rounded magnitude delivered in a format (R37, R38). -/

namespace Sys2Proof.Machine

/-! ### Encodings -/

/-- A format with room for an exponent and a fraction. -/
structure Fmt.Wf (f : Fmt) : Prop where
  ebits : 2 ≤ f.ebits
  fbits : 1 ≤ f.fbits

namespace Fmt.Wf
variable {f : Fmt}

theorem signBit_pos (h : f.Wf) : 0 < f.signBit := by
  have := h.ebits
  rw [Fmt.signBit]
  omega

theorem two_pow_signBit (f : Fmt) : 2 ^ f.signBit = (f.expAll + 1) * 2 ^ f.fbits := by
  rw [Fmt.signBit, Fmt.expAll, Nat.sub_add_cancel Nat.one_le_two_pow, Nat.pow_add]

theorem three_le_expAll (h : f.Wf) : 3 ≤ f.expAll := by
  have : 2 ^ 2 ≤ 2 ^ f.ebits := Nat.pow_le_pow_right (by norm_num) h.ebits
  rw [Fmt.expAll]
  omega

theorem two_le_pow_fbits (h : f.Wf) : 2 ≤ 2 ^ f.fbits := Nat.le_self_pow (by have := h.fbits; omega) 2

/-- The largest finite magnitude is normal and within the format. -/
theorem maxFinite_bounds (h : f.Wf) : 2 ^ f.fbits ≤ f.maxFinite ∧ f.maxFinite < 2 ^ f.signBit := by
  have all := h.three_le_expAll
  have two := h.two_le_pow_fbits
  have whole := two_pow_signBit f
  have : 2 * 2 ^ f.fbits ≤ f.expAll * 2 ^ f.fbits := Nat.mul_le_mul_right _ (by omega)
  rw [Nat.succ_mul] at whole
  rw [Fmt.signBit] at whole ⊢
  unfold Fmt.maxFinite
  cases f.sp <;> dsimp only <;> omega

/-- The finite encodings are those of the magnitudes up to the largest finite one. -/
theorem finite_iff (h : f.Wf) (x : Nat) : f.finite x ↔ x % 2 ^ f.signBit ≤ f.maxFinite := by
  have small : x % 2 ^ f.signBit < 2 ^ f.signBit := Nat.mod_lt _ (Nat.two_pow_pos _)
  have pos : 0 < 2 ^ f.fbits := Nat.two_pow_pos _
  rw [Fmt.finite, Fmt.isNan, Fmt.isInf, f.expo_eq h.signBit_pos, f.frac_eq]
  generalize hm : x % 2 ^ f.signBit = m at *
  have whole := two_pow_signBit f
  have cut := Nat.div_add_mod m (2 ^ f.fbits)
  have hr := Nat.mod_lt m pos
  have hq : m / 2 ^ f.fbits ≤ f.expAll := Nat.lt_succ_iff.1 (by
    rw [Nat.div_lt_iff_lt_mul pos]
    exact small.trans_eq whole)
  have all := h.three_le_expAll
  have far : 3 * 2 ^ f.fbits ≤ f.expAll * 2 ^ f.fbits := Nat.mul_le_mul_right _ all
  have last : m / 2 ^ f.fbits = f.expAll ↔ f.expAll * 2 ^ f.fbits ≤ m := by
    rw [← Nat.le_div_iff_mul_le pos]
    omega
  have pow : 2 ^ (f.ebits + f.fbits) = f.expAll * 2 ^ f.fbits + 2 ^ f.fbits := by rw [← Nat.succ_mul]; exact whole
  rw [Fmt.signBit] at small
  cases hs : f.sp with
  | ieee =>
    simp only [Fmt.maxFinite, hs, beq_eq_decide, last, bne, Bool.and_eq_false_iff, Bool.not_eq_false', decide_eq_true_iff, decide_eq_false_iff_not]
    omega
  | e4m3 =>
    have edge : f.expAll * 2 ^ f.fbits ≤ m → m % 2 ^ f.fbits = m - f.expAll * 2 ^ f.fbits := by
      intro hm'
      rw [last.2 hm', Nat.mul_comm] at cut
      omega
    simp only [Fmt.maxFinite, hs, beq_eq_decide, last, Bool.and_eq_false_iff, decide_eq_false_iff_not, and_true]
    omega
  | absent =>
    simp only [Fmt.maxFinite, hs, and_self, true_iff]
    omega

end Fmt.Wf

/-- The magnitude of an encoding. -/
def Fmt.magOf (f : Fmt) (x : Nat) : Nat := x % 2 ^ f.signBit

section
variable {f : Fmt} {s : Bool} {m : Nat}

theorem Fmt.magOf_pack (hm : m < 2 ^ f.signBit) : f.magOf (f.pack s m) = m := by
  rw [Fmt.magOf, Fmt.pack, Nat.mul_add_mod_of_lt hm]

theorem Fmt.neg_eq (f : Fmt) (x : Nat) : f.neg x = decide (x / 2 ^ f.signBit % 2 = 1) := by
  rw [Fmt.neg, bitAt_eq_testBit, Nat.testBit_eq_decide_div_mod_eq]

theorem Fmt.neg_pack (hm : m < 2 ^ f.signBit) : f.neg (f.pack s m) = s := by
  rw [Fmt.neg_eq, Fmt.pack, Nat.add_comm, Nat.add_mul_div_right _ _ (Nat.two_pow_pos _), Nat.div_eq_of_lt hm]
  cases s <;> rfl

theorem Fmt.pack_lt (hm : m < 2 ^ f.signBit) : f.pack s m < 2 ^ f.width := by
  rw [Fmt.width, Nat.add_assoc, Nat.add_comm, Nat.pow_succ, ← Fmt.signBit, Fmt.pack]
  cases s <;> simp <;> omega

theorem Fmt.pack_mod_two (h : f.Wf) : f.pack s m % 2 = m % 2 := by
  obtain ⟨d, hd⟩ := Nat.exists_eq_add_of_lt h.signBit_pos
  rw [Fmt.pack, hd, show s.toNat * 2 ^ (0 + d + 1) = 2 * (s.toNat * 2 ^ d) by rw [Nat.zero_add, Nat.pow_succ]; ring, Nat.mul_add_mod]

theorem Fmt.num_pack (h : f.Wf) (hm : m < 2 ^ f.signBit) : f.num (f.pack s m) = signed s (f.mag m) := by
  rw [f.num_eq h.signBit_pos, Fmt.neg_pack hm, ← Fmt.magOf, Fmt.magOf_pack hm]

theorem Fmt.finite_pack (h : f.Wf) (hm : m ≤ f.maxFinite) : f.finite (f.pack s m) := by
  rw [h.finite_iff, ← Fmt.magOf, Fmt.magOf_pack (hm.trans_lt h.maxFinite_bounds.2)]
  exact hm

theorem Fmt.exists_of_finite (h : f.Wf) {y : Nat} (hy : f.finite y) : ∃ s k, k ≤ f.maxFinite ∧ f.num y = signed s (f.mag k) :=
  ⟨f.neg y, _, (h.finite_iff y).1 hy, f.num_eq h.signBit_pos y⟩

end

theorem signed_neg_iff {neg : Bool} {x : ℚ} (hx : 0 < x) : signed neg x < 0 ↔ neg = true := by
  cases neg <;> simp [signed, hx, hx.le]

theorem decide_signed_neg {neg : Bool} {x : ℚ} (hx : 0 < x) : decide (signed neg x < 0) = neg := by
  simp only [signed_neg_iff hx, Bool.decide_eq_true]

theorem signed_ne_zero {neg : Bool} {x : ℚ} (hx : 0 < x) : signed neg x ≠ 0 := by
  cases neg <;> simp [signed, hx.ne']

theorem signed_sub (neg : Bool) (x y : ℚ) : signed neg x - signed neg y = signed neg (x - y) := by
  cases neg <;> simp [signed]
  ring

theorem signed_zero (neg : Bool) : signed neg 0 = 0 := by cases neg <;> simp [signed]

theorem abs_signed_of_nonneg (neg : Bool) {x : ℚ} (hx : 0 ≤ x) : |signed neg x| = x := by rw [abs_signed, abs_of_nonneg hx]

/-- The nearest magnitude with the number's sign is the nearest encoding (R38). -/
theorem Fmt.nearest_pack {f : Fmt} (h : f.Wf) (neg : Bool) {x : ℚ} {m : Nat} (hx : 0 < x) (hm : m ≤ f.maxFinite)
    (least : ∀ k, k ≤ f.maxFinite → |x - f.mag m| ≤ |x - f.mag k| ∧ (|x - f.mag m| = |x - f.mag k| → k ≠ m → m % 2 = 0)) :
    f.nearest (signed neg x) (f.pack neg m) := by
  have lt := hm.trans_lt h.maxFinite_bounds.2
  refine ⟨Fmt.pack_lt lt, Fmt.finite_pack h hm, fun _ => by rw [Fmt.neg_pack lt, decide_signed_neg hx], fun y hy => ?_⟩
  obtain ⟨s, k, hk, num⟩ := Fmt.exists_of_finite h hy
  rw [num, Fmt.num_pack h lt, Fmt.pack_mod_two h, signed_sub, abs_signed]
  obtain ⟨near, tie⟩ := least k hk
  by_cases hs : s = neg
  · subst hs
    rw [signed_sub, abs_signed]
    exact ⟨near, fun heq hne => tie heq fun he => hne (by rw [he])⟩
  · have apart : |signed neg x - signed s (f.mag k)| = x + f.mag k := by
      have := f.mag_nonneg k
      rw [show signed neg x - signed s (f.mag k) = signed neg (x + f.mag k) by cases s <;> cases neg <;> simp_all [signed]; ring]
      exact abs_signed_of_nonneg _ (by linarith)
    obtain ⟨near0, tie0⟩ := least 0 (Nat.zero_le _)
    rw [f.mag_zero, sub_zero, abs_of_pos hx] at near0 tie0
    rw [apart]
    have := f.mag_nonneg k
    refine ⟨by linarith, fun heq _ => ?_⟩
    by_contra odd
    exact odd (tie0 (by linarith) (by omega))

/-- A zero of either sign is nearest to zero. -/
theorem Fmt.nearest_zero {f : Fmt} (h : f.Wf) (neg : Bool) : f.nearest 0 (f.pack neg 0) := by
  have num : f.num (f.pack neg 0) = 0 := by rw [Fmt.num_pack h (Nat.two_pow_pos _), f.mag_zero, signed_zero]
  refine ⟨Fmt.pack_lt (Nat.two_pow_pos _), Fmt.finite_pack h (Nat.zero_le _), fun hx => absurd rfl hx, fun y _ => ?_⟩
  rw [num, sub_zero, abs_zero]
  exact ⟨abs_nonneg _, fun heq hne => absurd (by simpa using heq.symm) hne⟩

end Sys2Proof.Machine
end

section
/-! SUPPORT. Rounding into a format with infinities (R37, R38), of a signed magnitude and of an exact number. -/

namespace Sys2Proof.Machine

/-- A format with infinities. -/
structure Fmt.Ieee (f : Fmt) : Prop extends f.Wf where
  sp : f.sp = .ieee

theorem fp32_ieee : fp32.Ieee := ⟨⟨by decide, by decide⟩, rfl⟩
theorem bf16_ieee : bf16.Ieee := ⟨⟨by decide, by decide⟩, rfl⟩
theorem fp16_ieee : fp16.Ieee := ⟨⟨by decide, by decide⟩, rfl⟩

theorem Fmt.inf_lt (f : Fmt) : f.inf < 2 ^ f.signBit := by
  rw [Wf.two_pow_signBit, Fmt.inf]
  exact Nat.mul_lt_mul_of_pos_right (Nat.lt_succ_self _) (Nat.two_pow_pos _)

namespace Fmt.Ieee
variable {f : Fmt}

theorem maxFinite_eq (h : f.Ieee) : f.maxFinite + 1 = f.inf := by
  have := Nat.mul_le_mul h.three_le_expAll h.two_le_pow_fbits
  simp only [Fmt.maxFinite, h.sp, Fmt.inf]
  omega

theorem maxFinite_odd (h : f.Ieee) : f.maxFinite % 2 = 1 := by
  have even : f.inf % 2 = 0 := by
    obtain ⟨d, hd⟩ := Nat.exists_eq_add_of_lt h.fbits
    rw [Fmt.inf, hd, show f.expAll * 2 ^ (0 + d + 1) = 2 * (f.expAll * 2 ^ d) by rw [Nat.zero_add, Nat.pow_succ]; ring, Nat.mul_mod_right]
  have := h.maxFinite_eq
  omega

theorem not_finite_pack_inf (h : f.Ieee) (s : Bool) : ¬f.finite (f.pack s f.inf) := by
  rw [h.finite_iff, ← Fmt.magOf, Fmt.magOf_pack f.inf_lt, ← h.maxFinite_eq]
  omega

/-- Past the largest finite magnitude: the next power of two. -/
theorem mag_inf (h : f.Ieee) : f.mag (f.maxFinite + 1) = 2 ^ ((f.expAll : ℤ) - f.bias) := by
  rw [h.maxFinite_eq, Fmt.mag, Fmt.inf, Nat.mul_div_cancel _ (Nat.two_pow_pos _), Nat.mul_mod_left,
    if_neg (by have := h.three_le_expAll; omega), Nat.cast_zero, add_zero, ← zpow_natCast, ← zpow_add₀ (by norm_num)]
  congr 1
  ring

/-- The largest finite magnitude lies two halves of its last place below. -/
theorem mag_maxFinite (h : f.Ieee) : f.mag (f.maxFinite + 1) = f.mag f.maxFinite + 2 * 2 ^ ((f.expAll : ℤ) - f.bias - f.fbits - 2) := by
  have all := h.three_le_expAll
  obtain ⟨n, low, high⟩ := f.mag_step f.maxFinite
  have pos := Nat.two_pow_pos f.fbits
  have quot : f.maxFinite / 2 ^ f.fbits = f.expAll - 1 := by
    have := h.maxFinite_eq
    rw [Fmt.inf] at this
    refine Nat.div_eq_of_lt_le ?_ ?_
    · rw [Nat.sub_mul, Nat.one_mul]
      omega
    · rw [Nat.sub_add_cancel (by omega)]
      omega
  have exp : f.gridExp f.maxFinite = 1 + ((f.expAll : ℤ) - f.bias - f.fbits - 2) := by
    rw [Fmt.gridExp, quot]
    omega
  rw [high, low, exp, zpow_one_add₀ (by norm_num)]
  push_cast
  ring

theorem num_maxFinite (h : f.Ieee) : f.num f.maxFinite = f.mag f.maxFinite := by
  have := Fmt.num_pack h.toWf (s := false) h.maxFinite_bounds.2
  rwa [Fmt.pack, Bool.toNat_false, Nat.zero_mul, Nat.zero_add] at this

end Fmt.Ieee

/-! ### Overflow -/

/-- Whether an overflow delivers an infinity (R38). -/
def overflowsToInf (rm : RM) (neg : Bool) : Prop := rm = .near ∨ roundsAway rm neg

theorem Fmt.Ieee.overflowTo_eq {f : Fmt} (h : f.Ieee) (rm : RM) (sate4 neg : Bool) :
    (overflowsToInf rm neg → overflowTo f rm sate4 neg = f.inf) ∧ (¬overflowsToInf rm neg → overflowTo f rm sate4 neg = f.maxFinite) := by
  cases rm <;> cases neg <;> simp [overflowsToInf, roundsAway, overflowTo, h.sp]

section
variable {f : Fmt} {rm : RM} {neg : Bool} {x t : ℚ} {lo m : ℕ}

/-- To nearest: a number overflows from half a last place above the largest finite one on. -/
theorem Fmt.RoundsMag.over_near (h : f.RoundsMag .near neg x lo t m) (hf : f.Ieee) :
    f.mag f.maxFinite + 2 ^ ((f.expAll : ℤ) - f.bias - f.fbits - 2) ≤ x ↔ f.maxFinite < m := by
  have half : (0 : ℚ) < 2 ^ ((f.expAll : ℤ) - f.bias - f.fbits - 2) := by positivity
  have past := hf.mag_maxFinite
  have odd := hf.maxFinite_odd
  have split := h.split
  rcases lt_trichotomy lo f.maxFinite with below | rfl | above
  · have small := h.lt_next.trans_le (f.mag_strictMono.monotone below)
    refine iff_of_false (by linarith) ?_
    rcases h.eq_or with rfl | rfl <;> omega
  · rw [past] at split
    have part : f.mag f.maxFinite + 2 ^ ((f.expAll : ℤ) - f.bias - f.fbits - 2) ≤ x ↔ 1 / 2 ≤ t := by
      rw [split]
      constructor
      · intro hx
        by_contra ht
        nlinarith
      · intro ht
        nlinarith
    rw [part]
    rcases h.step with ⟨rfl, up⟩ | ⟨rfl, stay⟩
    · exact iff_of_true (by rcases up with up | ⟨up, -⟩ <;> linarith) (Nat.lt_succ_self _)
    · refine iff_of_false (fun ht => stay ?_) (lt_irrefl _)
      rcases ht.lt_or_eq with ht | ht
      · exact .inl ht
      · exact .inr ⟨ht.symm, odd⟩
  · have large := (f.mag_strictMono.monotone (show f.maxFinite + 1 ≤ lo from above)).trans h.lo_le
    refine iff_of_true (by linarith) ?_
    rcases h.eq_or with rfl | rfl <;> omega

theorem Fmt.RoundsMag.toInf_iff (h : f.RoundsMag rm neg x lo t m) (hf : f.Ieee) (hx : 0 < x) :
    f.toInf rm (signed neg x) ↔ f.maxFinite < m ∧ overflowsToInf rm neg := by
  have top := f.mag_nonneg f.maxFinite
  have away (ha : roundsAway rm neg) : f.mag f.maxFinite < x ↔ f.maxFinite < m := by
    rw [← not_le, h.le_mag_iff_of_away ha, not_le]
  cases rm with
  | near => simp [Fmt.toInf, hf.num_maxFinite, abs_signed, abs_of_pos hx, h.over_near hf, overflowsToInf]
  | zero => simp [Fmt.toInf, overflowsToInf, roundsAway]
  | down =>
    cases neg with
    | true => simp [Fmt.toInf, hf.num_maxFinite, signed, away (.inl ⟨rfl, rfl⟩), overflowsToInf, roundsAway]
    | false =>
      simp [Fmt.toInf, hf.num_maxFinite, signed, overflowsToInf, roundsAway]
      linarith
  | up =>
    cases neg with
    | true =>
      simp [Fmt.toInf, hf.num_maxFinite, signed, overflowsToInf, roundsAway]
      linarith
    | false => simp [Fmt.toInf, hf.num_maxFinite, signed, away (.inr ⟨rfl, rfl⟩), overflowsToInf, roundsAway]

theorem Fmt.RoundsMag.over_iff (h : f.RoundsMag rm neg x lo t m) (hf : f.Ieee) (hx : 0 < x) :
    f.over rm (signed neg x) ↔ f.maxFinite < m := by
  have past : (0 : ℚ) < 2 ^ ((f.expAll : ℤ) - f.bias) := by positivity
  have trunc (hn : rm ≠ .near) (ha : ¬roundsAway rm neg) : 2 ^ ((f.expAll : ℤ) - f.bias) ≤ x ↔ f.maxFinite < m := by
    rw [← hf.mag_inf, h.mag_le_iff, h.eq_lo_of_trunc hn ha, Nat.succ_le_iff]
  rw [Fmt.over.eq_def, h.toInf_iff hf hx]
  cases rm with
  | near => simp [overflowsToInf]
  | zero => simp [overflowsToInf, roundsAway, abs_signed, abs_of_pos hx, trunc]
  | down =>
    cases neg with
    | true =>
      simp [overflowsToInf, roundsAway, signed]
      intro
      linarith
    | false => simp [overflowsToInf, roundsAway, signed, trunc]
  | up =>
    cases neg with
    | true => simp [overflowsToInf, roundsAway, signed, trunc]
    | false =>
      simp [overflowsToInf, roundsAway, signed]
      intro
      linarith

end

/-! ### The delivered encoding -/

/-- What a mode other than to nearest asks of the finite encoding of a number. -/
def Fmt.directed (f : Fmt) (rm : RM) (x : ℚ) (r : Nat) : Prop :=
  match rm with
  | .near => True
  | .zero => |f.num r| ≤ |x| ∧ ∀ y, f.finite y → |f.num y| ≤ |x| → |f.num y| ≤ |f.num r|
  | .down => f.num r ≤ x ∧ ∀ y, f.finite y → f.num y ≤ x → f.num y ≤ f.num r
  | .up => x ≤ f.num r ∧ ∀ y, f.finite y → x ≤ f.num y → f.num r ≤ f.num y

section
variable {f : Fmt} {rm : RM} {neg : Bool} {x : ℚ} {m : ℕ}

/-- Toward zero: the greatest magnitude that is not above. -/
theorem Fmt.directed_of_trunc (hf : f.Wf) (ha : ¬roundsAway rm neg) (hx : 0 < x) (hm : m ≤ f.maxFinite) (le : f.mag m ≤ x)
    (greatest : ∀ k, k ≤ f.maxFinite → f.mag k ≤ x → k ≤ m) : f.directed rm (signed neg x) (f.pack neg m) := by
  have num := Fmt.num_pack hf (s := neg) (hm.trans_lt hf.maxFinite_bounds.2)
  have mono (k : ℕ) (hk : k ≤ f.maxFinite) (hkx : f.mag k ≤ x) : f.mag k ≤ f.mag m := f.mag_strictMono.monotone (greatest k hk hkx)
  have m0 := f.mag_nonneg m
  rw [Fmt.directed.eq_def, num]
  cases rm with
  | near => trivial
  | zero =>
    dsimp only
    rw [abs_signed, abs_signed, abs_of_pos hx, abs_of_nonneg m0]
    refine ⟨le, fun y hy hyx => ?_⟩
    obtain ⟨s, k, hk, hn⟩ := Fmt.exists_of_finite hf hy
    rw [hn, abs_signed, abs_of_nonneg (f.mag_nonneg k)] at hyx ⊢
    exact mono k hk hyx
  | down =>
    obtain rfl : neg = false := by cases neg <;> simp_all [roundsAway]
    refine ⟨le, fun y hy hyx => ?_⟩
    obtain ⟨s, k, hk, hn⟩ := Fmt.exists_of_finite hf hy
    have k0 := f.mag_nonneg k
    rw [hn] at hyx ⊢
    cases s with
    | true => exact (neg_nonpos.2 k0).trans m0
    | false => exact mono k hk hyx
  | up =>
    obtain rfl : neg = true := by cases neg <;> simp_all [roundsAway]
    refine ⟨neg_le_neg le, fun y hy hyx => ?_⟩
    obtain ⟨s, k, hk, hn⟩ := Fmt.exists_of_finite hf hy
    have k0 := f.mag_nonneg k
    rw [hn] at hyx ⊢
    cases s with
    | true => exact neg_le_neg (mono k hk (neg_le_neg_iff.1 hyx))
    | false => exact (neg_nonpos.2 m0).trans k0

/-- Away from zero: the least magnitude that is not below. -/
theorem Fmt.directed_of_away (hf : f.Wf) (ha : roundsAway rm neg) (hx : 0 < x) (hm : m ≤ f.maxFinite) (least : ∀ k, x ≤ f.mag k ↔ m ≤ k) :
    f.directed rm (signed neg x) (f.pack neg m) := by
  have num := Fmt.num_pack hf (s := neg) (hm.trans_lt hf.maxFinite_bounds.2)
  have ge : x ≤ f.mag m := (least m).2 le_rfl
  have mono (k : ℕ) (hkx : x ≤ f.mag k) : f.mag m ≤ f.mag k := f.mag_strictMono.monotone ((least k).1 hkx)
  rw [Fmt.directed.eq_def, num]
  rcases ha with ⟨rfl, rfl⟩ | ⟨rfl, rfl⟩
  · refine ⟨neg_le_neg ge, fun y hy hyx => ?_⟩
    obtain ⟨s, k, hk, hn⟩ := Fmt.exists_of_finite hf hy
    have k0 := f.mag_nonneg k
    rw [hn] at hyx ⊢
    cases s with
    | true => exact neg_le_neg (mono k (neg_le_neg_iff.1 hyx))
    | false =>
      have : f.mag k ≤ -x := hyx
      linarith
  · refine ⟨ge, fun y hy hyx => ?_⟩
    obtain ⟨s, k, hk, hn⟩ := Fmt.exists_of_finite hf hy
    have k0 := f.mag_nonneg k
    rw [hn] at hyx ⊢
    cases s with
    | true =>
      have : x ≤ -f.mag k := hyx
      linarith
    | false => exact mono k hyx

theorem Fmt.rounds_of_toInf (hx : 0 < x) (inf : f.toInf rm (signed neg x)) : f.rounds rm (signed neg x) (f.pack neg f.inf) := by
  refine ⟨fun _ => ?_, fun h => absurd inf h⟩
  congr 1
  exact (decide_signed_neg hx).symm

theorem Fmt.rounds_of_finite (hf : f.Wf) (hx : 0 < x) (hm : m ≤ f.maxFinite) (fin : ¬f.toInf rm (signed neg x))
    (near : rm = .near → f.nearest (signed neg x) (f.pack neg m)) (directed : f.directed rm (signed neg x) (f.pack neg m)) :
    f.rounds rm (signed neg x) (f.pack neg m) := by
  have lt := hm.trans_lt hf.maxFinite_bounds.2
  refine ⟨fun h => absurd h fin, fun _ => ⟨Fmt.pack_lt lt, Fmt.finite_pack hf hm, fun _ => by rw [Fmt.neg_pack lt, decide_signed_neg hx], ?_⟩⟩
  cases rm with
  | near => exact near rfl
  | zero => exact directed
  | down => exact directed
  | up => exact directed

end

/-- The magnitude that is delivered: what overflows goes as R38 says. -/
def Fmt.delivered (f : Fmt) (rm : RM) (neg : Bool) (m : Nat) : Nat := if f.maxFinite < m then overflowTo f rm true neg else m

theorem Fmt.RoundsMag.rounds {f : Fmt} {rm : RM} {neg : Bool} {x t : ℚ} {lo m : ℕ} (h : f.RoundsMag rm neg x lo t m) (hf : f.Ieee) (hx : 0 < x) :
    f.rounds rm (signed neg x) (f.pack neg (f.delivered rm neg m)) := by
  have inf := h.toInf_iff hf hx
  rw [Fmt.delivered]
  split
  · next big =>
    by_cases hi : overflowsToInf rm neg
    · rw [(hf.overflowTo_eq rm true neg).1 hi]
      exact Fmt.rounds_of_toInf hx (inf.2 ⟨big, hi⟩)
    · rw [(hf.overflowTo_eq rm true neg).2 hi]
      obtain ⟨hn, ha⟩ := not_or.1 hi
      rw [h.eq_lo_of_trunc hn ha] at big
      exact Fmt.rounds_of_finite hf.toWf hx le_rfl (fun h => hi (inf.1 h).2) (fun h => absurd h hn)
        (Fmt.directed_of_trunc hf.toWf ha hx le_rfl ((h.mag_le_iff _).2 big.le) fun k hk _ => hk)
  · next small =>
    have hm := not_lt.1 small
    refine Fmt.rounds_of_finite hf.toWf hx hm (fun h => small (inf.1 h).1) ?_ ?_
    · rintro rfl
      exact Fmt.nearest_pack hf.toWf neg hx hm fun k _ => h.near k
    · by_cases ha : roundsAway rm neg
      · exact Fmt.directed_of_away hf.toWf ha hx hm (h.le_mag_iff_of_away ha)
      · by_cases hn : rm = .near
        · subst hn
          trivial
        · have := h.eq_lo_of_trunc hn ha
          subst this
          exact Fmt.directed_of_trunc hf.toWf ha hx hm h.lo_le fun k _ hk => (h.mag_le_iff k).1 hk

/-- The flags of a rounded magnitude. -/
def roundFlags (big inexact tiny : Bool) : FF :=
  if big then fOF ||| fNX else (if inexact then fNX else 0) ||| (if inexact && tiny then fUF else 0)

theorem roundFlags_spec (big inexact tiny : Bool) :
    (roundFlags big inexact tiny &&& fOF ≠ 0 ↔ big = true)
    ∧ (roundFlags big inexact tiny &&& fNX ≠ 0 ↔ big = true ∨ inexact = true)
    ∧ (roundFlags big inexact tiny &&& fUF ≠ 0 ↔ big = false ∧ inexact = true ∧ tiny = true)
    ∧ roundFlags big inexact tiny &&& (fNV ||| fDZ) = 0 := by
  revert big inexact tiny
  decide

theorem Fmt.RoundsMag.raises {f : Fmt} {rm : RM} {neg : Bool} {x t : ℚ} {lo m : ℕ} (h : f.RoundsMag rm neg x lo t m) (hf : f.Ieee) (hx : 0 < x)
    {ix tiny : Bool} (hix : ix = true ↔ t ≠ 0) (htiny : tiny = true ↔ f.tinyMag rm neg x) :
    f.raises rm (signed neg x) (f.pack neg (f.delivered rm neg m)) (roundFlags (f.maxFinite < m) ix tiny) := by
  obtain ⟨hOF, hNX, hUF, hno⟩ := roundFlags_spec (f.maxFinite < m) ix tiny
  rw [decide_eq_true_iff] at hOF hNX
  rw [decide_eq_false_iff_not, hix, htiny] at hUF
  rw [hix] at hNX
  have inexact : ¬(f.finite (f.pack neg (f.delivered rm neg m)) ∧ f.num (f.pack neg (f.delivered rm neg m)) = signed neg x)
      ↔ f.maxFinite < m ∨ t ≠ 0 := by
    rw [Fmt.delivered]
    split
    · next big =>
      refine iff_of_true ?_ (.inl big)
      rintro ⟨fin, num⟩
      by_cases hi : overflowsToInf rm neg
      · rw [(hf.overflowTo_eq rm true neg).1 hi] at fin
        exact hf.not_finite_pack_inf neg fin
      · rw [(hf.overflowTo_eq rm true neg).2 hi, Fmt.num_pack hf.toWf hf.maxFinite_bounds.2] at num
        obtain ⟨hn, ha⟩ := not_or.1 hi
        rw [h.eq_lo_of_trunc hn ha] at big
        have := (f.mag_strictMono big).trans_le h.lo_le
        have same := congrArg abs num
        rw [abs_signed_of_nonneg _ (f.mag_nonneg _), abs_signed_of_nonneg _ hx.le] at same
        exact this.ne same
    · next small =>
      have hm := not_lt.1 small
      rw [or_iff_right small, not_iff_not, and_iff_right (Fmt.finite_pack hf.toWf hm), Fmt.num_pack hf.toWf (hm.trans_lt hf.maxFinite_bounds.2),
        ← h.exact_iff]
      cases neg <;> simp [signed]
  rw [Fmt.raises, h.over_iff hf hx, inexact, f.tiny_iff rm neg hx]
  refine ⟨hOF, hNX, hUF.trans ⟨fun ⟨_, i, t⟩ => ⟨.inr i, t⟩, fun ⟨i, tiny⟩ => ?_⟩, hno⟩
  have small : ¬f.maxFinite < m := by
    intro big
    have lo_big : 2 ^ f.fbits ≤ lo := by
      have := hf.maxFinite_bounds.1
      rcases h.eq_or with rfl | rfl <;> omega
    have least : f.mag (2 ^ f.fbits) = 2 ^ (1 - (f.bias : ℤ)) := by
      rw [Fmt.mag, Nat.div_self (Nat.two_pow_pos _), Nat.mod_self, if_neg one_ne_zero, Nat.cast_zero, add_zero, ← zpow_natCast,
        ← zpow_add₀ (by norm_num)]
      congr 1
      push_cast
      ring
    have := (f.mag_strictMono.monotone lo_big).trans h.lo_le
    rw [least] at this
    exact absurd (Fmt.lt_least_of_tinyMag tiny) (not_lt.2 this)
  exact ⟨small, i.resolve_left small, tiny⟩

/-- `r` is what an exact number `x` gives in a format with infinities: the encoding and the flags; `z` is the sign of a zero. -/
def Fmt.exactly (f : Fmt) (rm : RM) (x : ℚ) (z : Bool) (r : Nat × FF) : Prop :=
  (x = 0 → r = (f.pack z 0, 0)) ∧ (x ≠ 0 → f.rounds rm x r.1 ∧ f.raises rm x r.1 r.2)

theorem roundTo_exactly {f : Fmt} (hf : f.Ieee) (rm : RM) (neg : Bool) (m : Nat) (e : ℤ) :
    f.exactly rm (signed neg (m * 2 ^ e)) neg (roundTo f rm true neg m e false) := by
  rcases Nat.eq_zero_or_pos m with rfl | hm
  · refine ⟨fun _ => by rw [roundTo, if_pos rfl], fun h => absurd ?_ h⟩
    rw [Nat.cast_zero, zero_mul, signed_zero]
  · have hx : (0 : ℚ) < m * 2 ^ e := by positivity
    obtain ⟨lo, t, M, ix, tiny, rounds, hix, htiny, eq⟩ := f.roundTo_spec hf.fbits rm true neg hm.ne' e
    have both : roundTo f rm true neg m e false = (f.pack neg (f.delivered rm neg M), roundFlags (f.maxFinite < M) ix tiny) := by
      rw [eq, Fmt.delivered, roundFlags]
      by_cases big : f.maxFinite < M <;> simp [big]
    refine ⟨fun h => absurd h (signed_ne_zero hx), fun _ => ?_⟩
    rw [both]
    exact ⟨rounds.rounds hf hx, rounds.raises hf hx hix htiny⟩

/-! ### Exact numbers -/

/-- The number of a signed exact number. -/
def Dy.num (d : Dy) : ℚ := d.m * 2 ^ d.e

theorem Dy.num_add (a b : Dy) : (a.add b).num = a.num + b.num := by
  have shift (m : Int) (e e' : ℤ) (h : e' ≤ e) : ((m * 2 ^ (e - e').toNat : ℤ) : ℚ) * 2 ^ e' = m * 2 ^ e := by
    push_cast
    rw [mul_assoc, ← zpow_natCast, ← zpow_add₀ (by norm_num), Int.toNat_of_nonneg (by omega), sub_add_cancel]
  have low (e e' : ℤ) : (if e ≤ e' then e else e') = min e e' := rfl
  rw [Dy.add, Dy.num, low]
  dsimp only
  rw [Int.cast_add, add_mul, shift _ _ _ (min_le_left _ _), shift _ _ _ (min_le_right _ _)]
  rfl

theorem num_dyOf (neg : Bool) (m : Nat) (e : ℤ) : (dyOf neg m e).num = signed neg (m * 2 ^ e) := by
  cases neg <;> simp [dyOf, Dy.num, signed]

theorem Dy.num_eq_zero_iff (d : Dy) : d.num = 0 ↔ d.m = 0 := by
  rw [Dy.num, mul_eq_zero, or_iff_left (by positivity), Int.cast_eq_zero]

theorem Dy.num_eq_signed (d : Dy) : d.num = signed (d.m < 0) (d.m.natAbs * 2 ^ d.e) := by
  rw [Dy.num, signed]
  by_cases h : d.m < 0
  · rw [if_pos (decide_eq_true h), Nat.cast_natAbs, abs_of_neg h]
    push_cast
    ring
  · rw [if_neg (by simpa using h), Nat.cast_natAbs, abs_of_nonneg (not_lt.1 h)]

theorem roundDy_exactly {f : Fmt} (hf : f.Ieee) (rm : RM) (z : Bool) (d : Dy) : f.exactly rm d.num z (roundDy f rm true z d) := by
  rw [roundDy]
  split
  · next h => exact ⟨fun _ => rfl, fun hne => absurd (d.num_eq_zero_iff.2 h) hne⟩
  · next h =>
    refine ⟨fun hz => absurd (d.num_eq_zero_iff.1 hz) h, fun hne => ?_⟩
    rw [d.num_eq_signed] at hne ⊢
    exact (roundTo_exactly hf rm (d.m < 0) d.m.natAbs d.e).2 hne

end Sys2Proof.Machine
end

section
/-! SUPPORT. The floating operations by the kinds of their operands (R38): NaNs, infinities and finite numbers. -/

namespace Sys2Proof.Machine

/-! ### Kinds of encodings -/

section
variable {f : Fmt}

theorem Fmt.isNan_congr {x y : Nat} (hf : f.Wf) (h : f.magOf x = f.magOf y) : f.isNan x = f.isNan y := by
  rw [Fmt.magOf, Fmt.magOf] at h
  simp only [Fmt.isNan, f.expo_eq hf.signBit_pos, f.frac_eq, h]

theorem Fmt.isInf_congr {x y : Nat} (hf : f.Wf) (h : f.magOf x = f.magOf y) : f.isInf x = f.isInf y := by
  rw [Fmt.magOf, Fmt.magOf] at h
  simp only [Fmt.isInf, f.expo_eq hf.signBit_pos, f.frac_eq, h]

theorem Fmt.isNan_of_isInf {x : Nat} (h : f.isInf x = true) : f.isNan x = false := by
  cases hs : f.sp <;> simp_all [Fmt.isInf, Fmt.isNan]

theorem Fmt.magOf_eq_zero_iff (hf : f.Wf) (x : Nat) : f.magOf x = 0 ↔ f.expo x = 0 ∧ f.frac x = 0 := by
  have cut := Nat.div_add_mod (f.magOf x) (2 ^ f.fbits)
  rw [f.expo_eq hf.signBit_pos, f.frac_eq, ← Fmt.magOf]
  constructor
  · intro h
    simp [h]
  · rintro ⟨he, hr⟩
    rw [← cut, he, hr, mul_zero]

theorem Fmt.finite_of_magOf_eq_zero (hf : f.Wf) {x : Nat} (h : f.magOf x = 0) : f.finite x := by
  rw [hf.finite_iff, ← Fmt.magOf, h]
  exact Nat.zero_le _

theorem Fmt.val_of_isNan {x : Nat} (h : f.isNan x = true) : f.val x = .nan := by rw [Fmt.val, if_pos h]

theorem Fmt.val_of_isInf {x : Nat} (h : f.isInf x = true) : f.val x = .inf (f.neg x) := by
  rw [Fmt.val, if_neg (by simp [Fmt.isNan_of_isInf h]), if_pos h]

/-- The value of a finite encoding is its sign and its number. -/
theorem Fmt.val_of_finite (hf : f.Wf) {x : Nat} (h : f.finite x) :
    ∃ (m : ℕ) (e : ℤ), f.val x = .fin (f.neg x) m e ∧ f.num x = signed (f.neg x) (m * 2 ^ e) ∧ (m = 0 ↔ f.magOf x = 0) := by
  rw [Fmt.val, if_neg (by simp [h.1]), if_neg (by simp [h.2]), Fmt.magOf_eq_zero_iff hf, Fmt.num]
  by_cases he : f.expo x = 0
  · rw [if_pos he, if_pos he]
    exact ⟨_, _, rfl, rfl, by simp [he]⟩
  · rw [if_neg he, if_neg he]
    refine ⟨_, _, rfl, ?_, by simp [he]⟩
    push_cast
    rfl

/-- The value of an encoding by its kind. -/
theorem Fmt.val_cases (hf : f.Wf) (x : Nat) :
    (f.val x = .nan ∧ f.isInf x = false ∧ f.magOf x ≠ 0) ∨ (f.val x = .inf (f.neg x) ∧ f.isInf x = true ∧ f.magOf x ≠ 0)
    ∨ ∃ (m : ℕ) (e : ℤ), f.val x = .fin (f.neg x) m e ∧ f.isInf x = false ∧ (m = 0 ↔ f.magOf x = 0) := by
  have zero (h : ¬f.finite x) : f.magOf x ≠ 0 := fun h0 => h (Fmt.finite_of_magOf_eq_zero hf h0)
  cases hn : f.isNan x with
  | true =>
    refine .inl ⟨Fmt.val_of_isNan hn, ?_, zero fun h => by simp [h.1] at hn⟩
    exact Bool.eq_false_iff.2 fun hi => by simp [Fmt.isNan_of_isInf hi] at hn
  | false =>
    cases hi : f.isInf x with
    | true => exact .inr (.inl ⟨Fmt.val_of_isInf hi, rfl, zero fun h => by simp [h.2] at hi⟩)
    | false =>
      obtain ⟨m, e, hv, -, hm⟩ := Fmt.val_of_finite hf ⟨hn, hi⟩
      exact .inr (.inr ⟨m, e, hv, rfl, hm⟩)

/-- An encoding is a NaN, an infinity or finite. -/
theorem Fmt.kinds (f : Fmt) (x : Nat) : f.isNan x = true ∨ f.isInf x = true ∨ f.finite x := by
  cases hn : f.isNan x <;> cases hi : f.isInf x <;> simp [Fmt.finite, hn, hi]

/-- An operand that is no NaN is an infinity or finite. -/
theorem Fmt.kinds_of_not_nan {x : Nat} (h : f.isNan x = false) : f.isInf x = true ∨ f.finite x := by
  rcases f.kinds x with hn | hx
  · simp [h] at hn
  · exact hx

theorem Fmt.num_eq_zero_iff (hf : f.Wf) (x : Nat) : f.num x = 0 ↔ f.magOf x = 0 := by
  rw [f.num_eq hf.signBit_pos, ← Fmt.magOf]
  constructor
  · intro h
    have := congrArg abs h
    rw [abs_signed_of_nonneg _ (f.mag_nonneg _), abs_zero, ← f.mag_zero] at this
    exact f.mag_strictMono.injective this
  · intro h
    rw [h, f.mag_zero, signed_zero]

/-! ### NaN operands -/

theorem nanOf_eq_none {xs : List Nat} (h : ∀ x ∈ xs, f.isNan x = false) : nanOf f xs = none := by
  have : xs.find? f.isNan = none := List.find?_eq_none.2 fun x hx => by simp [h x hx]
  simp only [nanOf, this]

theorem nanOf_of_find {xs : List Nat} {x : Nat} (h : xs.find? f.isNan = some x) :
    nanOf f xs = some (f.quiet x, if xs.any f.isSnan then fNV else 0) := by
  simp only [nanOf, h]

/-! ### The sign inverted -/

theorem Fmt.magOf_fNeg (x : Nat) : f.magOf (fNeg f x) = f.magOf x := by
  rw [fNeg]
  split
  · rfl
  · rw [Fmt.magOf, Nat.xor_mod_two_pow, Nat.mod_self, Nat.xor_zero, Fmt.magOf]

theorem Fmt.isNan_fNeg (hf : f.Wf) (x : Nat) : f.isNan (fNeg f x) = f.isNan x := Fmt.isNan_congr hf (Fmt.magOf_fNeg x)

theorem Fmt.isInf_fNeg (hf : f.Wf) (x : Nat) : f.isInf (fNeg f x) = f.isInf x := Fmt.isInf_congr hf (Fmt.magOf_fNeg x)

theorem Fmt.finite_fNeg (hf : f.Wf) {x : Nat} (h : f.finite x) : f.finite (fNeg f x) := by
  rwa [Fmt.finite, Fmt.isNan_fNeg hf, Fmt.isInf_fNeg hf]

theorem Fmt.isSnan_fNeg (hf : f.Wf) (x : Nat) : f.isSnan (fNeg f x) = f.isSnan x := by
  cases h : f.isNan x with
  | true => rw [fNeg, if_pos h]
  | false => rw [Fmt.isSnan, Fmt.isSnan, Fmt.isNan_fNeg hf, h, Bool.false_and, Bool.false_and]

theorem Fmt.neg_fNeg {x : Nat} (h : f.isNan x = false) : f.neg (fNeg f x) = !f.neg x := by
  rw [fNeg, if_neg (by simp [h]), Fmt.neg, Fmt.neg, bitAt_eq_testBit, bitAt_eq_testBit, Nat.testBit_xor, Nat.testBit_two_pow_self, Bool.xor_true]

theorem signed_not (neg : Bool) (x : ℚ) : signed (!neg) x = -signed neg x := by cases neg <;> simp [signed]

theorem Fmt.num_fNeg (hf : f.Wf) {x : Nat} (h : f.isNan x = false) : f.num (fNeg f x) = -f.num x := by
  rw [f.num_eq hf.signBit_pos, f.num_eq hf.signBit_pos, Fmt.neg_fNeg h, ← Fmt.magOf, ← Fmt.magOf, Fmt.magOf_fNeg, signed_not]

/-- Subtraction takes the NaN that addition takes. -/
theorem find_isNan_fNeg (hf : f.Wf) {a b x : Nat} (h : [a, b].find? f.isNan = some x) : [a, fNeg f b].find? f.isNan = some x := by
  cases hb : f.isNan b with
  | true => rwa [fNeg, if_pos hb]
  | false =>
    have := Fmt.isNan_fNeg hf b
    simp only [List.find?_cons, List.find?_nil, this, hb] at h ⊢
    exact h

/-! ### Addition and subtraction -/

theorem fAdd_nan {rm : RM} {a b x : Nat} (h : [a, b].find? f.isNan = some x) :
    fAdd f rm a b = (f.quiet x, if [a, b].any f.isSnan then fNV else 0) := by
  rw [fAdd, nanOf_of_find h]

theorem fSub_nan (hf : f.Wf) {rm : RM} {a b x : Nat} (h : [a, b].find? f.isNan = some x) :
    fSub f rm a b = (f.quiet x, if [a, b].any f.isSnan then fNV else 0) := by
  rw [fSub, fAdd_nan (find_isNan_fNeg hf h)]
  simp [Fmt.isSnan_fNeg hf]

theorem nanOf_pair {a b : Nat} (ha : f.isNan a = false) (hb : f.isNan b = false) : nanOf f [a, b] = none :=
  nanOf_eq_none (by simp [ha, hb])

theorem nanOf_triple {a b c : Nat} (ha : f.isNan a = false) (hb : f.isNan b = false) (hc : f.isNan c = false) : nanOf f [a, b, c] = none :=
  nanOf_eq_none (by simp [ha, hb, hc])

theorem fAdd_inf_left (hf : f.Wf) (rm : RM) {a b : Nat} (ha : f.isInf a = true) (hb : f.isNan b = false)
    (h : f.isInf b = false ∨ f.neg a = f.neg b) : fAdd f rm a b = (f.pack (f.neg a) f.inf, 0) := by
  rw [fAdd, nanOf_pair (Fmt.isNan_of_isInf ha) hb, Fmt.val_of_isInf ha]
  rcases Fmt.kinds_of_not_nan hb with hb | hb
  · have same := h.resolve_left (by simp [hb])
    rw [Fmt.val_of_isInf hb]
    simp [same]
  · obtain ⟨m, e, hv, -⟩ := Fmt.val_of_finite hf hb
    rw [hv]

theorem fAdd_inf_right (hf : f.Wf) (rm : RM) {a b : Nat} (ha : f.isInf a = true) (hb : f.isNan b = false)
    (h : f.isInf b = false ∨ f.neg a = f.neg b) : fAdd f rm b a = (f.pack (f.neg a) f.inf, 0) := by
  rw [fAdd, nanOf_pair hb (Fmt.isNan_of_isInf ha), Fmt.val_of_isInf ha]
  rcases Fmt.kinds_of_not_nan hb with hb | hb
  · have same := h.resolve_left (by simp [hb])
    rw [Fmt.val_of_isInf hb]
    simp [same]
  · obtain ⟨m, e, hv, -⟩ := Fmt.val_of_finite hf hb
    rw [hv]

theorem fAdd_inf_apart (rm : RM) {a b : Nat} (ha : f.isInf a = true) (hb : f.isInf b = true) (h : f.neg a ≠ f.neg b) :
    fAdd f rm a b = (f.canonNan, fNV) := by
  rw [fAdd, nanOf_pair (Fmt.isNan_of_isInf ha) (Fmt.isNan_of_isInf hb), Fmt.val_of_isInf ha, Fmt.val_of_isInf hb]
  simp [h]

theorem fAdd_finite (hf : f.Ieee) (rm : RM) {a b : Nat} (ha : f.finite a) (hb : f.finite b) :
    f.exactly rm (f.num a + f.num b) ((f.neg a && f.neg b) || rm = .down) (fAdd f rm a b) := by
  obtain ⟨ma, ea, va, na, -⟩ := Fmt.val_of_finite hf.toWf ha
  obtain ⟨mb, eb, vb, nb, -⟩ := Fmt.val_of_finite hf.toWf hb
  rw [fAdd, nanOf_pair ha.1 hb.1, va, vb, na, nb, ← num_dyOf, ← num_dyOf, ← Dy.num_add]
  exact roundDy_exactly hf rm _ _

theorem fSub_inf_left (hf : f.Wf) (rm : RM) {a b : Nat} (ha : f.isInf a = true) (hb : f.isNan b = false)
    (h : f.isInf b = false ∨ f.neg a ≠ f.neg b) : fSub f rm a b = (f.pack (f.neg a) f.inf, 0) := by
  refine fAdd_inf_left hf rm ha ((Fmt.isNan_fNeg hf b).trans hb) ?_
  rw [Fmt.isInf_fNeg hf, Fmt.neg_fNeg hb]
  exact h.imp_right Bool.eq_not_of_ne

theorem fSub_inf_right (hf : f.Wf) (rm : RM) {a b : Nat} (ha : f.isInf a = true) (hb : f.isNan b = false)
    (h : f.isInf b = false ∨ f.neg a ≠ f.neg b) : fSub f rm b a = (f.pack (!f.neg a) f.inf, 0) := by
  rw [fSub, fAdd_inf_right hf rm (a := fNeg f a) ((Fmt.isInf_fNeg hf a).trans ha) hb, Fmt.neg_fNeg (Fmt.isNan_of_isInf ha)]
  rw [Fmt.neg_fNeg (Fmt.isNan_of_isInf ha)]
  exact h.imp_right fun hne => Bool.not_eq.2 hne

theorem fSub_inf_same (hf : f.Wf) (rm : RM) {a b : Nat} (ha : f.isInf a = true) (hb : f.isInf b = true) (h : f.neg a = f.neg b) :
    fSub f rm a b = (f.canonNan, fNV) := by
  refine fAdd_inf_apart rm ha ((Fmt.isInf_fNeg hf b).trans hb) ?_
  rw [Fmt.neg_fNeg (Fmt.isNan_of_isInf hb), h]
  simp

theorem fSub_finite (hf : f.Ieee) (rm : RM) {a b : Nat} (ha : f.finite a) (hb : f.finite b) :
    f.exactly rm (f.num a - f.num b) ((f.neg a && !f.neg b) || rm = .down) (fSub f rm a b) := by
  rw [sub_eq_add_neg, ← Fmt.num_fNeg hf.toWf hb.1, ← Fmt.neg_fNeg hb.1]
  exact fAdd_finite hf rm ha (Fmt.finite_fNeg hf.toWf hb)

/-! ### Multiplication -/

/-- Zero times infinity. -/
def Fmt.zeroInf (f : Fmt) (a b : Nat) : Bool := (f.isInf a && f.magOf b = 0) || (f.isInf b && f.magOf a = 0)

theorem Fmt.magOf_ne_zero_of_isInf (hf : f.Wf) {x : Nat} (h : f.isInf x = true) : f.magOf x ≠ 0 := fun h0 => by
  simp [(Fmt.finite_of_magOf_eq_zero hf h0).2] at h

theorem Fmt.zeroInf_of_isInf (hf : f.Wf) {a b : Nat} (ha : f.isInf a = true) : f.zeroInf a b = decide (f.magOf b = 0) := by
  simp [Fmt.zeroInf, ha, Fmt.magOf_ne_zero_of_isInf hf ha]

theorem fMul_nan {rm : RM} {a b x : Nat} (h : [a, b].find? f.isNan = some x) :
    fMul f rm a b = (f.quiet x, if [a, b].any f.isSnan then fNV else 0) := by
  rw [fMul, nanOf_of_find h]

/-- An infinity times an operand that is no NaN, in either order. -/
theorem fMul_inf (hf : f.Wf) (rm : RM) {a b : Nat} (ha : f.isInf a = true) (hb : f.isNan b = false) :
    fMul f rm a b = (if f.zeroInf a b then (f.canonNan, fNV) else (f.pack (f.neg a != f.neg b) f.inf, 0))
    ∧ fMul f rm b a = (if f.zeroInf a b then (f.canonNan, fNV) else (f.pack (f.neg a != f.neg b) f.inf, 0)) := by
  have na := Fmt.isNan_of_isInf ha
  rw [fMul, fMul, nanOf_pair na hb, nanOf_pair hb na, fMulTo, fMulTo, Fmt.val_of_isInf ha, Fmt.zeroInf_of_isInf hf ha]
  rcases Fmt.kinds_of_not_nan hb with hb | hb
  · rw [Fmt.val_of_isInf hb]
    simp [Fmt.magOf_ne_zero_of_isInf hf hb, bne_comm]
  · obtain ⟨m, e, hv, -, hm⟩ := Fmt.val_of_finite hf hb
    rw [hv]
    simp [hm, bne_comm]

theorem signed_mul (s s' : Bool) (x y : ℚ) : signed s x * signed s' y = signed (s != s') (x * y) := by
  cases s <;> cases s' <;> simp [signed]

theorem num_product (s s' : Bool) (m m' : ℕ) (e e' : ℤ) :
    signed s (m * 2 ^ e) * signed s' (m' * 2 ^ e') = signed (s != s') ((m * m' : ℕ) * 2 ^ (e + e')) := by
  rw [signed_mul, zpow_add₀ (by norm_num)]
  push_cast
  ring_nf

theorem fMul_finite (hf : f.Ieee) (rm : RM) {a b : Nat} (ha : f.finite a) (hb : f.finite b) :
    f.exactly rm (f.num a * f.num b) (f.neg a != f.neg b) (fMul f rm a b) := by
  obtain ⟨ma, ea, va, na, -⟩ := Fmt.val_of_finite hf.toWf ha
  obtain ⟨mb, eb, vb, nb, -⟩ := Fmt.val_of_finite hf.toWf hb
  rw [fMul, nanOf_pair ha.1 hb.1, fMulTo, va, vb, na, nb, num_product]
  exact roundTo_exactly hf rm _ _ _

/-! ### Multiply-add -/

theorem fMa_nan (hf : f.Wf) {rm : RM} {a b c x : Nat} (h : [a, b, c].find? f.isNan = some x) :
    fMa f rm a b c = (f.quiet x, if [a, b, c].any f.isSnan || f.zeroInf a b then fNV else 0) := by
  have flags (sn zi : Bool) : (if zi = true then (if sn = true then fNV else 0) ||| fNV else if sn = true then fNV else 0)
      = if (sn || zi) = true then fNV else 0 := by
    revert sn zi
    decide
  rw [fMa, nanOf_of_find h, ← flags]
  generalize [a, b, c].any f.isSnan = sn
  rcases Fmt.val_cases hf a with ⟨va, ia, za⟩ | ⟨va, ia, za⟩ | ⟨ma, ea, va, ia, za⟩
    <;> rcases Fmt.val_cases hf b with ⟨vb, ib, zb⟩ | ⟨vb, ib, zb⟩ | ⟨mb, eb, vb, ib, zb⟩
    <;> simp [Fmt.zeroInf, va, vb, ia, ib, za, zb]

/-- Zero times infinity and an addend that is no NaN, in either order. -/
theorem fMa_zeroInf (hf : f.Wf) (rm : RM) {a b c : Nat} (ha : f.isInf a = true) (hb : f.isNan b = false) (hc : f.isNan c = false)
    (h : f.zeroInf a b = true) : fMa f rm a b c = (f.canonNan, fNV) ∧ fMa f rm b a c = (f.canonNan, fNV) := by
  have na := Fmt.isNan_of_isInf ha
  rw [Fmt.zeroInf_of_isInf hf ha, decide_eq_true_iff] at h
  obtain ⟨m, e, hv, -, hm⟩ := Fmt.val_of_finite hf (Fmt.finite_of_magOf_eq_zero hf h)
  rw [fMa, fMa, nanOf_triple na hb hc, nanOf_triple hb na hc, Fmt.val_of_isInf ha, hv]
  simp [hm, h]

/-- An infinity times an operand that is no NaN and no zero, and an addend that is no NaN, in either order. -/
theorem fMa_inf (hf : f.Wf) (rm : RM) {a b c : Nat} (ha : f.isInf a = true) (hb : f.isNan b = false) (hc : f.isNan c = false)
    (h : f.zeroInf a b = false) :
    let r : Nat × FF := if f.isInf c = true ∧ f.neg c ≠ (f.neg a != f.neg b) then (f.canonNan, fNV) else (f.pack (f.neg a != f.neg b) f.inf, 0)
    fMa f rm a b c = r ∧ fMa f rm b a c = r := by
  have na := Fmt.isNan_of_isInf ha
  rw [Fmt.zeroInf_of_isInf hf ha, decide_eq_false_iff_not] at h
  rw [fMa, fMa, nanOf_triple na hb hc, nanOf_triple hb na hc, Fmt.val_of_isInf ha, bne_comm (a := f.neg b)]
  rcases Fmt.kinds_of_not_nan hc with hc | hc
  · rw [Fmt.val_of_isInf hc, hc]
    generalize (f.neg a != f.neg b) = ps
    generalize f.neg c = sc
    rcases Fmt.kinds_of_not_nan hb with hb | hb
    · rw [Fmt.val_of_isInf hb]
      cases ps <;> cases sc <;> simp
    · obtain ⟨m, e, hv, -, hm⟩ := Fmt.val_of_finite hf hb
      rw [hv]
      cases ps <;> cases sc <;> simp [hm, h]
  · obtain ⟨mc, ec, vc, -⟩ := Fmt.val_of_finite hf hc
    rw [vc, if_neg (by simp [hc.2])]
    rcases Fmt.kinds_of_not_nan hb with hb | hb
    · simp [Fmt.val_of_isInf hb]
    · obtain ⟨m, e, hv, -, hm⟩ := Fmt.val_of_finite hf hb
      simp [hv, hm, h]

theorem fMa_inf_addend (hf : f.Wf) (rm : RM) {a b c : Nat} (ha : f.finite a) (hb : f.finite b) (hc : f.isInf c = true) :
    fMa f rm a b c = (f.pack (f.neg c) f.inf, 0) := by
  obtain ⟨ma, ea, va, -⟩ := Fmt.val_of_finite hf ha
  obtain ⟨mb, eb, vb, -⟩ := Fmt.val_of_finite hf hb
  rw [fMa, nanOf_triple ha.1 hb.1 (Fmt.isNan_of_isInf hc), va, vb, Fmt.val_of_isInf hc]
  rfl

theorem fMa_finite (hf : f.Ieee) (rm : RM) {a b c : Nat} (ha : f.finite a) (hb : f.finite b) (hc : f.finite c) :
    f.exactly rm (f.num a * f.num b + f.num c) (((f.neg a != f.neg b) && f.neg c) || rm = .down) (fMa f rm a b c) := by
  obtain ⟨ma, ea, va, na, -⟩ := Fmt.val_of_finite hf.toWf ha
  obtain ⟨mb, eb, vb, nb, -⟩ := Fmt.val_of_finite hf.toWf hb
  obtain ⟨mc, ec, vc, nc, -⟩ := Fmt.val_of_finite hf.toWf hc
  rw [fMa, nanOf_triple ha.1 hb.1 hc.1, va, vb, vc, na, nb, nc, num_product, ← num_dyOf, ← num_dyOf, ← Dy.num_add]
  exact roundDy_exactly hf rm _ _

end

end Sys2Proof.Machine
end

section
/-! SUPPORT. Compensated pairs (R43, R44): the error of a rounded sum is a number of the format. -/

namespace Sys2Proof.Machine

/-! ### The error of a sum -/

/-- `e` is the exponent of a last place of finite numbers. -/
def Fmt.IsGrid (f : Fmt) (e : ℤ) : Prop := ∃ k : ℕ, e = (k : ℤ) + 1 - f.bias - f.fbits ∧ k + 2 ≤ f.expAll

section
variable {f : Fmt}

theorem Fmt.exists_grid (hf : f.Ieee) {x : Nat} (h : f.finite x) :
    ∃ (e : ℤ) (j : ℤ), f.IsGrid e ∧ |j| < 2 ^ (f.fbits + 1) ∧ f.num x = j * 2 ^ e := by
  obtain ⟨s, m, hm, num⟩ := Fmt.exists_of_finite hf.toWf h
  have pos := Nat.two_pow_pos f.fbits
  have double : 2 ^ (f.fbits + 1) = 2 * 2 ^ f.fbits := by rw [Nat.pow_succ, Nat.mul_comm]
  have part := Nat.mod_lt m pos
  have all := hf.three_le_expAll
  have exp : m / 2 ^ f.fbits < f.expAll := by
    rw [Nat.div_lt_iff_lt_mul pos, ← Fmt.inf, ← hf.maxFinite_eq]
    omega
  have whole : ∃ (e : ℤ) (n : ℕ), f.IsGrid e ∧ n < 2 ^ (f.fbits + 1) ∧ f.mag m = n * 2 ^ e := by
    rw [Fmt.mag]
    generalize m / 2 ^ f.fbits = q at exp ⊢
    generalize m % 2 ^ f.fbits = r at part ⊢
    split
    · exact ⟨_, r, ⟨0, by push_cast; ring, by omega⟩, by omega, rfl⟩
    · exact ⟨(q : ℤ) - f.bias - f.fbits, 2 ^ f.fbits + r, ⟨q - 1, by omega, by omega⟩, by omega, by push_cast; rfl⟩
  obtain ⟨e, n, grid, small, eq⟩ := whole
  have small' : (n : ℤ) < 2 ^ (f.fbits + 1) := by exact_mod_cast small
  refine ⟨e, if s then -n else n, grid, ?_, ?_⟩
  · cases s <;> simpa using small'
  · rw [num, eq]
    cases s <;> simp [signed]

theorem Fmt.exists_finite_of_grid (hf : f.Ieee) {e j : ℤ} (h : f.IsGrid e) (hj : |j| < 2 ^ (f.fbits + 1)) :
    ∃ y, f.finite y ∧ f.num y = j * 2 ^ e := by
  obtain ⟨k, rfl, hk⟩ := h
  have small : j.natAbs < 2 ^ (f.fbits + 1) := by
    rw [Int.abs_eq_natAbs] at hj
    exact_mod_cast hj
  obtain ⟨m, hm⟩ := f.exists_mag k j.natAbs small
  have below : f.mag m < f.mag (f.maxFinite + 1) := by
    rw [hm, hf.mag_inf]
    have small' : (j.natAbs : ℚ) < 2 ^ (f.fbits + 1) := by exact_mod_cast small
    refine (mul_lt_mul_of_pos_right small' (by positivity)).trans_le ?_
    rw [← zpow_natCast, ← zpow_add₀ (by norm_num)]
    exact zpow_le_zpow_right₀ (by norm_num) (by push_cast; omega)
  have le : m ≤ f.maxFinite := Nat.lt_succ_iff.1 (f.mag_strictMono.lt_iff_lt.1 below)
  refine ⟨f.pack (j < 0) m, Fmt.finite_pack hf.toWf le, ?_⟩
  rw [Fmt.num_pack hf.toWf (le.trans_lt hf.maxFinite_bounds.2), hm]
  exact (Dy.num_eq_signed ⟨j, _⟩).symm

/-- A multiple of a power of two is a multiple of each smaller one. -/
theorem exists_mul_zpow {e e' : ℤ} (h : e' ≤ e) (j : ℤ) : ∃ j' : ℤ, (j : ℚ) * 2 ^ e = j' * 2 ^ e' := by
  refine ⟨j * 2 ^ (e - e').toNat, ?_⟩
  push_cast
  rw [mul_assoc, ← zpow_natCast, ← zpow_add₀ (by norm_num), Int.toNat_of_nonneg (by omega), sub_add_cancel]

/-- What a number with too many digits for one grid is rounded to lies on no finer grid. -/
theorem Fmt.grid_le_of_near (hf : f.Ieee) {e es j js : ℤ} (grid : f.IsGrid e) (hj : 2 ^ (f.fbits + 1) ≤ |j|) (hs : |js| < 2 ^ (f.fbits + 1))
    (near : ∀ y, f.finite y → |(j : ℚ) * 2 ^ e - js * 2 ^ es| ≤ |(j : ℚ) * 2 ^ e - f.num y|) : e ≤ es := by
  by_contra finer
  have u : (0 : ℚ) < 2 ^ e := by positivity
  have one : (1 : ℤ) ≤ 2 ^ f.fbits := one_le_pow₀ (by norm_num)
  have double : (2 : ℤ) ^ (f.fbits + 1) = 2 * 2 ^ f.fbits := by ring
  obtain ⟨c, hc, gap⟩ : ∃ c : ℤ, |c| = 2 ^ (f.fbits + 1) - 1 ∧ |j - c| = |j| - (2 ^ (f.fbits + 1) - 1) := by
    rcases le_or_gt 0 j with h | h
    · refine ⟨2 ^ (f.fbits + 1) - 1, abs_of_nonneg (by omega), ?_⟩
      rw [abs_of_nonneg h] at hj ⊢
      exact abs_of_nonneg (by omega)
    · refine ⟨-(2 ^ (f.fbits + 1) - 1), by rw [abs_neg, abs_of_nonneg (by omega)], ?_⟩
      rw [abs_of_neg h] at hj ⊢
      rw [abs_of_nonpos (by omega)]
      ring
  obtain ⟨y, fy, ny⟩ := Fmt.exists_finite_of_grid hf (j := c) grid (by omega)
  have step := near y fy
  rw [ny, ← sub_mul, abs_mul, abs_of_pos u] at step
  have gap' : |(j : ℚ) - c| = |(j : ℚ)| - (2 * 2 ^ f.fbits - 1) := by
    rw [double] at gap
    exact_mod_cast gap
  have fine : |(js : ℚ) * 2 ^ es| < 2 ^ f.fbits * 2 ^ e := by
    have hs' : |(js : ℚ)| < 2 ^ (f.fbits + 1) := by exact_mod_cast hs
    rw [abs_mul, abs_of_pos (show (0 : ℚ) < 2 ^ es by positivity)]
    refine (mul_lt_mul_of_pos_right hs' (by positivity)).trans_le ?_
    rw [← zpow_natCast, ← zpow_natCast, ← zpow_add₀ (by norm_num), ← zpow_add₀ (by norm_num)]
    exact zpow_le_zpow_right₀ (by norm_num) (by push_cast; omega)
  have far := abs_sub_abs_le_abs_sub ((j : ℚ) * 2 ^ e) (js * 2 ^ es)
  rw [abs_mul (j : ℚ), abs_of_pos u] at far
  have one' : (1 : ℚ) ≤ 2 ^ f.fbits := by exact_mod_cast one
  rw [gap'] at step
  nlinarith

/-- The error of a sum that is rounded to a finite number nearest to it is a number of the format (R43); `a` has the smaller last place. -/
theorem Fmt.exists_sum_error_of_le (hf : f.Ieee) {a b s : Nat} {ea eb ja jb : ℤ} (ga : f.IsGrid ea) (ha : |ja| < 2 ^ (f.fbits + 1))
    (na : f.num a = ja * 2 ^ ea) (nb : f.num b = jb * 2 ^ eb) (le : ea ≤ eb) (fb : f.finite b) (fs : f.finite s)
    (near : ∀ y, f.finite y → |f.num a + f.num b - f.num s| ≤ |f.num a + f.num b - f.num y|) :
    ∃ y, f.finite y ∧ f.num y = f.num a + f.num b - f.num s := by
  have u : (0 : ℚ) < 2 ^ ea := by positivity
  obtain ⟨jb', hb'⟩ := exists_mul_zpow le jb
  have sum : f.num a + f.num b = ((ja + jb' : ℤ) : ℚ) * 2 ^ ea := by
    rw [na, nb, hb']
    push_cast
    ring
  by_cases small : |ja + jb'| < 2 ^ (f.fbits + 1)
  · obtain ⟨y, fy, ny⟩ := Fmt.exists_finite_of_grid hf ga small
    have zero := near y fy
    rw [ny, ← sum, sub_self, abs_zero, abs_nonpos_iff] at zero
    obtain ⟨y0, fy0, ny0⟩ := Fmt.exists_finite_of_grid hf (j := 0) ga (by positivity)
    exact ⟨y0, fy0, by rw [ny0, zero]; simp⟩
  · obtain ⟨es, js, gs, hs, ns⟩ := Fmt.exists_grid hf fs
    have coarse : ea ≤ es := Fmt.grid_le_of_near hf ga (not_lt.1 small) hs (by simpa only [sum, ns] using near)
    obtain ⟨js', hs'⟩ := exists_mul_zpow coarse js
    have err : f.num a + f.num b - f.num s = ((ja + jb' - js' : ℤ) : ℚ) * 2 ^ ea := by
      rw [sum, ns, hs']
      push_cast
      ring
    have bound := near b fb
    rw [add_sub_cancel_right, err, na, abs_mul, abs_mul, abs_of_pos u] at bound
    have bound' : |ja + jb' - js'| ≤ |ja| := by exact_mod_cast le_of_mul_le_mul_right bound u
    obtain ⟨y, fy, ny⟩ := Fmt.exists_finite_of_grid hf ga (bound'.trans_lt ha)
    exact ⟨y, fy, by rw [ny, err]⟩

theorem Fmt.exists_sum_error (hf : f.Ieee) {a b s : Nat} (fa : f.finite a) (fb : f.finite b) (fs : f.finite s)
    (near : ∀ y, f.finite y → |f.num a + f.num b - f.num s| ≤ |f.num a + f.num b - f.num y|) :
    ∃ y, f.finite y ∧ f.num y = f.num a + f.num b - f.num s := by
  obtain ⟨ea, ja, ga, ha, na⟩ := Fmt.exists_grid hf fa
  obtain ⟨eb, jb, gb, hb, nb⟩ := Fmt.exists_grid hf fb
  rcases le_total ea eb with le | le
  · exact Fmt.exists_sum_error_of_le hf ga ha na nb le fb fs near
  · rw [add_comm] at near ⊢
    exact Fmt.exists_sum_error_of_le hf gb hb nb na le fa fs near

/-! ### Nearest results -/

/-- `r` is what an exact number gives to nearest; `z` is the sign of a zero. -/
def Fmt.toNearest (f : Fmt) (x : ℚ) (z : Bool) (r : Nat) : Prop := (x = 0 → r = f.pack z 0) ∧ (x ≠ 0 → f.rounds .near x r)

theorem Fmt.exactly.toNearest {x : ℚ} {z : Bool} {r : Nat × FF} (h : f.exactly .near x z r) : f.toNearest x z r.1 :=
  ⟨fun hx => by rw [h.1 hx], fun hx => (h.2 hx).1⟩

theorem Fmt.num_pack_zero (hf : f.Wf) (z : Bool) : f.num (f.pack z 0) = 0 := by
  rw [Fmt.num_pack hf (Nat.two_pow_pos _), f.mag_zero, signed_zero]

theorem Fmt.finite_pack_zero (hf : f.Wf) (z : Bool) : f.finite (f.pack z 0) := Fmt.finite_pack hf (Nat.zero_le _)

/-- A finite result to nearest is no farther than any other finite number. -/
theorem Fmt.toNearest.near (hf : f.Ieee) {x : ℚ} {z : Bool} {r : Nat} (h : f.toNearest x z r) (fin : f.finite r) (y : Nat) (hy : f.finite y) :
    |x - f.num r| ≤ |x - f.num y| := by
  by_cases hx : x = 0
  · rw [hx, h.1 hx, Fmt.num_pack_zero hf.toWf, sub_self, abs_zero]
    exact abs_nonneg _
  · obtain ⟨inf, near⟩ := h.2 hx
    have notInf : ¬f.toInf .near x := fun hi => hf.not_finite_pack_inf _ (inf hi ▸ fin)
    exact ((near notInf).2.2.2.2.2.2 y hy).1

/-- A number of the format is its own nearest result, and its zero is +0. -/
theorem Fmt.toNearest.eq_of_exists (hf : f.Ieee) {x : ℚ} {r : Nat} (h : f.toNearest x false r) (y : ∃ y, f.finite y ∧ f.num y = x) :
    f.finite r ∧ f.num r = x ∧ (f.num r = 0 → r = 0) := by
  obtain ⟨y, fy, ny⟩ := y
  by_cases hx : x = 0
  · rw [h.1 hx, Fmt.num_pack_zero hf.toWf]
    exact ⟨Fmt.finite_pack_zero hf.toWf _, hx.symm, fun _ => by simp [Fmt.pack]⟩
  · have notInf : ¬f.toInf .near x := by
      obtain ⟨s, k, hk, num⟩ := Fmt.exists_of_finite hf.toWf fy
      have top := f.mag_strictMono.monotone hk
      have half : (0 : ℚ) < 2 ^ ((f.expAll : ℤ) - f.bias - f.fbits - 2) := by positivity
      rw [Fmt.toInf, hf.num_maxFinite, ← ny, num, abs_signed_of_nonneg _ (f.mag_nonneg k)]
      exact not_le.2 (by linarith)
    obtain ⟨-, fin, -, near⟩ := (h.2 hx).2 notInf
    have close := h.near hf fin y fy
    rw [ny, sub_self, abs_zero, abs_nonpos_iff, sub_eq_zero] at close
    exact ⟨fin, close.symm, fun hz => absurd (close.trans hz) hx⟩

end

/-! ### Compensated pairs -/

theorem twoSum_nan {a b x : Nat} (h : [a, b].find? fp32.isNan = some x) : (twoSum a b).1 = fp32.quiet x ∧ (twoSum a b).2.1 = fp32.quiet x := by
  rw [twoSum, nanOf_of_find h]
  exact ⟨rfl, rfl⟩

theorem twoProd_nan {a b x : Nat} (h : [a, b].find? fp32.isNan = some x) : (twoProd a b).1 = fp32.quiet x ∧ (twoProd a b).2.1 = fp32.quiet x := by
  rw [twoProd, nanOf_of_find h]
  exact ⟨rfl, rfl⟩

/-- An exact operation on two signed numbers. -/
abbrev ExactOp := Bool → ℕ → ℤ → Bool → ℕ → ℤ → Dy

/-- A pair: what an operation delivers, and its error rounded where all are finite. -/
def errorPair (op : ExactOp) (va vb : Val) (r : Nat × FF) : Nat × Nat × FF :=
  match va, vb, fp32.val r.1 with
  | .fin na ma ea, .fin nb mb eb, .fin ns ms es =>
    (r.1, (roundDy fp32 .near true false ((op na ma ea nb mb eb).add (dyOf (!ns) ms es))).1, r.2)
  | _, _, .nan => (fp32.canonNan, fp32.canonNan, r.2)
  | _, _, _ => (r.1, 0, r.2)

def exactSum : ExactOp := fun na ma ea nb mb eb => (dyOf na ma ea).add (dyOf nb mb eb)
def exactProduct : ExactOp := fun na ma ea nb mb eb => dyOf (na != nb) (ma * mb) (ea + eb)

section
variable {a b : Nat}

theorem twoSum_eq (ha : fp32.isNan a = false) (hb : fp32.isNan b = false) :
    twoSum a b = errorPair exactSum (fp32.val a) (fp32.val b) (fAdd fp32 .near a b) := by
  rw [twoSum, nanOf_pair ha hb]
  rfl

theorem twoProd_eq (ha : fp32.isNan a = false) (hb : fp32.isNan b = false) :
    twoProd a b = errorPair exactProduct (fp32.val a) (fp32.val b) (fMul fp32 .near a b) := by
  rw [twoProd, nanOf_pair ha hb]
  rfl

theorem twoSum_inf_apart (ha : fp32.isInf a = true) (hb : fp32.isInf b = true) (h : fp32.neg a ≠ fp32.neg b) :
    twoSum a b = (fp32.canonNan, fp32.canonNan, fNV) := by
  have nan : fp32.val fp32.canonNan = .nan := by decide
  rw [twoSum_eq (Fmt.isNan_of_isInf ha) (Fmt.isNan_of_isInf hb), fAdd_inf_apart .near ha hb h, Fmt.val_of_isInf ha, errorPair.eq_def, nan]

end

/-- An infinite first output has +0 beside it. -/
theorem errorPair_of_isInf {op : ExactOp} {va vb : Val} {r : Nat × FF} (h : fp32.isInf (errorPair op va vb r).1 = true) :
    (errorPair op va vb r).2.1 = 0 := by
  rw [errorPair.eq_def] at h ⊢
  rcases fp32.kinds r.1 with hs | hs | hs
  · rw [Fmt.val_of_isNan hs] at h
    have : fp32.isInf fp32.canonNan = true := by cases va <;> cases vb <;> exact h
    exact absurd this (by decide)
  · rw [Fmt.val_of_isInf hs]
    cases va <;> cases vb <;> rfl
  · obtain ⟨m, e, hv, -⟩ := Fmt.val_of_finite fp32_ieee.toWf hs
    rw [hv] at h
    have : fp32.isInf r.1 = true := by cases va <;> cases vb <;> exact h
    simp [hs.2] at this

/-- The pair of finite operands: the rounded number, and its error rounded. -/
theorem errorPair_finite {op : ExactOp} {na nb : Bool} {ma mb : ℕ} {ea eb : ℤ} {r : Nat × FF} (hr : fp32.isNan r.1 = false) :
    (errorPair op (.fin na ma ea) (.fin nb mb eb) r).1 = r.1 ∧ (fp32.finite r.1 →
      fp32.toNearest ((op na ma ea nb mb eb).num - fp32.num r.1) false (errorPair op (.fin na ma ea) (.fin nb mb eb) r).2.1) := by
  rw [errorPair.eq_def]
  rcases Fmt.kinds_of_not_nan hr with hs | hs
  · rw [Fmt.val_of_isInf hs]
    exact ⟨rfl, fun h => by simp [h.2] at hs⟩
  · obtain ⟨ms, es, vs, ns, -⟩ := Fmt.val_of_finite fp32_ieee.toWf hs
    rw [vs]
    refine ⟨rfl, fun _ => ?_⟩
    rw [ns, sub_eq_add_neg, ← signed_not, ← num_dyOf, ← Dy.num_add]
    exact (roundDy_exactly fp32_ieee .near false _).toNearest

theorem Fmt.Ieee.isInf_pack_inf {f : Fmt} (hf : f.Ieee) (s : Bool) : f.isInf (f.pack s f.inf) = true := by
  have pos := Nat.two_pow_pos f.fbits
  simp only [Fmt.isInf, hf.sp]
  rw [f.expo_eq hf.signBit_pos, f.frac_eq, ← Fmt.magOf, Fmt.magOf_pack f.inf_lt, Fmt.inf, Nat.mul_div_cancel _ pos, Nat.mul_mod_left]
  simp

/-- Finite operands have no NaN for a result to nearest. -/
theorem Fmt.toNearest.not_nan {f : Fmt} (hf : f.Ieee) {x : ℚ} {z : Bool} {r : Nat} (h : f.toNearest x z r) : f.isNan r = false := by
  by_cases hx : x = 0
  · rw [h.1 hx]
    exact (Fmt.finite_pack_zero hf.toWf z).1
  · obtain ⟨inf, near⟩ := h.2 hx
    by_cases hi : f.toInf .near x
    · rw [inf hi]
      exact Fmt.isNan_of_isInf (hf.isInf_pack_inf _)
    · exact (near hi).2.1.1

section
variable {a b : Nat}

theorem twoSum_finite (ha : fp32.finite a) (hb : fp32.finite b) :
    (twoSum a b).1 = (fAdd fp32 .near a b).1 ∧ (fp32.finite (fAdd fp32 .near a b).1 →
      fp32.toNearest (fp32.num a + fp32.num b - fp32.num (fAdd fp32 .near a b).1) false (twoSum a b).2.1) := by
  have number := (fAdd_finite fp32_ieee .near ha hb).toNearest.not_nan fp32_ieee
  obtain ⟨ma, ea, va, na, -⟩ := Fmt.val_of_finite fp32_ieee.toWf ha
  obtain ⟨mb, eb, vb, nb, -⟩ := Fmt.val_of_finite fp32_ieee.toWf hb
  rw [twoSum_eq ha.1 hb.1, va, vb, na, nb, ← num_dyOf, ← num_dyOf, ← Dy.num_add]
  exact errorPair_finite number

theorem twoProd_finite (ha : fp32.finite a) (hb : fp32.finite b) :
    (twoProd a b).1 = (fMul fp32 .near a b).1 ∧ (fp32.finite (fMul fp32 .near a b).1 →
      fp32.toNearest (fp32.num a * fp32.num b - fp32.num (fMul fp32 .near a b).1) false (twoProd a b).2.1) := by
  have number := (fMul_finite fp32_ieee .near ha hb).toNearest.not_nan fp32_ieee
  obtain ⟨ma, ea, va, na, -⟩ := Fmt.val_of_finite fp32_ieee.toWf ha
  obtain ⟨mb, eb, vb, nb, -⟩ := Fmt.val_of_finite fp32_ieee.toWf hb
  rw [twoProd_eq ha.1 hb.1, va, vb, na, nb, num_product, ← num_dyOf]
  exact errorPair_finite number

/-- The error of a finite rounded sum is the second output exactly (R43). -/
theorem twoSum_error (ha : fp32.finite a) (hb : fp32.finite b) (hs : fp32.finite (twoSum a b).1) :
    fp32.finite (twoSum a b).2.1 ∧ fp32.num (twoSum a b).2.1 = fp32.num a + fp32.num b - fp32.num (twoSum a b).1
      ∧ (fp32.num (twoSum a b).2.1 = 0 → (twoSum a b).2.1 = 0) := by
  obtain ⟨fst, snd⟩ := twoSum_finite ha hb
  rw [fst] at hs ⊢
  have near := (fAdd_finite fp32_ieee .near ha hb).toNearest.near fp32_ieee hs
  exact (snd hs).eq_of_exists fp32_ieee (Fmt.exists_sum_error fp32_ieee ha hb hs near)

end

end Sys2Proof.Machine
end

section
/-! SUPPORT. The leading term of a list (R39, R46), and MX conversion of one element and of one block (R39). -/

namespace Sys2Proof.Machine

/-! ### Leading terms -/

theorem Val.num_fin (n : Bool) (m : ℕ) (e : ℤ) : (Val.fin n m e).num = signed n (m * 2 ^ e) := rfl

theorem Val.abs_num_fin (n : Bool) (m : ℕ) (e : ℤ) : |(Val.fin n m e).num| = m * 2 ^ e := by
  rw [Val.num_fin, abs_signed_of_nonneg _ (by positivity)]

theorem Fmt.val_num {f : Fmt} (hf : f.Wf) {x : Nat} (h : f.finite x) : (f.val x).num = f.num x := by
  obtain ⟨m, e, hv, hn, -⟩ := Fmt.val_of_finite hf h
  rw [hv, hn, Val.num_fin]

/-- What `maxLead` holds after the terms so far. -/
def leadOf (ts : List Val) : Option ℤ → Prop
  | none => ∀ t ∈ ts, t.num = 0
  | some E => leads E ts

theorem leadOf_append_zero {ts : List Val} {t : Val} {o : Option ℤ} (h : leadOf ts o) (ht : t.num = 0) : leadOf (ts ++ [t]) o := by
  cases o with
  | none =>
    intro u hu
    rcases List.mem_append.1 hu with hu | hu
    · exact h u hu
    · rw [List.mem_singleton.1 hu, ht]
  | some E =>
    obtain ⟨below, u, hu, above⟩ := h
    refine ⟨fun w hw => ?_, u, List.mem_append_left _ hu, above⟩
    rcases List.mem_append.1 hw with hw | hw
    · exact below w hw
    · rw [List.mem_singleton.1 hw, ht, abs_zero]
      positivity

theorem leads_append {ts : List Val} {n : Bool} {m : ℕ} {e : ℤ} {o : Option ℤ} (h : leadOf ts o) (hm : m ≠ 0) :
    leads (o.elim (leadExp m e) fun b => if b < leadExp m e then leadExp m e else b) (ts ++ [.fin n m e]) := by
  obtain ⟨low, high⟩ := leadExp_spec hm e
  have le (a b : ℤ) (hab : a ≤ b) : (2 : ℚ) ^ (a + 1) ≤ 2 ^ (b + 1) := zpow_le_zpow_right₀ (by norm_num) (by omega)
  have split (P : Val → Prop) (h1 : ∀ t ∈ ts, P t) (h2 : P (.fin n m e)) : ∀ t ∈ ts ++ [.fin n m e], P t := by
    intro t ht
    rcases List.mem_append.1 ht with ht | ht
    · exact h1 t ht
    · rwa [List.mem_singleton.1 ht]
  have last : Val.fin n m e ∈ ts ++ [.fin n m e] := List.mem_append_right _ (List.mem_singleton_self _)
  rw [← Val.abs_num_fin n] at low high
  cases o with
  | none => exact ⟨split _ (fun t ht => by rw [h t ht, abs_zero]; positivity) high, _, last, low⟩
  | some b =>
    obtain ⟨below, u, hu, above⟩ := h
    dsimp only [Option.elim]
    split_ifs with hb
    · exact ⟨split _ (fun t ht => (below t ht).trans_le (le _ _ hb.le)) high, _, last, low⟩
    · exact ⟨split _ below (high.trans_le (le _ _ (not_lt.1 hb))), u, List.mem_append_left _ hu, above⟩

/-- `maxLead` is the weight of the leading bit of the largest term. -/
theorem leadOf_maxLead (ts : List Val) : leadOf ts (maxLead ts) := by
  induction ts using List.reverseRecOn with
  | nil => exact fun t ht => absurd ht List.not_mem_nil
  | append_singleton ts t ih =>
    rw [maxLead, List.foldl_append] at *
    change leadOf _ (List.foldl _ (maxLead ts) [t])
    change leadOf _ (maxLead ts) at ih
    rw [List.foldl_cons, List.foldl_nil]
    cases t with
    | nan => exact leadOf_append_zero ih rfl
    | inf s => exact leadOf_append_zero ih rfl
    | fin n m e =>
      dsimp only
      split
      · next hm => exact leadOf_append_zero ih (by rw [Val.num_fin, hm, Nat.cast_zero, zero_mul, signed_zero])
      · next hm =>
        have := leads_append (n := n) (e := e) ih hm
        revert this
        cases maxLead ts <;> exact id

theorem leads_unique {E E' : ℤ} {ts : List Val} (h : leads E ts) (h' : leads E' ts) : E = E' := by
  have le {A B : ℤ} (hA : leads A ts) (hB : leads B ts) : A ≤ B := by
    obtain ⟨-, t, ht, low⟩ := hA
    have := (zpow_lt_zpow_iff_right₀ (by norm_num : (1 : ℚ) < 2)).1 (low.trans_lt (hB.1 t ht))
    omega
  exact le_antisymm (le h h') (le h' h)

theorem maxLead_of_leads {E : ℤ} {ts : List Val} (h : leads E ts) : maxLead ts = some E := by
  have found := leadOf_maxLead ts
  cases hl : maxLead ts with
  | none =>
    rw [hl] at found
    obtain ⟨-, t, ht, low⟩ := h
    rw [found t ht, abs_zero] at low
    exact absurd low (not_le.2 (by positivity))
  | some b =>
    rw [hl] at found
    rw [leads_unique found h]

theorem maxLead_of_zero {ts : List Val} (h : ∀ t ∈ ts, t.num = 0) : maxLead ts = none := by
  have found := leadOf_maxLead ts
  cases hl : maxLead ts with
  | none => rfl
  | some b =>
    rw [hl] at found
    obtain ⟨-, t, ht, low⟩ := found
    rw [h t ht, abs_zero] at low
    exact absurd low (not_le.2 (by positivity))

end Sys2Proof.Machine
end

section
/-! SUPPORT. MX conversion (R39): one element and one block. -/

namespace Sys2Proof.Machine

/-! ### One element -/

/-- The number of an element code. -/
def MxElem.num (t : MxElem) (c : Nat) : ℚ :=
  match t with
  | .flt g _ => g.num c
  | .int8 => (BitVec.ofNat 8 c).toInt / 64

/-- `c` is the code of number `x` with the sign `neg` (R39). -/
def MxElem.encodes (t : MxElem) (neg : Bool) (x : ℚ) (c : Nat) : Prop :=
  match t with
  | .flt g _ => g.nearest x c ∧ g.neg c = neg
  | .int8 => |t.num c| ≤ 127 / 64 ∧ (127 ≤ x * 64 → t.num c = 127 / 64) ∧ (x * 64 ≤ -127 → t.num c = -(127 / 64))
      ∧ (|x| * 64 < 127 → |x - t.num c| * 128 ≤ 1 ∧ (|x - t.num c| * 128 = 1 → c % 2 = 0))

/-- The nearest magnitude of a format without infinities: what is too large goes to the largest one. -/
theorem Fmt.RoundsMag.nearest_clamped {g : Fmt} (hg : g.Wf) {neg : Bool} {x t : ℚ} {lo m : ℕ} (h : g.RoundsMag .near neg x lo t m) (hx : 0 < x) :
    g.nearest (signed neg x) (g.pack neg (min g.maxFinite m))
      ∧ (g.num (g.pack neg (min g.maxFinite m)) = signed neg x ↔ t = 0 ∧ m ≤ g.maxFinite) := by
  have num {d : ℕ} (hd : d ≤ g.maxFinite) : g.num (g.pack neg d) = signed neg x ↔ g.mag d = x := by
    rw [Fmt.num_pack hg (hd.trans_lt hg.maxFinite_bounds.2)]
    cases neg <;> simp [signed]
  rcases le_or_gt m g.maxFinite with fits | big
  · rw [min_eq_right fits, num fits, h.exact_iff]
    exact ⟨Fmt.nearest_pack hg neg hx fits fun k _ => h.near k, by simp [fits]⟩
  · have past : g.mag g.maxFinite < x := by
      rcases h.step with ⟨rfl, up⟩ | ⟨rfl, -⟩
      · refine lt_of_le_of_ne ((h.mag_le_iff _).2 (Nat.lt_succ_iff.1 big)) fun he => ?_
        rcases (Nat.lt_succ_iff.1 big).lt_or_eq with hlt | heq
        · exact absurd (he ▸ h.lo_le) (not_le.2 (g.mag_strictMono hlt))
        · have split := h.split
          rw [← he, heq, left_eq_add, mul_eq_zero, or_iff_left (sub_pos.2 (g.mag_lt_succ lo)).ne'] at split
          rw [split] at up
          exact not_stepsUp_zero _ _ _ up
      · exact (g.mag_strictMono big).trans_le h.lo_le
    rw [min_eq_left big.le, num le_rfl]
    refine ⟨Fmt.nearest_pack hg neg hx le_rfl fun k hk => ?_, iff_of_false past.ne fun h => absurd h.2 (not_le.2 big)⟩
    have below := g.mag_strictMono.monotone hk
    rw [abs_of_pos (sub_pos.2 past), abs_of_pos (sub_pos.2 (below.trans_lt past))]
    exact ⟨by linarith, fun heq hne => absurd (g.mag_strictMono.injective (by linarith)) hne⟩

/-- A format without its infinities and NaNs. -/
def Fmt.unlimited (g : Fmt) : Fmt := { g with sp := .absent }

theorem mxRound_of_roundTo {g : Fmt} (k : Nat) {neg : Bool} {m M : ℕ} {e : ℤ} {fl : FF} (hM : M < 2 ^ g.signBit)
    (h : roundTo g.unlimited .near true neg m e false = (g.pack neg M, fl)) :
    mxRound (.flt g k) neg m e = (g.pack neg (min g.maxFinite M), fl &&& fNX != 0 || g.maxFinite < M) := by
  have clamp : (if g.maxFinite < M then g.maxFinite else M) = min g.maxFinite M := by
    split <;> omega
  rw [← clamp]
  have mag := Fmt.magOf_pack (s := neg) hM
  rw [Fmt.unlimited] at h
  rw [mxRound, h]
  dsimp only
  rw [← Fmt.magOf, mag]

/-- One element of a floating-point MX type. -/
theorem mxRound_flt {g : Fmt} (hg : g.Wf) (k : Nat) (neg : Bool) (m : ℕ) (e : ℤ) :
    (MxElem.flt g k).encodes neg (signed neg (m * 2 ^ e)) (mxRound (.flt g k) neg m e).1
      ∧ ((mxRound (.flt g k) neg m e).2 = true ↔ (MxElem.flt g k).num (mxRound (.flt g k) neg m e).1 ≠ signed neg (m * 2 ^ e)) := by
  rcases Nat.eq_zero_or_pos m with rfl | hm
  · rw [mxRound_of_roundTo k (M := 0) (fl := 0) (Nat.two_pow_pos _) (by rw [roundTo, if_pos rfl]; rfl), Nat.cast_zero, zero_mul, signed_zero,
      Nat.min_zero]
    refine ⟨⟨Fmt.nearest_zero hg neg, Fmt.neg_pack (Nat.two_pow_pos _)⟩, ?_⟩
    simp [MxElem.num, Fmt.num_pack_zero hg]
  have hx : (0 : ℚ) < m * 2 ^ e := by positivity
  have top : g.unlimited.maxFinite + 1 = 2 ^ g.signBit := Nat.sub_add_cancel Nat.one_le_two_pow
  have le := hg.maxFinite_bounds.2
  obtain ⟨lo, t, M, ix, tiny, rounds', hix, -, eq⟩ := g.unlimited.roundTo_spec hg.fbits .near true neg hm.ne' e
  have rounds : g.RoundsMag .near neg (m * 2 ^ e) lo t M := ⟨rounds'.1, rounds'.2, rounds'.3, rounds'.4⟩
  have flag : roundFlags false ix tiny &&& fNX != 0 ↔ ix = true := by
    rw [bne_iff_ne, (roundFlags_spec false ix tiny).2.1]
    simp
  have result : mxRound (.flt g k) neg m e = (g.pack neg (min g.maxFinite M), ix || g.maxFinite < M) := by
    split at eq
    · next big =>
      rw [mxRound_of_roundTo k (M := g.unlimited.maxFinite) (by omega) eq, min_eq_left (by omega), min_eq_left (by omega),
        decide_eq_true (show g.maxFinite < M by omega), Bool.or_true, show ((fOF ||| fNX) &&& fNX != 0) = true by decide, Bool.true_or]
    · next fits =>
      rw [mxRound_of_roundTo k (M := M) (by omega) eq]
      congr 2
      exact Bool.eq_iff_iff.2 flag
  obtain ⟨near, exact'⟩ := rounds.nearest_clamped hg hx
  have small := (min_le_left g.maxFinite M).trans_lt le
  rw [result]
  refine ⟨⟨near, Fmt.neg_pack small⟩, ?_⟩
  rw [MxElem.num, Ne, exact', Bool.or_eq_true, hix, decide_eq_true_iff, not_and_or, not_le]

/-! ### MXINT8 -/

theorem ofSint_toInt {i : ℤ} (h : |i| ≤ 127) : (BitVec.ofNat 8 (ofSint 8 i)).toInt = i := by
  rw [abs_le] at h
  rw [ofSint_eq_bitsOf, bitsOf, BitVec.ofNat_toNat, BitVec.setWidth_eq, BitVec.toInt_ofInt, Int.bmod]
  split <;> omega

theorem ofSint_even (i : ℤ) : ofSint 8 i % 2 = 0 ↔ i % 2 = 0 := by
  rw [ofSint]
  omega

/-- The number of steps of MXINT8 that a magnitude of `n + t` steps goes to. -/
theorem int8_steps {n N : ℕ} {t : ℚ} (ht0 : 0 ≤ t) (ht1 : t < 1) (step : roundsStep .near neg n t N) :
    (127 ≤ n + t → 127 ≤ N) ∧ (n + t < 127 → N ≤ 127 ∧ |n + t - N| * 2 ≤ 1 ∧ (|n + t - N| * 2 = 1 → N % 2 = 0))
      ∧ ((n : ℚ) + t = (min 127 N : ℕ) ↔ t = 0 ∧ N ≤ 127) := by
  have lo (k : ℕ) : (k : ℚ) ≤ n + t ↔ k ≤ n := by
    constructor
    · intro h
      have : (k : ℚ) < ((n + 1 : ℕ) : ℚ) := by push_cast; linarith
      exact Nat.lt_succ_iff.1 (by exact_mod_cast this)
    · intro h
      have : (k : ℚ) ≤ n := by exact_mod_cast h
      linarith
  have at127 := lo 127
  push_cast at at127
  rw [at127, ← not_le, at127]
  refine ⟨?_, ?_, ?_⟩
  · rcases step with ⟨rfl, -⟩ | ⟨rfl, -⟩ <;> omega
  · intro h
    rcases step with ⟨rfl, up⟩ | ⟨rfl, stay⟩
    · have half : 1 / 2 ≤ t := by rcases up with up | ⟨up, -⟩ <;> linarith
      have gap : |(n : ℚ) + t - (n + 1 : ℕ)| = 1 - t := by
        push_cast
        rw [abs_of_neg (by linarith)]
        ring
      rw [gap]
      refine ⟨by omega, by linarith, fun heq => ?_⟩
      rcases up with up | ⟨-, odd⟩
      · linarith
      · omega
    · have half : t ≤ 1 / 2 := not_lt.1 fun ht => stay (.inl ht)
      rw [add_sub_cancel_left, abs_of_nonneg ht0]
      refine ⟨by omega, by linarith, fun heq => ?_⟩
      by_contra odd
      exact stay (.inr ⟨by linarith, by omega⟩)
  · constructor
    · intro h
      have le := (lo _).1 h.ge
      have : ((min 127 N : ℕ) : ℚ) ≤ n := by exact_mod_cast le
      have zero : t = 0 := by linarith
      have same : ((n : ℕ) : ℚ) = (min 127 N : ℕ) := by rw [← h, zero, add_zero]
      have same' : n = min 127 N := by exact_mod_cast same
      refine ⟨zero, ?_⟩
      rcases step with ⟨rfl, up⟩ | ⟨rfl, -⟩
      · exact absurd (zero ▸ up) (not_stepsUp_zero _ _ _)
      · omega
    · rintro ⟨rfl, hN⟩
      rcases step with ⟨rfl, up⟩ | ⟨rfl, -⟩
      · exact absurd up (not_stepsUp_zero _ _ _)
      · rw [min_eq_right hN, add_zero]

theorem mxRound_int8 (neg : Bool) (m : ℕ) (e : ℤ) :
    MxElem.int8.encodes neg (signed neg (m * 2 ^ e)) (mxRound .int8 neg m e).1
      ∧ ((mxRound .int8 neg m e).2 = true ↔ MxElem.int8.num (mxRound .int8 neg m e).1 ≠ signed neg (m * 2 ^ e)) := by
  obtain ⟨n, t, ht0, ht1, split, step, hix⟩ := roundAt_spec .near neg m (e + 6) 0
  rcases hr : roundAt .near neg m (e + 6) 0 false with ⟨N, ix⟩
  rw [hr] at step hix
  have eq : mxRound .int8 neg m e = (ofSint 8 (if neg then -((min 127 N : ℕ) : ℤ) else (min 127 N : ℕ)), ix || 127 < N) := by
    rw [mxRound, hr]
    dsimp only
    rw [show (if 127 < N then 127 else N) = min 127 N by split <;> omega]
  have steps : (m : ℚ) * 2 ^ e * 64 = n + t := by
    rw [zpow_zero, mul_one] at split
    rw [← split, zpow_add₀ (by norm_num)]
    norm_num
    ring
  obtain ⟨past, within, exact'⟩ := int8_steps ht0 ht1 step
  generalize (m : ℚ) * 2 ^ e = x at steps ⊢
  have code : MxElem.int8.num (mxRound .int8 neg m e).1 = signed neg ((min 127 N : ℕ) : ℚ) / 64 := by
    rw [eq, MxElem.num, ofSint_toInt]
    · cases neg <;> simp [signed]
    · have cap : |((min 127 N : ℕ) : ℤ)| ≤ 127 := by
        rw [abs_of_nonneg (Int.natCast_nonneg _)]
        exact_mod_cast min_le_left _ _
      cases neg with
      | true => exact (abs_neg _).trans_le cap
      | false => exact cap
  have even : (mxRound .int8 neg m e).1 % 2 = 0 ↔ min 127 N % 2 = 0 := by
    rw [eq, ofSint_even]
    cases neg <;> simp <;> omega
  have c127 : ((min 127 N : ℕ) : ℚ) ≤ 127 := by exact_mod_cast min_le_left _ _
  have c0 : (0 : ℚ) ≤ ((min 127 N : ℕ) : ℚ) := Nat.cast_nonneg _
  have nt0 : (0 : ℚ) ≤ n + t := add_nonneg (Nat.cast_nonneg _) ht0
  have x0 : 0 ≤ x := by linarith
  have full (h : 127 ≤ (n : ℚ) + t) : ((min 127 N : ℕ) : ℚ) = 127 := by rw [min_eq_left (past h)]; norm_num
  have diff : |signed neg x - signed neg ((min 127 N : ℕ) : ℚ) / 64| * 128 = |n + t - (min 127 N : ℕ)| * 2 := by
    rw [← steps, show signed neg x - signed neg ((min 127 N : ℕ) : ℚ) / 64 = signed neg (x * 64 - (min 127 N : ℕ)) / 64 by
      cases neg <;> simp [signed] <;> ring, abs_div, abs_signed]
    norm_num
    ring
  constructor
  · rw [MxElem.encodes, code, even, diff]
    refine ⟨?_, ?_, ?_, ?_⟩
    · rw [abs_div, abs_signed_of_nonneg _ c0, abs_of_pos (by norm_num)]
      exact div_le_div_of_nonneg_right c127 (by norm_num)
    · intro h
      cases neg with
      | true =>
        have : 127 ≤ -x * 64 := h
        linarith
      | false => exact congrArg (· / 64) (full (steps ▸ h))
    · intro h
      cases neg with
      | true =>
        have h' : -x * 64 ≤ -127 := h
        rw [show signed true ((min 127 N : ℕ) : ℚ) = -((min 127 N : ℕ) : ℚ) from rfl, full (by linarith)]
        ring
      | false =>
        have : x * 64 ≤ -127 := h
        linarith
    · rw [abs_signed_of_nonneg _ x0, steps]
      intro h
      obtain ⟨fits, close, tie⟩ := within h
      rw [min_eq_right fits]
      exact ⟨close, tie⟩
  · have same : signed neg ((min 127 N : ℕ) : ℚ) / 64 = signed neg x ↔ (n : ℚ) + t = (min 127 N : ℕ) := by
      rw [← steps]
      cases neg <;> simp [signed] <;> constructor <;> intro h <;> linarith
    rw [code, Ne, same, exact', eq, Bool.or_eq_true, hix, decide_eq_true_iff, not_and_or, not_le]

/-- One element of any MX type. -/
theorem mxRound_spec {t : MxElem} (ht : ∀ g k, t = .flt g k → g.Wf) (neg : Bool) (m : ℕ) (e : ℤ) :
    t.encodes neg (signed neg (m * 2 ^ e)) (mxRound t neg m e).1
      ∧ ((mxRound t neg m e).2 = true ↔ t.num (mxRound t neg m e).1 ≠ signed neg (m * 2 ^ e)) := by
  cases t with
  | flt g k => exact mxRound_flt (ht g k rfl) k neg m e
  | int8 => exact mxRound_int8 neg m e

/-! ### One block -/

/-- The scale of a block whose largest value leads at the given weight (R39). -/
def mxScale (t : MxElem) (lead : Option ℤ) : ℤ :=
  let emax : ℤ := match t with
    | .flt _ k => k
    | .int8 => 0
  let es : ℤ := match lead with
    | none => -127
    | some e => e - emax
  if es + 127 < 0 then 0 else if 254 < es + 127 then 254 else es + 127

/-- One element with its block's scale. -/
def mxElement (t : MxElem) (x : ℤ) (w : Val) : Nat × Bool :=
  match w with
  | .fin n m e => mxRound t n m (e + 127 - x)
  | _ => (0, false)

theorem mxBlock_special {f : Fmt} (t : MxElem) {v : List Nat} (h : ∃ x ∈ v, f.isNan x = true ∨ f.isInf x = true) :
    mxBlock f t v = (255, v.map (fun _ => 0), fNV) := by
  rw [mxBlock.eq_def, if_pos]
  simpa using h

theorem mxBlock_finite {f : Fmt} (t : MxElem) {v : List Nat} (h : ∀ x ∈ v, f.finite x) :
    let x := mxScale t (maxLead (v.map f.val))
    let els := (v.map f.val).map (mxElement t x)
    mxBlock f t v = (x.toNat, els.map (·.1), if els.any (·.2) then fNX else 0) := by
  have none : ¬v.any (fun x => f.isNan x || f.isInf x) = true := by
    rw [List.any_eq_true]
    rintro ⟨x, hx, hs⟩
    simp [(h x hx).1, (h x hx).2] at hs
  rw [mxBlock.eq_def, if_neg none]
  rfl

/-- The largest exponent of an element type (R39). -/
def MxElem.emax : MxElem → ℤ
  | .flt _ k => k
  | .int8 => 0

theorem mxScale_bounds (t : MxElem) (lead : Option ℤ) : 0 ≤ mxScale t lead ∧ mxScale t lead ≤ 254 := by
  rw [mxScale.eq_def]
  dsimp only
  split_ifs <;> omega

theorem mxScale_some (t : MxElem) (e : ℤ) : mxScale t (some e) = max 0 (min 254 (e - t.emax + 127)) := by
  have clamp (y : ℤ) : (if y < 0 then 0 else if 254 < y then 254 else y) = max 0 (min 254 y) := by
    split_ifs <;> omega
  cases t <;> exact clamp _

theorem mxElement_spec {f : Fmt} {t : MxElem} (hf : f.Wf) (ht : ∀ g k, t = .flt g k → g.Wf) {x : Nat} (hx : f.finite x) (s : ℤ) :
    t.encodes (f.neg x) (f.num x * 2 ^ (127 - s)) (mxElement t s (f.val x)).1
      ∧ ((mxElement t s (f.val x)).2 = true ↔ t.num (mxElement t s (f.val x)).1 ≠ f.num x * 2 ^ (127 - s)) := by
  obtain ⟨m, e, hv, hn, -⟩ := Fmt.val_of_finite hf hx
  have scaled : signed (f.neg x) (m * 2 ^ e) * 2 ^ (127 - s) = signed (f.neg x) (m * 2 ^ (e + 127 - s)) := by
    rw [add_sub_assoc, zpow_add₀ (by norm_num : (2 : ℚ) ≠ 0), signed, signed]
    cases f.neg x
    · exact mul_assoc _ _ _
    · simp only [if_true]
      ring
  rw [hv, hn, scaled]
  exact mxRound_spec ht _ _ _

theorem exists_getD_iff (v : List Nat) (p : Nat → Prop) : (∃ i, i < v.length ∧ p (v.getD i 0)) ↔ ∃ x ∈ v, p x := by
  constructor
  · rintro ⟨i, hi, hp⟩
    rw [List.getD_eq_getElem _ _ hi] at hp
    exact ⟨_, List.getElem_mem hi, hp⟩
  · rintro ⟨x, hx, hp⟩
    obtain ⟨i, hi, rfl⟩ := List.getElem_of_mem hx
    exact ⟨i, hi, by rwa [List.getD_eq_getElem _ _ hi]⟩

end Sys2Proof.Machine
end

section
/-! SUPPORT. The obligation on rounded arithmetic (R27, R32, R37 to R39, R43, R44). -/

namespace Sys2Proof.Machine

/-! ### MX blocks -/

theorem emax_mxElem (ty : Fin 6) : (mxElem ty.val).emax = ([8, 15, 4, 2, 2, 0] : List ℤ).getD ty.val 0 := by
  fin_cases ty <;> rfl

theorem mxElem_wf {ty : Fin 6} {g : Fmt} {k : Nat} (h : mxElem ty.val = .flt g k) : g.Wf := by
  fin_cases ty <;> simp [mxElem] at h <;> obtain ⟨rfl, -⟩ := h <;> exact ⟨by decide, by decide⟩

section
variable {f : Fmt} {t : MxElem} {v : List Nat} (hf : f.Wf) (fin : ∀ x ∈ v, f.finite x)
include hf fin

theorem mxBlock_scale_zero (zero : ∀ x ∈ v, f.num x = 0) : (mxBlock f t v).1 = 0 := by
  have : maxLead (v.map f.val) = none := maxLead_of_zero (by simpa using fun x hx => (Fmt.val_num hf (fin x hx)).trans (zero x hx))
  rw [mxBlock_finite t fin, this]
  rfl

theorem mxBlock_scale {e : ℤ} (below : ∀ x ∈ v, |f.num x| < 2 ^ (e + 1)) (above : ∃ x ∈ v, (2 : ℚ) ^ e ≤ |f.num x|) :
    ((mxBlock f t v).1 : ℤ) = max 0 (min 254 (e - t.emax + 127)) := by
  have lead : leads e (v.map f.val) := by
    constructor
    · simpa using fun x hx => (Fmt.val_num hf (fin x hx)) ▸ below x hx
    · obtain ⟨x, hx, h⟩ := above
      exact ⟨_, List.mem_map_of_mem hx, (Fmt.val_num hf (fin x hx)).symm ▸ h⟩
  rw [mxBlock_finite t fin, maxLead_of_leads lead, Int.toNat_of_nonneg (mxScale_bounds _ _).1, mxScale_some]

omit hf in
theorem mxBlock_length : (mxBlock f t v).2.1.length = v.length := by
  rw [mxBlock_finite t fin]
  simp

/-- Each element is the code of its value with the scale, and NX is raised where one is not exact. -/
theorem mxBlock_elements (ht : ∀ g k, t = .flt g k → g.Wf) :
    let q (i : Nat) : ℚ := f.num (v.getD i 0) * 2 ^ (127 - ((mxBlock f t v).1 : ℤ))
    let code (i : Nat) : Nat := (mxBlock f t v).2.1.getD i 0
    (∀ i, i < v.length → t.encodes (f.neg (v.getD i 0)) (q i) (code i))
      ∧ (mxBlock f t v).2.2 = if ∃ i, i < v.length ∧ t.num (code i) ≠ q i then fNX else 0 := by
  intro q code
  have hs := (mxScale_bounds t (maxLead (v.map f.val))).1
  have scale : ((mxBlock f t v).1 : ℤ) = mxScale t (maxLead (v.map f.val)) := by
    rw [mxBlock_finite t fin, Int.toNat_of_nonneg hs]
  have element (i : Nat) (hi : i < v.length) : code i = (mxElement t (mxScale t (maxLead (v.map f.val))) (f.val (v.getD i 0))).1 := by
    have hi' : i < (mxBlock f t v).2.1.length := (mxBlock_length fin).symm ▸ hi
    dsimp only [code]
    rw [List.getD_eq_getElem _ _ hi', List.getD_eq_getElem _ _ hi]
    simp only [mxBlock_finite t fin, List.getElem_map]
  have member (i : Nat) (hi : i < v.length) : f.finite (v.getD i 0) := by
    rw [List.getD_eq_getElem _ _ hi]
    exact fin _ (List.getElem_mem hi)
  have each (i : Nat) (hi : i < v.length) := mxElement_spec hf ht (member i hi) (mxScale t (maxLead (v.map f.val)))
  have value (i : Nat) : q i = f.num (v.getD i 0) * 2 ^ (127 - mxScale t (maxLead (v.map f.val))) := by
    dsimp only [q]
    rw [scale]
  constructor
  · intro i hi
    rw [element i hi, value]
    exact (each i hi).1
  · have some : ((v.map f.val).map (mxElement t (mxScale t (maxLead (v.map f.val))))).any (·.2) = true
        ↔ ∃ i, i < v.length ∧ t.num (code i) ≠ q i := by
      have := exists_getD_iff v fun x => (mxElement t (mxScale t (maxLead (v.map f.val))) (f.val x)).2 = true
      rw [List.any_map, List.any_map, List.any_eq_true]
      refine this.symm.trans (exists_congr fun i => and_congr_right fun hi => ?_)
      rw [element i hi, value]
      exact (each i hi).2
    have flags := congrArg (·.2.2) (mxBlock_finite t fin)
    dsimp only at flags
    rw [flags]
    exact if_congr some rfl rfl

end

/-! ### The clauses -/

theorem scalar_ieee {f : Fmt} (h : f = fp32 ∨ f = bf16 ∨ f = fp16) : f.Ieee := by
  rcases h with rfl | rfl | rfl
  · exact fp32_ieee
  · exact bf16_ieee
  · exact fp16_ieee

/-- Settles O15: each operation by the kinds of its operands, and on finite ones the exact number rounded once; the error of a sum is a
number of the format; the elements of an MX block are nearest to their scaled values. -/
theorem arithmeticIsRoundedExactly : Obligations.ArithmeticIsRoundedExactly := by
  unfold Obligations.ArithmeticIsRoundedExactly
  refine ⟨?ops, ?pairs, ?blocks⟩
  case ops =>
    intro f rm a b c scalar exact' quiets invalid inf na nb zeroInf
    have hf := scalar_ieee scalar
    refine ⟨?addNan, ?subNan, ?mulNan, ?maNan, ?finite, ?infinite⟩
    case addNan => exact fun x h => by rw [Bool.or_false, fAdd_nan h]
    case subNan => exact fun x h => by rw [Bool.or_false, fSub_nan hf.toWf h]
    case mulNan => exact fun x h => by rw [Bool.or_false, fMul_nan h]
    case maNan => exact fun x h => fMa_nan hf.toWf h
    case finite =>
      exact fun ha hb => ⟨fAdd_finite hf rm ha hb, fSub_finite hf rm ha hb, fMul_finite hf rm ha hb,
        fun hc => fMa_finite hf rm ha hb hc, fun hc => fMa_inf_addend hf.toWf rm ha hb hc⟩
    case infinite =>
      intro ha hb
      refine ⟨fun ib h => fAdd_inf_apart rm ha ib h, fun ib h => fSub_inf_same hf.toWf rm ha ib h,
        fun h => ⟨fAdd_inf_left hf.toWf rm ha hb h, fAdd_inf_right hf.toWf rm ha hb h⟩,
        fun h => ⟨fSub_inf_left hf.toWf rm ha hb h, fSub_inf_right hf.toWf rm ha hb h⟩, ?_, ?_, fun hc => ⟨?_, ?_⟩⟩
      · intro h
        have := fMul_inf hf.toWf rm ha hb
        rwa [show f.zeroInf a b = true from h] at this
      · intro h
        have := fMul_inf hf.toWf rm ha hb
        rwa [show f.zeroInf a b = false from h] at this
      · intro h
        cases hz : f.zeroInf a b with
        | true => exact fMa_zeroInf hf.toWf rm ha hb hc hz
        | false =>
          have apart := h.resolve_left fun h => by simp [show f.zeroInf a b = true from h] at hz
          have := fMa_inf hf.toWf rm ha hb hc hz
          rwa [if_pos apart] at this
      · intro hz same
        have := fMa_inf hf.toWf rm ha hb hc hz
        rwa [if_neg] at this
        rintro ⟨ic, apart⟩
        rcases same with same | same
        · simp [ic] at same
        · exact apart same
  case pairs =>
    intro a b s p nearest
    refine ⟨fun x h => ?_, fun ha hb h => twoSum_inf_apart ha hb h, fun ha hb h => ?_, fun ha hb h => ?_, fun ha hb => ?_⟩
    · obtain ⟨s1, s2⟩ := twoSum_nan h
      obtain ⟨p1, p2⟩ := twoProd_nan h
      exact ⟨s1, s2, p1, p2⟩
    · rw [show s = (twoSum a b).1 from rfl, twoSum_eq ha hb] at h
      rw [twoSum_eq ha hb]
      exact errorPair_of_isInf h
    · rw [show p = (twoProd a b).1 from rfl, twoProd_eq ha hb] at h
      rw [twoProd_eq ha hb]
      exact errorPair_of_isInf h
    · obtain ⟨sumFst, -⟩ := twoSum_finite ha hb
      obtain ⟨prodFst, prodSnd⟩ := twoProd_finite ha hb
      have sum : fp32.toNearest (fp32.num a + fp32.num b) (fp32.neg a && fp32.neg b) (fAdd fp32 .near a b).1 := by
        simpa using (fAdd_finite fp32_ieee .near ha hb).toNearest
      have prod := (fMul_finite fp32_ieee .near ha hb).toNearest
      rw [← sumFst] at sum
      rw [← prodFst] at prod prodSnd
      refine ⟨sum, fun hs => ?_, prod, prodSnd⟩
      obtain ⟨fin, err, zero⟩ := twoSum_error ha hb hs
      exact ⟨fin, by rw [err, add_sub_cancel], zero⟩
  case blocks =>
    intro f ty v scalar hlen scale els fl emax
    have hf := (scalar_ieee scalar).toWf
    refine ⟨fun special => ?_, fun fin => ?_⟩
    · have block := mxBlock_special (mxElem ty.val) special
      refine ⟨congrArg (·.1) block, (congrArg (·.2.1) block).trans ?_, congrArg (·.2.2) block⟩
      dsimp only
      rw [List.map_const', hlen]
    · intro q got
      have wf (g : Fmt) (k : Nat) (h : mxElem ty.val = .flt g k) : g.Wf := mxElem_wf h
      obtain ⟨each, flags⟩ := mxBlock_elements hf fin wf
      rw [hlen] at each flags
      have number (i : Nat) : got i = (mxElem ty.val).num (els.getD i 0) := rfl
      refine ⟨mxBlock_scale_zero hf fin, fun e below above => ?_, (mxBlock_length fin).trans hlen, fun all => ?_, fun some => ?_, fun i hi => ?_⟩
      · rw [show emax = (mxElem ty.val).emax from (emax_mxElem ty).symm]
        exact mxBlock_scale hf fin below above
      · rw [← if_neg (c := ∃ i, i < 32 ∧ got i ≠ q i) (t := fNX) (e := 0) (by simpa using all)]
        exact flags
      · rw [← if_pos (c := ∃ i, i < 32 ∧ got i ≠ q i) (t := fNX) (e := 0) some]
        exact flags
      · have here : (mxElem ty.val).encodes (f.neg (v.getD i 0)) (q i) (els.getD i 0) := each i hi
        refine ⟨fun g k h => ?_, fun h => ?_⟩
        · rw [h] at here
          exact here
        · rw [h] at here
          rw [number, h]
          exact here

end Sys2Proof.Machine
end

section
/-! SUPPORT. Sums of the canvas (R46, R49): the special cases, terms cut to a window, and exact sums rounded once. -/

namespace Sys2Proof.Machine

/-! ### Special cases -/

theorem any_beq_iff (ts : List Val) (v : Val) : ts.any (fun t => t == v) = true ↔ v ∈ ts := by
  rw [List.any_beq', List.contains_iff_mem]

theorem any_beq_false {ts : List Val} {v : Val} (h : v ∉ ts) : ts.any (fun t => t == v) = false :=
  Bool.eq_false_iff.2 fun hv => h ((any_beq_iff ts v).1 hv)

section
variable {ts : List Val}

theorem specialSum_nan (h : .nan ∈ ts) : specialSum ts = some 0x7FC00000 := by
  rw [specialSum, if_pos ((any_beq_iff ts _).2 h)]
  rfl

theorem specialSum_both (h : .nan ∉ ts) (hp : .inf false ∈ ts) (hn : .inf true ∈ ts) : specialSum ts = some 0x7FC00000 := by
  rw [specialSum, any_beq_false h, (any_beq_iff ts _).2 hp, (any_beq_iff ts _).2 hn]
  rfl

theorem specialSum_pos (h : .nan ∉ ts) (hp : .inf false ∈ ts) (hn : .inf true ∉ ts) : specialSum ts = some 0x7F800000 := by
  rw [specialSum, any_beq_false h, (any_beq_iff ts _).2 hp, any_beq_false hn]
  rfl

theorem specialSum_neg (h : .nan ∉ ts) (hp : .inf false ∉ ts) (hn : .inf true ∈ ts) : specialSum ts = some 0xFF800000 := by
  rw [specialSum, any_beq_false h, any_beq_false hp, (any_beq_iff ts _).2 hn]
  rfl

theorem specialSum_finite (h : ∀ t ∈ ts, t.isFin = true) : specialSum ts = none := by
  have out (v : Val) (hv : v.isFin = false) : v ∉ ts := fun hm => by simp [h v hm] at hv
  rw [specialSum, any_beq_false (out .nan rfl), any_beq_false (out (.inf false) rfl), any_beq_false (out (.inf true) rfl)]
  rfl

/-- The sign of a sum of zeros: −0 comes only of terms that are all −0. -/
theorem allNegZero_iff (ts : List Val) : (!ts.isEmpty && ts.all Val.isNegZero) = true ↔ ts ≠ [] ∧ ∀ t ∈ ts, t.isNegZero = true := by
  simp [List.all_eq_true]

end

/-! ### Exact sums -/

theorem num_foldl_add (ds : List Dy) (a : Dy) : (ds.foldl Dy.add a).num = a.num + (ds.map Dy.num).sum := by
  induction ds generalizing a with
  | nil => simp
  | cons d ds ih => rw [List.foldl_cons, ih, Dy.num_add, List.map_cons, List.sum_cons, add_assoc]

theorem num_sumDy (ds : List Dy) : (sumDy ds).num = (ds.map Dy.num).sum := by
  rw [sumDy, num_foldl_add]
  simp [Dy.num]

/-- The cut of a magnitude, as the model shifts it. -/
theorem floor_shift (m : ℕ) (e q : ℤ) :
    ⌊(m : ℚ) * 2 ^ e / 2 ^ q⌋ = ((if e ≥ q then m * 2 ^ (e - q).toNat else m / 2 ^ (q - e).toNat : ℕ) : ℤ) := by
  rw [mul_div_assoc, ← zpow_sub₀ (by norm_num)]
  split
  · next h =>
    obtain ⟨d, hd⟩ := Int.eq_ofNat_of_zero_le (sub_nonneg.2 h)
    rw [hd, zpow_natCast, Int.toNat_natCast, ← Int.floor_natCast (R := ℚ)]
    push_cast
    rfl
  · next h =>
    obtain ⟨d, hd⟩ := Int.eq_ofNat_of_zero_le (show 0 ≤ q - e by omega)
    rw [← neg_sub, hd, zpow_neg, zpow_natCast, Int.toNat_natCast, ← div_eq_mul_inv]
    exact_mod_cast Rat.floor_natCast_div_natCast m (2 ^ d)

theorem num_cutAt {t : Val} (E : ℤ) (ht : t.isFin = true) : (cutAt (E - 26) t).num = cutTerm E t := by
  cases t with
  | nan => simp [Val.isFin] at ht
  | inf s => simp [Val.isFin] at ht
  | fin n m e =>
    have floor := floor_shift m e (E - 26)
    rw [cutAt, num_dyOf, cutTerm, Val.num_fin]
    rw [show (((if e ≥ E - 26 then m * 2 ^ (e - (E - 26)).toNat else m / 2 ^ (E - 26 - e).toNat) : ℕ) : ℚ)
      = ((⌊(m : ℚ) * 2 ^ e / 2 ^ (E - 26)⌋ : ℤ) : ℚ) by rw [floor]; norm_cast]
    have nonneg : (0 : ℚ) ≤ m * 2 ^ e := by positivity
    cases n with
    | false =>
      have above : ¬signed false ((m : ℚ) * 2 ^ e) < 0 := not_lt.2 nonneg
      rw [if_neg above]
      rfl
    | true =>
      rcases nonneg.lt_or_eq with pos | zero
      · have below : signed true ((m : ℚ) * 2 ^ e) < 0 := neg_neg_of_pos pos
        rw [if_pos below]
        simp [signed]
      · simp [← zero, signed]

theorem num_exactOf {t : Val} : (exactOf t).num = t.num := by
  cases t with
  | nan => simp [exactOf, Dy.num, Val.num]
  | inf s => simp [exactOf, Dy.num, Val.num]
  | fin n m e => rw [exactOf, num_dyOf, Val.num_fin]

theorem sum_cutAt {ts : List Val} (E : ℤ) (h : ∀ t ∈ ts, t.isFin = true) :
    ((ts.map (cutAt (E - 26))).map Dy.num).sum = (ts.map (cutTerm E)).sum := by
  rw [List.map_map]
  exact congrArg List.sum (List.map_congr_left fun t ht => num_cutAt E (h t ht))

theorem sum_exactOf (ts : List Val) : ((ts.map exactOf).map Dy.num).sum = (ts.map Val.num).sum := by
  rw [List.map_map]
  exact congrArg List.sum (List.map_congr_left fun t _ => num_exactOf)

/-! ### The group rule -/

/-- The group rule over the terms of an element, the accumulator's among them. -/
def groupSum (ts : List Val) : Nat :=
  match specialSum ts with
  | some r => r
  | none =>
    match maxLead ts with
    | none => if !ts.isEmpty && ts.all Val.isNegZero then fp32.pack true 0 else 0
    | some e =>
      let r := (roundDy fp32 .near true false (sumDy (ts.map (cutAt (e - 26))))).1
      if r = fp32.pack true 0 then 0 else r

theorem groupRule_eq (ps : List Val) (acc : Option Nat) : groupRule ps acc = groupSum (ps ++ (acc.map fp32.val).toList) := by
  cases acc <;> rfl

theorem groupSum_special {ts : List Val} {r : Nat} (h : specialSum ts = some r) : groupSum ts = r := by rw [groupSum, h]

theorem groupSum_zero {ts : List Val} (fin : ∀ t ∈ ts, t.isFin = true) (zero : ∀ t ∈ ts, t.num = 0) :
    groupSum ts = if ts ≠ [] ∧ ∀ t ∈ ts, t.isNegZero = true then 0x80000000 else 0 := by
  rw [groupSum, specialSum_finite fin, maxLead_of_zero zero]
  exact if_congr (allNegZero_iff ts) rfl rfl

theorem groupSum_lead {ts : List Val} {E : ℤ} (fin : ∀ t ∈ ts, t.isFin = true) (lead : leads E ts) :
    let S : ℚ := (ts.map (cutTerm E)).sum
    (S = 0 → groupSum ts = 0)
      ∧ (S ≠ 0 → groupSum ts ≠ 0x80000000
        ∧ (fp32.rounds .near S (groupSum ts) ∨ groupSum ts = 0 ∧ fp32.rounds .near S 0x80000000)) := by
  intro S
  have sum : (sumDy (ts.map (cutAt (E - 26)))).num = S := (num_sumDy _).trans (sum_cutAt E fin)
  have rounded := (roundDy_exactly fp32_ieee .near false (sumDy (ts.map (cutAt (E - 26))))).toNearest
  rw [sum] at rounded
  rw [groupSum, specialSum_finite fin, maxLead_of_leads lead]
  dsimp only
  generalize (roundDy fp32 .near true false (sumDy (ts.map (cutAt (E - 26))))).1 = r at rounded ⊢
  have minus : fp32.pack true 0 = 0x80000000 := rfl
  rw [minus]
  refine ⟨fun hz => ?_, fun hne => ?_⟩
  · rw [rounded.1 hz]
    rfl
  · have near := rounded.2 hne
    split
    · next hr => exact ⟨by decide, .inr ⟨rfl, hr ▸ near⟩⟩
    · next hr => exact ⟨hr, .inl near⟩

/-! ### The pair rule -/

/-- The products cut to the window below the leading one. -/
def cutTerms (ps : List Val) : List Dy :=
  match maxLead ps with
  | none => []
  | some e => ps.map (cutAt (e - 26))

/-- `P` is the sum of the products after the cut. -/
def isCutSum (ps : List Val) (P : ℚ) : Prop := (∀ t ∈ ps, t.num = 0) ∧ P = 0 ∨ ∃ E : ℤ, leads E ps ∧ P = (ps.map (cutTerm E)).sum

theorem sum_cutTerms {ps : List Val} {P : ℚ} (fin : ∀ t ∈ ps, t.isFin = true) (h : isCutSum ps P) : ((cutTerms ps).map Dy.num).sum = P := by
  rcases h with ⟨zero, rfl⟩ | ⟨E, lead, rfl⟩
  · rw [cutTerms, maxLead_of_zero zero]
    rfl
  · rw [cutTerms, maxLead_of_leads lead]
    exact sum_cutAt E fin

/-- The pair rule over the products and the two numbers of the accumulator. -/
def pairSum (ps as : List Val) : Nat × Nat :=
  match specialSum (ps ++ as) with
  | some r => (r, if fp32.isNan r then r else 0)
  | none =>
    let s := sumDy (cutTerms ps ++ as.map exactOf)
    if s.m = 0 then (if !(ps ++ as).isEmpty && (ps ++ as).all Val.isNegZero then fp32.pack true 0 else 0, 0)
    else
      let hi := (roundDy fp32 .near true false s).1
      if fp32.isInf hi then (hi, 0)
      else
        let d := exactOf (fp32.val hi)
        (hi, (roundDy fp32 .near true false (s.add ⟨-d.m, d.e⟩)).1)

theorem pairRule_eq (ps : List Val) (acc : Option (Nat × Nat)) :
    pairRule ps acc = pairSum ps (acc.elim [] fun x => [fp32.val x.1, fp32.val x.2]) := by
  cases acc <;> rfl

theorem pairSum_special {ps as : List Val} {r : Nat} (h : specialSum (ps ++ as) = some r) :
    pairSum ps as = (r, if fp32.isNan r then r else 0) := by rw [pairSum, h]

theorem num_neg (d : Dy) : (⟨-d.m, d.e⟩ : Dy).num = -d.num := by simp [Dy.num]

/-- What the pair rule gives: the sum rounded, and its error rounded. -/
theorem pairSum_finite {ps as : List Val} (fin : ∀ t ∈ ps ++ as, t.isFin = true) {P : ℚ} (cut : isCutSum ps P) :
    let S : ℚ := (as.map Val.num).sum + P
    let r := pairSum ps as
    (S = 0 → r = (if ps ++ as ≠ [] ∧ ∀ t ∈ ps ++ as, t.isNegZero = true then 0x80000000 else 0, 0))
      ∧ (S ≠ 0 → fp32.rounds .near S r.1 ∧ (fp32.isInf r.1 = true ∨ S = fp32.num r.1 → r.2 = 0)
        ∧ (fp32.isInf r.1 = false → S ≠ fp32.num r.1 → fp32.rounds .near (S - fp32.num r.1) r.2)) := by
  intro S r
  have sum : (sumDy (cutTerms ps ++ as.map exactOf)).num = S := by
    rw [num_sumDy, List.map_append, List.sum_append, sum_cutTerms (fun t ht => fin t (List.mem_append_left _ ht)) cut, sum_exactOf, add_comm]
  have unfolded : r = pairSum ps as := rfl
  rw [pairSum, specialSum_finite fin] at unfolded
  dsimp only at unfolded
  generalize sumDy (cutTerms ps ++ as.map exactOf) = s at sum unfolded
  have zero := s.num_eq_zero_iff
  rw [sum] at zero
  constructor
  · intro hz
    rw [unfolded, if_pos (zero.1 hz)]
    exact congrArg (·, 0) (if_congr (allNegZero_iff (ps ++ as)) rfl rfl)
  · intro hne
    rw [if_neg (mt zero.2 hne)] at unfolded
    have high := (roundDy_exactly fp32_ieee .near false s).toNearest
    rw [sum] at high
    generalize (roundDy fp32 .near true false s).1 = hi at high unfolded
    cases hinf : fp32.isInf hi with
    | true =>
      rw [hinf, if_pos rfl] at unfolded
      rw [unfolded]
      exact ⟨high.2 hne, fun _ => rfl, fun h => by simp [hinf] at h⟩
    | false =>
      rw [hinf, if_neg Bool.false_ne_true] at unfolded
      have err : (s.add ⟨-(exactOf (fp32.val hi)).m, (exactOf (fp32.val hi)).e⟩).num = S - fp32.num hi := by
        rw [Dy.num_add, num_neg, num_exactOf, sum, Fmt.val_num fp32_ieee.toWf ⟨high.not_nan fp32_ieee, hinf⟩, sub_eq_add_neg]
      have low := (roundDy_exactly fp32_ieee .near false (s.add ⟨-(exactOf (fp32.val hi)).m, (exactOf (fp32.val hi)).e⟩)).toNearest
      rw [err] at low
      rw [unfolded]
      refine ⟨high.2 hne, fun h => ?_, fun _ h => low.2 (sub_ne_zero.2 h)⟩
      rcases h with h | h
      · simp [hinf] at h
      · exact low.1 (sub_eq_zero.2 h)

end Sys2Proof.Machine
end

section
/-! SUPPORT. Products with their scales (R29, R46), and the elements of a result from their groups (R46, R47, R49, R64, R79). -/

namespace Sys2Proof.Machine

/-! ### Products -/

/-- The number of a scale (R29). -/
def scaleNum (x : Nat) : ℚ := 2 ^ ((x : ℤ) - 127)

theorem Val.scale_of_nan (x : Nat) : Val.nan.scale x = .nan := by
  unfold Val.scale
  split <;> rfl

theorem Val.scale_inf (s : Bool) {x : Nat} (h : x ≠ 255) : (Val.inf s).scale x = .inf s := if_neg h

theorem Val.scale_fin (n : Bool) (m : ℕ) (e : ℤ) {x : Nat} (h : x ≠ 255) : (Val.fin n m e).scale x = .fin n m (e + x - 127) := by
  rw [Val.scale, if_neg h]

theorem Val.num_scale (n : Bool) (m : ℕ) (e : ℤ) (x : Nat) : (Val.fin n m (e + x - 127)).num = (Val.fin n m e).num * scaleNum x := by
  rw [Val.num_fin, Val.num_fin, scaleNum, add_sub_assoc, zpow_add₀ (by norm_num : (2 : ℚ) ≠ 0), signed, signed]
  split <;> ring

theorem Val.mul_nan_left (v : Val) : Val.nan.mul v = .nan := by cases v <;> rfl

theorem Val.mul_nan_right (v : Val) : v.mul .nan = .nan := by cases v <;> rfl

theorem Val.num_mul (n n' : Bool) (m m' : ℕ) (e e' : ℤ) :
    ((Val.fin n m e).mul (.fin n' m' e')).num = (Val.fin n m e).num * (Val.fin n' m' e').num := (num_product n n' m m' e e').symm

/-- A value with its scale, where its type has one. -/
def scaled (mx : Bool) (v : Val) (x : Nat) : Val := if mx then v.scale x else v

theorem CEnt.product_eq (e : CEnt) (g : Map Line) (i j k : Nat) :
    e.product g i j k = (scaled (isMx e.aty) (elemVal e.aty (e.aCode g i k)) (e.aScaleOf g i k)).mul
      (scaled (isMx e.aty) (elemVal e.bty (e.bCode g k j)) (e.bScaleOf g k j)) := by
  rw [CEnt.product, scaled, scaled]
  cases isMx e.aty <;> rfl

section
variable {mx : Bool} {x y : Nat}

theorem scaled_nan (mx : Bool) (x : Nat) : scaled mx .nan x = .nan := by
  cases mx with
  | false => rfl
  | true => exact Val.scale_of_nan x

theorem scaled_inf (s : Bool) (h : mx = true → x ≠ 255) : scaled mx (.inf s) x = .inf s := by
  cases mx with
  | false => rfl
  | true => exact Val.scale_inf s (h rfl)

/-- A finite value keeps its sign and its significand under a scale. -/
theorem scaled_fin (n : Bool) (m : ℕ) (e : ℤ) (h : mx = true → x ≠ 255) :
    ∃ e', scaled mx (.fin n m e) x = .fin n m e' ∧ (Val.fin n m e').num = (Val.fin n m e).num * if mx then scaleNum x else 1 := by
  cases mx with
  | false => exact ⟨e, rfl, by simp⟩
  | true => exact ⟨_, Val.scale_fin n m e (h rfl), Val.num_scale n m e x⟩

theorem scaleNum_mul (x y : Nat) : scaleNum x * scaleNum y = 2 ^ ((x : ℤ) + y - 254) := by
  rw [scaleNum, scaleNum, ← zpow_add₀ (by norm_num)]
  congr 1
  ring

theorem scaled_num_mul (n n' : Bool) (m m' : ℕ) (e e' : ℤ) (hx : mx = true → x ≠ 255) (hy : mx = true → y ≠ 255) :
    ((scaled mx (.fin n m e) x).mul (scaled mx (.fin n' m' e') y)).isFin = true
      ∧ ((scaled mx (.fin n m e) x).mul (scaled mx (.fin n' m' e') y)).num
        = (Val.fin n m e).num * (Val.fin n' m' e').num * if mx then 2 ^ ((x : ℤ) + y - 254) else 1 := by
  obtain ⟨f, h1, n1⟩ := scaled_fin n m e hx
  obtain ⟨f', h2, n2⟩ := scaled_fin n' m' e' hy
  rw [h1, h2, Val.num_mul, n1, n2]
  refine ⟨rfl, ?_⟩
  cases mx with
  | false => simp
  | true =>
    simp only [if_true]
    rw [← scaleNum_mul]
    ring

end

/-- The formats of tile types are formats, and their values are those of the type. -/
theorem tileFormats_spec {t : Nat} {f : Fmt} (h : (t, f) ∈ tileFormats) : f.Wf ∧ elemVal t = f.val := by
  simp only [tileFormats, List.mem_cons, Prod.mk.injEq, List.not_mem_nil, or_false] at h
  rcases h with ⟨rfl, rfl⟩ | ⟨rfl, rfl⟩ | ⟨rfl, rfl⟩ | ⟨rfl, rfl⟩ | ⟨rfl, rfl⟩ | ⟨rfl, rfl⟩ | ⟨rfl, rfl⟩
      | ⟨rfl, rfl⟩ | ⟨rfl, rfl⟩
    <;> exact ⟨⟨by decide, by decide⟩, rfl⟩

section
variable {f h : Fmt} (hf : f.Wf) (hh : h.Wf) {mx : Bool} {a b x y : Nat}

theorem scaled_mul_nan (hnan : f.isNan a = true ∨ h.isNan b = true) : (scaled mx (f.val a) x).mul (scaled mx (h.val b) y) = .nan := by
  rcases hnan with ha | hb
  · rw [Fmt.val_of_isNan ha, scaled_nan, Val.mul_nan_left]
  · rw [Fmt.val_of_isNan hb, scaled_nan, Val.mul_nan_right]

variable (hx : mx = true → x ≠ 255) (hy : mx = true → y ≠ 255)
include hx hy

include hf hh in
theorem scaled_mul_finite (ha : f.finite a) (hb : h.finite b) :
    ((scaled mx (f.val a) x).mul (scaled mx (h.val b) y)).isFin = true
      ∧ ((scaled mx (f.val a) x).mul (scaled mx (h.val b) y)).num = f.num a * h.num b * if mx then 2 ^ ((x : ℤ) + y - 254) else 1 := by
  obtain ⟨ma, ea, va, na, -⟩ := Fmt.val_of_finite hf ha
  obtain ⟨mb, eb, vb, nb, -⟩ := Fmt.val_of_finite hh hb
  rw [va, vb, na, nb]
  exact scaled_num_mul _ _ _ _ _ _ hx hy

include hh in
theorem scaled_mul_inf_left (ha : f.isInf a = true) (hb : h.finite b) :
    (scaled mx (f.val a) x).mul (scaled mx (h.val b) y) = if h.num b = 0 then .nan else .inf (f.neg a != h.neg b) := by
  obtain ⟨mb, eb, vb, -, zero⟩ := Fmt.val_of_finite hh hb
  obtain ⟨e, hs, -⟩ := scaled_fin (h.neg b) mb eb hy
  rw [Fmt.val_of_isInf ha, scaled_inf _ hx, vb, hs, ← if_congr (zero.trans (Fmt.num_eq_zero_iff hh b).symm) rfl rfl]
  rfl

include hf in
theorem scaled_mul_inf_right (ha : f.finite a) (hb : h.isInf b = true) :
    (scaled mx (f.val a) x).mul (scaled mx (h.val b) y) = if f.num a = 0 then .nan else .inf (f.neg a != h.neg b) := by
  obtain ⟨ma, ea, va, -, zero⟩ := Fmt.val_of_finite hf ha
  obtain ⟨e, hs, -⟩ := scaled_fin (f.neg a) ma ea hx
  rw [Fmt.val_of_isInf hb, scaled_inf _ hy, va, hs, ← if_congr (zero.trans (Fmt.num_eq_zero_iff hf a).symm) rfl rfl]
  rfl

theorem scaled_mul_inf_inf (ha : f.isInf a = true) (hb : h.isInf b = true) :
    (scaled mx (f.val a) x).mul (scaled mx (h.val b) y) = .inf (f.neg a != h.neg b) := by
  rw [Fmt.val_of_isInf ha, Fmt.val_of_isInf hb, scaled_inf _ hx, scaled_inf _ hy]
  rfl

end

theorem num_elemVal_int8 (x : Nat) : ∃ (n : Bool) (m : ℕ), elemVal 7 x = .fin n m (-6) ∧ (Val.fin n m (-6)).num = (BitVec.ofNat 8 x).toInt / 64 := by
  refine ⟨_, _, rfl, ?_⟩
  have := Dy.num_eq_signed ⟨sint 8 x, -6⟩
  rw [Val.num_fin, ← this, Dy.num, sint_eq_sgn (by decide), sgn]
  norm_num
  ring

theorem scaled_mul_int8 {mx : Bool} {x y : Nat} (a b : Nat) (hx : mx = true → x ≠ 255) (hy : mx = true → y ≠ 255) :
    ((scaled mx (elemVal 7 a) x).mul (scaled mx (elemVal 7 b) y)).isFin = true
      ∧ ((scaled mx (elemVal 7 a) x).mul (scaled mx (elemVal 7 b) y)).num
        = ((BitVec.ofNat 8 a).toInt / 64) * ((BitVec.ofNat 8 b).toInt / 64) * if mx then 2 ^ ((x : ℤ) + y - 254) else 1 := by
  obtain ⟨n, m, va, na⟩ := num_elemVal_int8 a
  obtain ⟨n', m', vb, nb⟩ := num_elemVal_int8 b
  rw [va, vb, ← na, ← nb]
  exact scaled_num_mul n n' m m' (-6) (-6) hx hy

/-! ### Elements -/

section
variable (e : CEnt) (g : Map Line) (gs : List Nat) (i j : Nat)

/-- The positions of K that count under the matching groups (R79). -/
def CEnt.counts (e : CEnt) (gs : List Nat) (k : Nat) : Bool := e.var ≠ 1 || gs.contains (k % 32 / 4)

theorem map_zero_add_range (n : Nat) : (List.range n).map (0 + ·) = List.range n := by simp

theorem CEnt.kGroups_twice (ht : e.aty = 4 ∨ e.aty = 5 ∨ e.aty = 6) (hm : e.mode ≠ 2) :
    e.kGroups gs = [((List.range 32).map (0 + ·)).filter (e.counts gs), ((List.range 32).map (32 + ·)).filter (e.counts gs)] := by
  have narrow : (isNarrow e.aty && !e.quarter) = true := by
    rcases ht with h | h | h <;> simp [isNarrow, CEnt.quarter, h, hm]
  rw [CEnt.kGroups, if_pos narrow, map_zero_add_range]
  rfl

theorem CEnt.kGroups_once (h : ¬((e.aty = 4 ∨ e.aty = 5 ∨ e.aty = 6) ∧ e.mode ≠ 2)) :
    e.kGroups gs = [((List.range e.k).map (0 + ·)).filter (e.counts gs)] := by
  have narrow : ¬(isNarrow e.aty && !e.quarter) = true := by
    intro hn
    simp [isNarrow, CEnt.quarter] at hn
    exact h ⟨by omega, hn.2⟩
  rw [CEnt.kGroups, if_neg narrow, map_zero_add_range]
  rfl

theorem CEnt.element_pair (h : e.mode = 1) : e.element g gs i j = (((e.kGroups gs).foldl (fun acc kk => some (pairRule (kk.map (e.product g i j)) acc))
    (if e.acc then some (e.accAt g 0 i j, e.accAt g 2 i j) else none))).getD (0, 0) := by
  rw [CEnt.element, CEnt.pair, if_pos (decide_eq_true h)]

theorem CEnt.element_float (h : e.mode ≠ 1) (hi : e.int32 = false) :
    (e.element g gs i j).1 = (((e.kGroups gs).foldl (fun acc kk => some (groupRule (kk.map (e.product g i j)) acc))
      (if e.acc then some (e.accAt g 0 i j) else none))).getD 0 := by
  rw [CEnt.element, CEnt.pair, if_neg (by simpa using h), hi]
  rfl

theorem toInt_sat32 (x : ℤ) : (BitVec.ofNat 32 (sat32 x)).toInt = max (-(2 ^ 31)) (min (2 ^ 31 - 1) x) := by
  have clamp : (if x < -(2 ^ 31 : Int) then -(2 ^ 31) else if (2 ^ 31 : Int) - 1 < x then 2 ^ 31 - 1 else x)
      = max (-(2 ^ 31)) (min (2 ^ 31 - 1) x) := by
    split_ifs <;> omega
  rw [sat32, clamp, ofSint_eq_bitsOf, bitsOf, BitVec.ofNat_toNat, BitVec.setWidth_eq, BitVec.toInt_ofInt, Int.bmod]
  split <;> omega

theorem sint_ofSint_sint (x : Nat) : sint 32 (ofSint 32 (sint 32 x)) = sint 32 x := by
  rw [sint_eq_sgn (by decide), sint_eq_sgn (by decide), ofSint_eq_bitsOf, bitsOf, sgn, BitVec.ofNat_toNat, BitVec.setWidth_eq, sgn,
    BitVec.ofInt_toInt]

theorem foldl_add_eq_sum (ks : List Nat) (h : Nat → ℤ) (a : ℤ) : ks.foldl (fun t k => t + h k) a = a + (ks.map h).sum := by
  induction ks generalizing a with
  | nil => simp
  | cons k ks ih => rw [List.foldl_cons, ih, List.map_cons, List.sum_cons, add_assoc]

theorem CEnt.element_int (h : e.mode ≠ 1) (hi : e.int32 = true) (h7 : e.aty = 7) :
    (BitVec.ofNat 32 (e.element g gs i j).1).toInt = max (-(2 ^ 31)) (min (2 ^ 31 - 1)
      ((if e.acc then (BitVec.ofNat 32 (e.accAt g 0 i j)).toInt else 0) + (((List.range e.k).filter (e.counts gs)).map (fun k =>
        (BitVec.ofNat 8 (e.aCode g i k)).toInt * (BitVec.ofNat 8 (e.bCode g k j)).toInt)).sum)) := by
  have once : e.kGroups gs = [((List.range e.k).map (0 + ·)).filter (e.counts gs)] := e.kGroups_once gs (by simp [h7])
  have start : sint 32 (ofSint 32 (if e.acc then sint 32 (e.accAt g 0 i j) else 0)) = if e.acc then (BitVec.ofNat 32 (e.accAt g 0 i j)).toInt else 0 := by
    cases e.acc with
    | false => exact sint_ofSint_sint 0
    | true => exact (sint_ofSint_sint _).trans (sint_eq_sgn (by decide) _)
  rw [CEnt.element, CEnt.pair, if_neg (by simpa using h), if_pos hi, once, map_zero_add_range]
  dsimp only
  rw [List.foldl_cons, List.foldl_nil, toInt_sat32, start, foldl_add_eq_sum]
  simp only [sint_eq_sgn (n := 8) (by decide), sgn]

end

end Sys2Proof.Machine
end

section
/-! SUPPORT. The columns that a result row writes (R57, R76, R80, R87). -/

namespace Sys2Proof.Machine

/-! ### Tile rows -/

theorem rowKey_injective : Function.Injective rowKey := by
  intro a b h
  rw [rowKey, rowKey] at h
  have bank : 2 * (a / 32) + a % 2 = 2 * (b / 32) + b % 2 := by omega
  have line : a % 32 / 2 = b % 32 / 2 := by omega
  omega

theorem Core.tileRow_setTileRow_same (k : Core) (r : Nat) (v : Line) : (k.setTileRow r v).tileRow r = v :=
  mget_mset_same lineDef k.lines (rowKey r) v

theorem Core.tileRow_setTileRow_ne (k : Core) {r r' : Nat} (v : Line) (h : r' ≠ r) : (k.setTileRow r v).tileRow r' = k.tileRow r' :=
  mget_mset_ne lineDef k.lines (rowKey r) (rowKey r') v fun he => h (rowKey_injective he)

/-- Rows of registers are changed one after the other. -/
def Core.changeRows (k : Core) (row : Nat → Nat) (change : Nat → Line → Line) (xs : List Nat) : Core :=
  xs.foldl (fun t x => t.setTileRow (row x) (change x (t.tileRow (row x)))) k

section
variable (row : Nat → Nat) (change : Nat → Line → Line)

theorem Core.tileRow_changeRows_of_not_mem (k : Core) {xs : List Nat} {y : Nat} (h : y ∉ xs.map row) :
    (k.changeRows row change xs).tileRow y = k.tileRow y := by
  induction xs generalizing k with
  | nil => rfl
  | cons x xs ih =>
    rw [List.map_cons, List.mem_cons, not_or] at h
    exact (ih _ h.2).trans (k.tileRow_setTileRow_ne _ h.1)

/-- Each row is changed once, from what it held at first. -/
theorem Core.tileRow_changeRows_of_mem (k : Core) {xs : List Nat} (nodup : (xs.map row).Nodup) {x : Nat} (hx : x ∈ xs) :
    (k.changeRows row change xs).tileRow (row x) = change x (k.tileRow (row x)) := by
  induction xs generalizing k with
  | nil => exact absurd hx List.not_mem_nil
  | cons y ys ih =>
    obtain ⟨fresh, nodup⟩ := List.nodup_cons.1 nodup
    change ((k.setTileRow (row y) (change y (k.tileRow (row y)))).changeRows row change ys).tileRow (row x) = _
    rcases List.mem_cons.1 hx with rfl | hx
    · rw [Core.tileRow_changeRows_of_not_mem row change _ fresh, Core.tileRow_setTileRow_same]
    · have apart : row x ≠ row y := fun he => fresh (he ▸ List.mem_map_of_mem hx)
      rw [ih _ nodup hx, Core.tileRow_setTileRow_ne _ _ apart]

end

/-! ### Columns -/

theorem toNat_ofNat_of_lt {w n : Nat} (h : n < 2 ^ w) : (BitVec.ofNat w n).toNat = n := by rw [BitVec.toNat_ofNat, Nat.mod_eq_of_lt h]

/-- An element of a merged row. -/
theorem unpackAt_mergeCols (old : Line) (h : Nat) (written : Nat → Bool) (f : Nat → Nat) {j : Nat} (hj : j < 16) :
    unpackAt 32 j (mergeCols old h written f).toNat = if written (16 * h + j) then f (16 * h + j) % 2 ^ 32 else unpackAt 32 j old.toNat := by
  have lt := packAll_lt 32 ((List.range 16).map fun q => if written (16 * h + q) then f (16 * h + q) else unpackAt 32 q old.toNat)
  rw [List.length_map, List.length_range, show 32 * 16 = 512 from rfl] at lt
  rw [mergeCols, toNat_ofNat_of_lt lt, unpackAt_packAll (by decide), List.getD_eq_getElem _ _ (by simpa using hj), List.getElem_map,
    List.getElem_range]
  split
  · rfl
  · rw [unpackAt_eq (by decide), Nat.mod_mod]

/-- A result row changes the accumulator rows that the command writes. -/
theorem Core.writeRow_eq (q : Core) (e : CEnt) (g : Map Line) (i : Nat) {gs : List Nat}
    (h : e.var = 0 ∧ gs = [0] ∨ e.var ≠ 0 ∧ e.groups g i = some gs ∧ gs ≠ []) :
    q.writeRow e g i = q.changeRows (fun x => e.c.getD x 0 + i) (fun x old =>
      mergeCols old (x % 2) (fun j => j < e.n && (e.var ≠ 2 || gs.contains (j / 4))) fun j =>
        if 2 ≤ x then (e.element g gs i j).2 else (e.element g gs i j).1) e.accRegs := by
  have found : (if e.var = 0 then some [0] else e.groups g i) = some gs ∧ gs ≠ [] := by
    rcases h with ⟨hv, rfl⟩ | ⟨hv, hg, hne⟩
    · exact ⟨if_pos hv, by simp⟩
    · exact ⟨(if_neg hv).trans hg, hne⟩
  obtain ⟨hg, hne⟩ := found
  rw [Core.writeRow, hg]
  obtain ⟨y, ys, rfl⟩ := List.exists_cons_of_ne_nil hne
  rfl

end Sys2Proof.Machine
end

section
/-! O18: the arithmetic of the canvas. -/

namespace Sys2Proof.Machine

/-- Settles O18: the special cases of the sums, exact sums of cut terms rounded once, products by the kinds of their operands, elements
from their groups, and rows that are each changed once. -/
theorem canvasSumsAreExact : Obligations.CanvasSumsAreExact := by
  unfold Obligations.CanvasSumsAreExact
  refine ⟨?group, ?pair, ?element, ?row⟩
  case group =>
    intro ps acc ts r
    have hr : r = groupSum ts := groupRule_eq ps acc
    rw [hr]
    exact ⟨fun h => groupSum_special (specialSum_nan h), fun h hp hn => groupSum_special (specialSum_both h hp hn),
      fun h hp hn => groupSum_special (specialSum_pos h hp hn), fun h hp hn => groupSum_special (specialSum_neg h hp hn),
      fun fin => ⟨groupSum_zero fin, fun E lead => groupSum_lead fin lead⟩⟩
  case pair =>
    intro ps acc as ts r
    have hr : r = pairSum ps as := pairRule_eq ps acc
    rw [hr]
    exact ⟨fun h => pairSum_special (specialSum_nan h), fun h hp hn => pairSum_special (specialSum_both h hp hn),
      fun h hp hn => pairSum_special (specialSum_pos h hp hn), fun h hp hn => pairSum_special (specialSum_neg h hp hn),
      fun fin P cut => pairSum_finite fin cut⟩
  case element =>
    intro e g gs i j k a b sa sb w whole
    rw [e.product_eq g i j k]
    refine ⟨?scaleNan, fun f h hf hh => ?formats, fun ha hb hw => ?int8, ?sums⟩
    case scaleNan =>
      intro hmx hs
      rw [hmx]
      rcases hs with hs | hs
      · rw [show e.aScaleOf g i k = 255 from hs]
        exact Val.mul_nan_left _
      · rw [show e.bScaleOf g k j = 255 from hs]
        exact Val.mul_nan_right _
    case formats =>
      obtain ⟨wf, va⟩ := tileFormats_spec hf
      obtain ⟨wh, vb⟩ := tileFormats_spec hh
      rw [va, vb]
      have sides (hw : whole) : (isMx e.aty = true → e.aScaleOf g i k ≠ 255) ∧ (isMx e.aty = true → e.bScaleOf g k j ≠ 255) :=
        ⟨fun h => (hw h).1, fun h => (hw h).2⟩
      exact ⟨fun h => scaled_mul_nan h, fun hw => scaled_mul_finite wf wh (sides hw).1 (sides hw).2,
        fun hw => scaled_mul_inf_left wh (sides hw).1 (sides hw).2, fun hw => scaled_mul_inf_right wf (sides hw).1 (sides hw).2,
        fun hw => scaled_mul_inf_inf (sides hw).1 (sides hw).2⟩
    case int8 =>
      rw [congrArg elemVal ha, congrArg elemVal hb]
      exact scaled_mul_int8 _ _ (fun h => (hw h).1) fun h => (hw h).2
    case sums =>
      intro use terms plain pair twice
      have once (h : ¬twice) := e.kGroups_once gs h
      have both (h : twice) := e.kGroups_twice gs h.1 h.2
      refine ⟨fun hm hi => ⟨fun h => ?_, fun h => ?_⟩, fun hm => ⟨fun h => ?_, fun h => ?_⟩, fun hm hi h7 => e.element_int g gs i j hm hi h7⟩
      · rw [e.element_float g gs i j hm hi, both h]
        rfl
      · rw [e.element_float g gs i j hm hi, once h]
        rfl
      · rw [e.element_pair g gs i j hm, both h]
        rfl
      · rw [e.element_pair g gs i j hm, once h]
        rfl
  case row =>
    intro q e g i gs row h nodup t
    have ht := q.writeRow_eq e g i h
    refine ⟨fun y hy => ?_, fun x hx j hj => ?_⟩
    · exact (congrArg (·.tileRow y) ht).trans (Core.tileRow_changeRows_of_not_mem row _ q hy)
    · have := (congrArg (·.tileRow (row x)) ht).trans (Core.tileRow_changeRows_of_mem row _ q nodup hx)
      intro col v
      rw [this, unpackAt_mergeCols _ _ _ _ hj]
      refine if_congr ?_ rfl rfl
      simp only [Bool.and_eq_true, Bool.or_eq_true, decide_eq_true_iff, List.contains_iff_mem, col]

end Sys2Proof.Machine
end

section
/-! SUPPORT. Results that take effect for one core leave the other cores and the beats of every domain alone; and a change made to each
of several cores. -/

namespace Sys2Proof.Machine

/-! ### What the results of one core leave alone -/

/-- From `s` to `t` no core but `c` has changed, and no timing domain. -/
structure State.KeepsOthers (c : Nat) (s t : State) : Prop where
  core : ∀ j, j ≠ c → t.core j = s.core j
  domains : t.domains = s.domains

namespace State.KeepsOthers

variable {c : Nat} {s t u : State}

theorem refl (c : Nat) (s : State) : s.KeepsOthers c s := ⟨fun _ _ => rfl, rfl⟩

theorem trans (h : s.KeepsOthers c t) (h' : t.KeepsOthers c u) : s.KeepsOthers c u :=
  ⟨fun j hj => (h'.core j hj).trans (h.core j hj), h'.domains.trans h.domains⟩

theorem beat (h : s.KeepsOthers c t) (d : Nat) : t.beat d = s.beat d := by
  unfold State.beat State.domain
  rw [h.domains]

theorem setCore (c : Nat) (s : State) (k : Core) : s.KeepsOthers c (s.setCore c k) := ⟨s.setCore_core_ne c k, rfl⟩

theorem setCluster (c : Nat) (s : State) (q : Nat) (v : Cluster) : s.KeepsOthers c (s.setCluster q v) := ⟨fun _ _ => rfl, rfl⟩

theorem foldl {α : Type} {f : State → α → State} (hf : ∀ (s : State) (x : α), s.KeepsOthers c (f s x)) (xs : List α) (s : State) :
    s.KeepsOthers c (xs.foldl f s) := by
  induction xs generalizing s with
  | nil => exact refl c s
  | cons x xs ih => exact (hf s x).trans (ih _)

/-- A write of a system register changes its core or its core's cluster. -/
theorem sysWrite (c : Nat) (s : State) (sr : Nat) (v clr : Word) (lvl at_ : Nat) :
    s.KeepsOthers c (s.sysWrite c sr v clr lvl at_) := by
  unfold State.sysWrite
  dsimp only
  split
  case h_8 | h_9 | h_10 | h_11 | h_12 | h_13 | h_14 | h_15 | h_16 | h_17 => exact setCluster c s _ _
  case h_35 => exact refl c s
  all_goals exact setCore c s _

theorem land1 (c : Nat) (s : State) (p : Pend) : s.KeepsOthers c (s.land1 c p) := by
  unfold State.land1
  cases p.dst with
  | sreg r => exact setCore c s _
  | sys sr clr lvl =>
    dsimp only
    split
    · exact setCore c s _
    · exact sysWrite c s _ _ _ _ _
  | fflags => exact setCore c s _

theorem landIf (c : Nat) (s : State) (which : Pend → Bool) : s.KeepsOthers c (s.landIf c which) :=
  (setCore c s _).trans (foldl (land1 c) _ _)

theorem settled (c : Nat) (s : State) : s.KeepsOthers c (s.settled c) := landIf c s _

end State.KeepsOthers

/-- The beat of a domain whose time has moved forward. -/
theorem State.toBeat_beat (s : State) (d b : Nat) : (s.toBeat d b).beat d = Nat.max (s.beat d) b := by
  simp [State.toBeat, State.beat]

/-! ### A change made to each of several cores -/

theorem State.foldl_modCore_cluster (f : Nat → Core → Core) (cs : List Nat) (s : State) (q : Nat) :
    (cs.foldl (fun t c => t.modCore c (f c)) s).cluster q = s.cluster q := by
  induction cs generalizing s with
  | nil => rfl
  | cons c cs ih => exact ih _

theorem State.foldl_modCore_core (f : Nat → Core → Core) {cs : List Nat} (hcs : cs.Nodup) (s : State) (j : Nat) :
    (cs.foldl (fun t c => t.modCore c (f c)) s).core j = if j ∈ cs then f j (s.core j) else s.core j := by
  induction cs generalizing s with
  | nil => rfl
  | cons c cs ih =>
    obtain ⟨hc, hcs⟩ := List.nodup_cons.1 hcs
    rw [List.foldl_cons, ih hcs, State.modCore_eq, State.setCore_core]
    by_cases hj : j = c
    · subst hj
      simp [hc]
    · simp [hj]

theorem nodup_coresOf (q : Nat) : (coresOf q).Nodup :=
  List.nodup_range.map fun i j (h : 16 * q + i = 16 * q + j) => by omega

end Sys2Proof.Machine
end

section
/-! O17: the canvas commands, TFENCE, the run of a canvas slot and the commit of slot maps. -/

namespace Sys2Proof.Machine

/-! ### What a canvas command does at its issue (R59 to R62, R83) -/

/-- Each of the three canvas commands issues with the one body that they share. -/
theorem exec_of_canvasRule {i : Instr} {c : CoreId} {kind tc ta tb var m n : Nat} {acc : Bool}
    (h : canvasRule i = some (c, kind, tc, ta, tb, acc, var, m, n)) :
    isTransfer i = false ∧ isControl i = false ∧ ∃ (tc' ta' tb' : BitVec 3) (var' : BitVec 2) (mm1 nm1 : Reg),
      (tc, ta, tb, var, m, n) = (tc'.toNat, ta'.toNat, tb'.toNat, var'.toNat, mm1.toNat + 1, nm1.toNat + 1)
        ∧ ∀ s, exec i s = issueOut s c i (canvasBody c kind tc' ta' tb' acc var' mm1 nm1) := by
  cases i <;> cases h <;> exact ⟨rfl, rfl, _, _, _, _, _, _, rfl, fun _ => rfl⟩

section
variable {c : CoreId} {kind : Nat} {tc ta tb : BitVec 3} {acc : Bool} {var : BitVec 2} {mm1 nm1 : Reg} {s : State} {b : Nat}

/-- No queue place is free (R59). -/
theorem canvasBody_of_full (hq : 4 ≤ (s.core c).cq.length) :
    canvasBody c kind tc ta tb acc var mm1 nm1 s b = .freeze .canvasFull := by
  rw [canvasBody, if_pos hq]

/-- An operand is refused (R83). -/
theorem canvasBody_of_refused (hq : (s.core c).cq.length < 4)
    (ho : operandsOk (s.core c).tcfg kind tc.toNat ta.toNat tb.toNat (mm1.toNat + 1) (nm1.toNat + 1) var.toNat = false) :
    canvasBody c kind tc ta tb acc var mm1 nm1 s b = .raise causeTileOperand 0 := by
  simp only [canvasBody, if_neg (Nat.not_le.2 hq), ho, Bool.not_false, if_true]

/-- With a queue place and accepted operands the command takes the slot that the committed maps give it (R60). -/
theorem canvasBody_of_accepted (hq : (s.core c).cq.length < 4)
    (ho : operandsOk (s.core c).tcfg kind tc.toNat ta.toNat tb.toNat (mm1.toNat + 1) (nm1.toNat + 1) var.toNat = true)
    {bound : Option (Nat × Nat × Nat)}
    (hb : bindSlot (s.cluster (c.val / 16)).maps (s.cluster (c.val / 16)).mapsFrom (c.val % 16) (kind = 2)
      (isWide (tregOf (s.core c).tcfg ta.toNat).ty) ((s.core c).firstSlot kind b) = bound) :
    canvasBody c kind tc ta tb acc var mm1 nm1 s b = bound.elim (.raise causeNoSlot 0) fun (start, slot, qtr) =>
      .done (s.setCore c { s.core c with cq := (s.core c).cq ++ [{
        entry := centPack (entryFor (s.core c).tcfg kind tc.toNat ta.toNat tb.toNat (mm1.toNat + 1) (nm1.toNat + 1) var.toNat acc
          (c.val % 16) slot qtr)
        start := start, done := b, got := [] }] }) .seq := by
  rw [Core.firstSlot] at hb
  simp only [canvasBody, if_neg (Nat.not_le.2 hq), ho, Bool.not_true, Bool.false_eq_true, if_false, clusterOf, hb]
  cases bound <;> rfl

end

/-- An instruction that raises at its issue and is no transfer. -/
theorem State.finish_raise {s u : State} {c : Nat} {b : Nat} {i : Instr} {code : Nat} {fv : Word} (ht : isTransfer i = false) :
    s.finish c b i (.raise code fv) u = s.modCore c (fun k => k.recognised b code fv) := by
  unfold State.finish
  exact State.modCore_congr s c _ _ fun k => by rw [Core.clearValid_raise_eq_recognised, ht, if_neg Bool.false_ne_true]

/-! ### TFENCE -/

/-- TFENCE issues: its core is past it, and frozen while a write of an earlier command is still to come (TFENCE page). -/
theorem exec_tfence {s : State} {c : CoreId} (h : s.issues c (.tfence c) = true) :
    exec (.tfence c) s = .next ((s.atIssue c).modCore c (fun k =>
      match k.lastWrite with
      | some w => if s.issueBeat c < w then (k.frozenAt .tfence (s.issueBeat c + 1)).past (s.issueBeat c) else k.past (s.issueBeat c)
      | none => k.past (s.issueBeat c))) := by
  change issueOut s c _ _ = _
  rw [issueOut, State.issue_of_issues _ h]
  cases hw : ((s.atIssue c).core c).lastWrite with
  | none => simp only [State.finish_seq (i := .tfence c) rfl rfl, State.modCore_eq, hw]
  | some w =>
    simp only [State.finish_seq (i := .tfence c) rfl rfl, State.modCore_eq, hw]
    split
    · simp only [State.setCore_core_same, State.setCore_setCore]
      rfl
    · rfl

/-! ### The commit of slot maps (R66, R70, R71) -/

section
variable {s : State} {q : ClusterId} {f0 f : Nat} {m0 m : Maps}

/-- The request of a cluster once the one for boundary `f` and maps `m` is carried out: a later one still stands (R6, R70). -/
def laterCommit (f : Nat) (m : Maps) (cl : Cluster) : Option (Nat × Maps) := if cl.commit = some (f, m) then none else cl.commit

/-- Accepted maps come into force, and the queues of the cluster's cores are bound again. -/
theorem exec_mapCommitApply_accepted (h0 : (s.cluster q).commit = some (f0, m0))
    (h1 : ((s.clusterTo q (f0 - 1)).cluster q).commit = some (f, m)) (hm : m.ok = true) :
    let s1 := (s.clusterTo q (f0 - 1)).clusterTo q f
    exec (.mapCommitApply q) s = .next ((coresOf q).foldl (fun t c => t.modCore c (fun k => k.recommit m f (c % 16)))
      (s1.setCluster q { s1.cluster q with commit := laterCommit f m (s1.cluster q), maps := m, mapsFrom := some f })) := by
  change execMapCommitApply q s = _
  simp only [execMapCommitApply, h0, h1, hm, if_true]
  rfl

/-- Refused maps only set MAPERR. -/
theorem exec_mapCommitApply_refused (h0 : (s.cluster q).commit = some (f0, m0))
    (h1 : ((s.clusterTo q (f0 - 1)).cluster q).commit = some (f, m)) (hm : m.ok = false) :
    let s1 := (s.clusterTo q (f0 - 1)).clusterTo q f
    exec (.mapCommitApply q) s =
      .next (s1.setCluster q { s1.cluster q with commit := laterCommit f m (s1.cluster q), maperr := true }) := by
  change execMapCommitApply q s = _
  simp only [execMapCommitApply, h0, h1, hm, Bool.false_eq_true, if_false]
  rfl

end

/-! ### The run of a slot (R54, R55, R59) -/

/-- The core's results and palette accesses are made up to the end of slot beat 0 of the command at the head of its queue. -/
theorem exec_canvasSlotRun {s : State} {c : CoreId} {h : CCmd} {rest : List CCmd} (hq : (s.core c).cq = h :: rest) :
    exec (.canvasSlotRun c) s = .next (((s.toBeat (coreDomain c) (h.start + 1)).settled c).modCore c (fun k =>
      k.paletteTo (Nat.max (s.beat (coreDomain c)) (h.start + 1)))) := by
  change execCanvasSlotRun c s = _
  rw [execCanvasSlotRun, hq]

/-! ### The statement -/

/-- Settles O17: each clause on commands is one branch of the body that the three canvas commands share; a slot runs, and a commit is
requested or carried out, on the state in which the results due before it have taken effect. -/
theorem canvasCommandsAndEventsComplete : Obligations.CanvasCommandsAndEventsComplete := by
  unfold Obligations.CanvasCommandsAndEventsComplete
  refine ⟨fun s i c kind tc ta tb var m n acc hr hi => ?command, fun s c q => ⟨exec_tfence, fun h rest hq => ?run, ?request,
    fun f0 m0 f m h0 h1 => ?apply⟩⟩
  case command =>
    intro k cl b bound at_
    obtain ⟨ht, hc, tc, ta, tb, var, mm1, nm1, fields, hexec⟩ := exec_of_canvasRule hr
    cases fields
    have issued : exec i s = .next ((s.atIssue c).finish c b i (canvasBody c kind tc ta tb acc var mm1 nm1 (s.atIssue c) b)
        (s.atFreeze c)) := by
      rw [hexec, issueOut, State.issue_of_issues _ hi]
    refine ⟨fun hq ho start slot qtr hb => ?bound, fun hq => ?full, fun hq ho => ?refused, fun hq ho hb => ?noSlot⟩
    case bound =>
      rw [issued, canvasBody_of_accepted hq ho hb, Option.elim_some, State.finish_seq ht hc]
      simp only [at_, State.modCore_eq, State.setCore_core_same, State.setCore_setCore]

    case full =>
      rw [issued, canvasBody_of_full hq]
      rfl
    case refused =>
      rw [issued, canvasBody_of_refused hq ho, State.finish_raise ht]
      rfl
    case noSlot =>
      rw [issued, canvasBody_of_accepted hq ho hb, Option.elim_none, State.finish_raise ht]
      rfl
  case run =>
    intro e
    have settled := State.KeepsOthers.settled c (s.toBeat (coreDomain c) (h.start + 1))
    have ran := settled.trans (.setCore c _ ((((s.toBeat (coreDomain c) (h.start + 1)).settled c).core c).paletteTo e))
    exact ⟨_, exec_canvasSlotRun hq, State.setCore_core_same _ _ _, (ran.beat _).trans (s.toBeat_beat _ _), ran.core⟩
  case request => exact ⟨_, rfl, State.setCluster_cluster_same _ _ _, State.setCluster_cluster_ne _ _ _⟩
  case apply =>
    intro s1 cl later
    cases hm : m.ok with
    | true =>
      refine ⟨_, exec_mapCommitApply_accepted h0 h1 hm, fun _ => ⟨?_, fun j hj => ?_⟩, fun h => absurd h (by decide)⟩
      · rw [State.foldl_modCore_cluster (fun c k => k.recommit m f (c % 16)), State.setCluster_cluster_same]
        rfl
      · rw [State.foldl_modCore_core (fun c k => k.recommit m f (c % 16)) (nodup_coresOf q), if_pos hj, State.setCluster_core_frame]
    | false =>
      exact ⟨_, exec_mapCommitApply_refused h0 h1 hm, fun h => absurd h (by decide),
        fun _ => ⟨State.setCluster_cluster_same _ _ _, fun _ _ => State.setCluster_core_frame _ _ _ _⟩⟩

end Sys2Proof.Machine
end

section
/-! SUPPORT. What the body of a core's instruction comes to: an exception at a later beat, a completion in sequence with the core given,
and the beat at which a tile instruction begins. -/

namespace Sys2Proof.Machine

theorem issueOut_of_issues {s : State} {c : CoreId} {i : Instr} (body : State → Nat → Res) (h : s.issues c i = true) :
    issueOut s c i body =
      .next ((s.atIssue c).finish c (s.issueBeat c) i (body (s.atIssue c) (s.issueBeat c)) (s.atFreeze c)) :=
  congrArg _ (State.issue_of_issues body h)

/-- An instruction that raises at a beat of its own, with its core as given. -/
theorem State.finish_raiseAt (s t u : State) (c b x : Nat) (i : Instr) (k : Core) (code : Nat) (fv : Word) :
    s.finish c b i (.raiseAt (t.setCore c k) x code fv) u = t.setCore c
      (if isTransfer i then { k.recognised x code fv with tprog := k.tprog } else k.recognised x code fv) := by
  rw [State.finish, State.modCore_eq, State.setCore_core_same, State.setCore_setCore, Core.clearValid_raise_eq_recognised]

/-- An instruction that completes in sequence, with its core as given. -/
theorem State.finish_seq_setCore (s t u : State) (c b : Nat) {i : Instr} (k : Core) (ht : isTransfer i = false) (hc : isControl i = false) :
    s.finish c b i (.done (t.setCore c k) .seq) u = t.setCore c (k.past b) := by
  rw [State.finish_seq ht hc, State.modCore_eq, State.setCore_core_same, State.setCore_setCore]

/-- A tile instruction begins no earlier than it issues (R89). -/
theorem Core.le_begins (k : Core) (b : Nat) : b ≤ k.begins b := by
  unfold Core.begins
  split
  · exact le_rfl
  · exact Nat.le_max_left _ _

end Sys2Proof.Machine
end

section
/-! O20: how a tile transfer begins, is refused, or is already complete. -/

namespace Sys2Proof.Machine

/-- TLD and TST issue with the one body that they share. -/
theorem exec_of_transfer {i : Instr} {c : CoreId} {load : Bool} {tn : BitVec 3} {rs1 rs2 : Reg} {rsel : BitVec 2} {ca : Bool}
    (h : i = .tld c tn rs1 rs2 rsel ca ∧ load = true ∨ i = .tst c tn rs1 rs2 rsel ca ∧ load = false) :
    isTransfer i = true ∧ ∀ s, exec i s = issueOut s c i (xferBody c load tn rs1 rs2 rsel ca) := by
  rcases h with ⟨rfl, rfl⟩ | ⟨rfl, rfl⟩ <;> exact ⟨rfl, fun _ => rfl⟩

/-- Settles O20: each clause is one branch of the body that TLD and TST share. -/
theorem tileTransfersBegin : Obligations.TileTransfersBegin := by
  unfold Obligations.TileTransfersBegin
  intro s c i load tn rs1 rs2 rsel ca hi k b t0 r bad rows resumed j0 q h
  obtain ⟨ht, hexec⟩ := exec_of_transfer hi
  rw [hexec, issueOut_of_issues _ h]
  refine ⟨fun refused => ?refused, fun accepted noRow => ?noRow, fun accepted rowLeft => ?rowLeft⟩
  case refused =>
    have body : xferBody c load tn rs1 rs2 rsel ca (s.atIssue c) b = .raiseAt ((s.atIssue c).setCore c q) t0 0x0A 0 := if_pos refused
    rw [body, State.finish_raiseAt, ht]
    rfl
  case noRow =>
    have body : xferBody c load tn rs1 rs2 rsel ca (s.atIssue c) b = .begun ((s.atIssue c).setCore c (q.endXfer (t0 + 1))) :=
      (if_neg (ne_true_of_eq_false accepted)).trans (if_pos noRow)
    rw [body]
    rfl
  case rowLeft =>
    intro x
    have body : xferBody c load tn rs1 rs2 rsel ca (s.atIssue c) b =
        .begun (((s.atIssue c).setCore c { q with xfer := some x }).xferTo c (b + 1) 2) :=
      (if_neg (ne_true_of_eq_false accepted)).trans (if_neg (Nat.not_le.2 rowLeft))
    rw [body]
    rfl

end Sys2Proof.Machine
end

section
/-! O21: a row of a tile load that is written, and a row of a tile store that the store path takes. -/

namespace Sys2Proof.Machine

/-! ### A transfer that has asked for all its rows -/

section
variable {s : State} {c : Nat} {x : Xfer} (noFault : x.fault = none) (asked : x.rows ≤ x.next)
include asked

theorem State.rowFails_of_asked : s.rowFails c x = false := by
  have none : decide (x.next < x.rows) = false := decide_eq_false (Nat.not_lt.2 asked)
  rw [State.rowFails, none, Bool.and_false, Bool.false_and]

theorem State.rowDue_of_asked : s.rowDue c x = none := by
  rw [State.rowDue, State.rowFails_of_asked asked, if_neg Bool.false_ne_true, Core.rowAt, decide_eq_true asked, Bool.or_true, if_pos rfl]

include noFault

theorem State.rowHorizon_of_asked (hl : x.load = true) {w : Nat} (hw : x.writeAt = some w) : s.rowHorizon c x = some (w + 1) := by
  rw [State.rowHorizon, State.faultDue, State.rowFails_of_asked asked, Xfer.faultAt, noFault, hl, if_pos rfl, hw]
  rfl

/-- Only the write of its next row is left for it to do. -/
theorem State.rowAct_of_asked (hl : x.load = true) : s.rowAct c x = x.writeAt.map .write := by
  rw [State.rowAct, State.rowDue_of_asked asked, Xfer.faultAt, noFault, hl, if_pos rfl]
  cases x.writeAt <;> rfl

end

/-! ### The acts of a transfer -/

theorem State.xferTo_of_write {s : State} {c b w n : Nat} {x : Xfer} (hx : (s.core c).xfer = some x)
    (ha : s.rowAct c x = some (.write w)) (hw : w < b) :
    s.xferTo c b (n + 1) = ((s.toBeat (coreDomain c) w).modCore c (fun k => k.rowWrite x w)).xferTo c b n := by
  simp only [State.xferTo, hx, ha]
  exact if_pos hw

theorem State.xferTo_of_idle {s : State} {c : Nat} {x : Xfer} (b n : Nat) (hx : (s.core c).xfer = some x)
    (ha : s.rowAct c x = none) : s.xferTo c b n = s := by
  cases n with
  | zero => rfl
  | succ n => simp only [State.xferTo, hx, ha]

/-- The only row that has arrived is written; more rows are to come. -/
theorem Core.rowWrite_of_arrived (k : Core) {x : Xfer} {h : Nat} {row : Line} (w : Nat) (arrived : x.got = [(x.moved, h, row)])
    (more : x.moved + 1 < x.rows) :
    k.rowWrite x w = { (k.canvasTo w).setTileRow (x.first + x.moved) row with
      xfer := some { x with moved := x.moved + 1, w := w + 2, got := [] } } := by
  simp [Core.rowWrite, arrived, more.ne]

/-- TILE_ROW_ARRIVAL writes the row that has arrived, and no other act of the transfer follows it. -/
theorem exec_tileRowArrival {s : State} {c : CoreId} {x : Xfer} {h : Nat} {row : Line} (hx : (s.core c).xfer = some x)
    (hrun : s.running c = true) (noFault : x.fault = none) (more : x.moved + 1 < x.rows) (hl : x.load = true) (asked : x.rows ≤ x.next)
    (arrived : x.got = [(x.moved, h, row)]) :
    exec (.tileRowArrival c) s = .next ((s.toBeat (coreDomain c) (oddFrom (Nat.max h x.w))).modCore c (fun k =>
      k.rowWrite x (oddFrom (Nat.max h x.w)))) := by
  have hw : x.writeAt = some (oddFrom (Nat.max h x.w)) := by simp [Xfer.writeAt, arrived]
  have act : s.rowAct c x = some (.write (oddFrom (Nat.max h x.w))) := by rw [State.rowAct_of_asked noFault asked hl, hw]; rfl
  change execTileRowArrival c s = _
  simp only [execTileRowArrival, hx, hl, State.rowHorizon_of_asked noFault asked hl hw, hrun, if_true]
  rw [show xferActs = 79 + 1 from rfl, State.xferTo_of_write hx act (Nat.lt_succ_self _)]
  refine congrArg _ (State.xferTo_of_idle (x := { x with moved := x.moved + 1, w := oddFrom (Nat.max h x.w) + 2, got := [] }) _ _ ?_ ?_)
  · rw [State.modCore_eq, State.setCore_core_same, Core.rowWrite_of_arrived _ _ arrived more]
  · exact State.rowAct_of_asked noFault asked hl

/-- TILE_STORE_ROW_ACCEPT offers the row that has been read again, and the store path takes it. -/
theorem exec_tileStoreRowAccept {s : State} {c : CoreId} {x : Xfer} {j h : Nat} {row : Line} (hx : (s.core c).xfer = some x)
    (hrun : s.running c = true) (hl : x.load = false) (read : x.got = [(j, h, row)]) (hq : (s.core c).memQ = []) :
    let a := Nat.max (s.beat (coreDomain c)) (h + 1)
    exec (.tileStoreRowAccept c) s = .next ((s.toBeat (coreDomain c) a).rowOffer c x row a) := by
  change execTileStoreRowAccept c s = _
  simp only [execTileStoreRowAccept, hx, hl, read, hrun, hq, List.isEmpty_nil, Bool.and_self, if_true]

/-- Settles O21: the transfer has one act left to do now, the write of the row that has arrived; a row of a store goes to the store path
as soon as that takes it. -/
theorem tileRowsMove : Obligations.TileRowsMove := by
  unfold Obligations.TileRowsMove
  intro s c x j h row k hx hrun noFault more
  refine ⟨fun hl asked arrived hj => ?load, fun hl read hq s1 => ?store⟩
  case load =>
    intro w
    refine ⟨_, exec_tileRowArrival hx hrun noFault more hl asked arrived, ?_⟩
    rw [State.modCore_eq, State.setCore_core_same, Core.rowWrite_of_arrived _ _ arrived more, hj]
    exact ⟨Core.tileRow_setTileRow_same _ _ _, rfl, s.toBeat_beat _ _⟩
  case store =>
    intro a t0 r taken
    rw [exec_tileStoreRowAccept hx hrun hl read hq]
    simp only [State.rowOffer]
    rw [taken]
    simp only [if_neg more.ne]
    rfl

end Sys2Proof.Machine
end

section
/-! O5: SRET, SRET.SKIP and NOINT at level S or M. -/

namespace Sys2Proof.Machine

theorem pcOf_natCast (n : Nat) : pcOf (n : Int) = BitVec.ofNat 48 n := BitVec.ofInt_natCast 48 n

/-- What SRET and SRET.SKIP share (R140, R170, R181, R190), with the step `f` of its own that each of them ends with. -/
theorem State.leaveHandler_eq (s : State) (c : CoreId) (f : SaveSet → Core → Core) :
    (s.atIssue c).leaveHandler c (s.issueBeat c) f =
      ((s.atIssue c).landAll c (s.issueActive c + 6)).modCore c (fun q => f ((s.atIssue c).core c).saved { q with
        stat := ((((s.atIssue c).core c).saved).st &&& ~~~(w64 0xFF0000000003)) ||| (q.stat &&& w64 0xFF0000000000) |||
          (if c.val < 1048576 then (((s.atIssue c).core c).saved).st &&& 3 else 3)
        rsv := none, noint := none, noIntr := false, next := Nat.max (s.issueBeat c + 7) (q.vfinal + 2) }) := by
  have ridge : coreBoot c = !decide (c.val < 1048576) := by
    rw [← decide_not]
    exact decide_eq_decide.2 Nat.not_lt.symm
  rw [State.leaveHandler, State.atIssue_active, ridge, ← State.issueActive]
  by_cases hc : c.val < 1048576
  · simp only [decide_eq_true hc, if_pos hc]
    rfl
  · simp only [decide_eq_false hc, if_neg hc]
    rfl

/-- SRET.SKIP's own step: the loop's count and the pc (R193). -/
def Core.skipTo (k : Core) (count : Nat) (pc : BitVec 48) : Core :=
  { k with tprog := 0, lcnt := wset k.lcnt 31 0 count, slot := none, pc := pc }

theorem Core.inNoint_iff (k : Core) (a : Nat) : k.inNoint a = true ↔ ∃ e, k.noint = some e ∧ a ≤ e := by
  unfold Core.inNoint
  cases k.noint <;> simp

/-- NOINT leaves an open window as it is. -/
theorem Core.noint_window (k : Core) (a e : Nat) : (if k.inNoint a then k else { k with noint := some e }) =
    { k with noint := if k.inNoint a then k.noint else some e } := by
  split <;> rfl

/-- Settles O5: SRET and SRET.SKIP leave their handler and go on where the save set says; NOINT opens a window where none is open. -/
theorem handlerReturnAndNointComplete : Obligations.HandlerReturnAndNointComplete := by
  unfold Obligations.HandlerReturnAndNointComplete
  intro s c k a save left count counts rest back
  refine ⟨fun h hl => ?sret, fun h hl => ?sretSkip, fun nm1 h hl => ?noint⟩
  case sret =>
    change issueOut s c _ _ = _
    rw [issueOut_of_issues _ h, if_neg hl, State.leaveHandler_eq]
    simp only [pcOf_natCast]
    rfl
  case sretSkip =>
    have counted : (if wb save.aux 1 && count != 0 then count - 1 else count) = rest := if_congr (by simp [counts]) rfl rfl
    have ends (q : Core) :
        (if wb save.aux 0 then BitVec.ofNat 48 (wf save.aux 47 2 * 4)
          else if wb save.aux 1 && rest != 0 then BitVec.ofNat 48 q.lbeg.toNat
          else if wb save.aux 1 then BitVec.ofNat 48 (q.lend.toNat + 4)
          else BitVec.ofNat 48 (wf save.pc 47 0 + 4)) =
        (if wb save.aux 0 then pcOf (wf save.aux 47 2 * 4)
          else if wb save.aux 1 ∧ rest ≠ 0 then pcOf q.lbeg.toNat
          else if wb save.aux 1 then pcOf (q.lend.toNat + 4)
          else pcOf (wf save.pc 47 0 + 4)) := by
      refine if_congr Iff.rfl (pcOf_natCast _).symm (if_congr (by simp) (pcOf_natCast _).symm
        (if_congr Iff.rfl (pcOf_natCast _).symm (pcOf_natCast _).symm))
    change issueOut s c _ _ = _
    rw [issueOut_of_issues _ h, if_neg hl, State.leaveHandler_eq]
    change Host.Outcome.next (left.setCore c ((back (left.core c)).skipTo _ _)) = .next (left.setCore c ((back (left.core c)).skipTo _ _))
    rw [← ends (back (left.core c)), ← counted]
  case noint =>
    change issueOut s c _ _ = _
    rw [issueOut_of_issues _ h, if_neg hl, Core.noint_window, State.finish_seq_setCore _ _ _ _ _ _ rfl rfl, State.modCore_eq,
      State.atIssue_active, if_congr (Core.inNoint_iff _ _) rfl rfl]
    rfl

end Sys2Proof.Machine
end

section
/-! SUPPORT. Results that take effect, and time that moves forward, leave it as it is whether a core runs. -/

namespace Sys2Proof.Machine

/-- From `s` to `t` supply, phases of the clusters and cadences of the domains stay as they are. -/
structure State.KeepsRunning (s t : State) : Prop where
  power : t.power = s.power
  phase : ∀ q, (t.cluster q).phase = (s.cluster q).phase
  cad : ∀ d, (t.domain d).cad = (s.domain d).cad

namespace State.KeepsRunning

variable {s t u : State}

theorem refl (s : State) : s.KeepsRunning s := ⟨rfl, fun _ => rfl, fun _ => rfl⟩

theorem trans (h : s.KeepsRunning t) (h' : t.KeepsRunning u) : s.KeepsRunning u :=
  ⟨h'.power.trans h.power, fun q => (h'.phase q).trans (h.phase q), fun d => (h'.cad d).trans (h.cad d)⟩

theorem running (h : s.KeepsRunning t) (c : Nat) : t.running c = s.running c := by
  unfold State.running
  rw [h.power, h.phase, h.cad]

theorem setCore (s : State) (c : Nat) (k : Core) : s.KeepsRunning (s.setCore c k) := ⟨rfl, fun _ => rfl, fun _ => rfl⟩

theorem setCluster (s : State) (q : Nat) {v : Cluster} (hv : v.phase = (s.cluster q).phase) : s.KeepsRunning (s.setCluster q v) where
  power := rfl
  phase j := by
    rw [State.setCluster_cluster]
    split
    next hj => rw [hv, hj]
    next => rfl
  cad _ := rfl

theorem toBeat (s : State) (d b : Nat) : s.KeepsRunning (s.toBeat d b) where
  power := rfl
  phase _ := rfl
  cad j := by
    rw [State.toBeat, State.modDomain_eq, State.setDomain_domain]
    split
    next hj => rw [hj]
    next => rfl

theorem sysWrite (s : State) (c sr : Nat) (v clr : Word) (lvl at_ : Nat) : s.KeepsRunning (s.sysWrite c sr v clr lvl at_) := by
  unfold State.sysWrite
  dsimp only
  split
  case h_8 | h_9 | h_10 | h_11 | h_12 | h_13 | h_14 | h_15 | h_16 | h_17 => exact setCluster s _ rfl
  case h_35 => exact refl s
  all_goals exact setCore s c _

theorem land1 (s : State) (c : Nat) (p : Pend) : s.KeepsRunning (s.land1 c p) := by
  unfold State.land1
  cases p.dst with
  | sreg r => exact setCore s c _
  | sys sr clr lvl =>
    dsimp only
    split
    · exact setCore s c _
    · exact sysWrite s c _ _ _ _ _
  | fflags => exact setCore s c _

theorem foldl_land1 (c : Nat) (ps : List Pend) (s : State) : s.KeepsRunning (ps.foldl (fun t p => t.land1 c p) s) := by
  induction ps generalizing s with
  | nil => exact refl s
  | cons p ps ih => exact (land1 s c p).trans (ih _)

theorem landAll (s : State) (c a : Nat) : s.KeepsRunning (s.landAll c a) := (setCore s c _).trans (foldl_land1 c _ _)

theorem atIssue (s : State) (c : Nat) : s.KeepsRunning (s.atIssue c) :=
  ((toBeat s _ _).trans (landAll _ c _)).trans (setCore _ c _)

end State.KeepsRunning

theorem State.running_of_issues {s : State} {c : Nat} {i : Instr} (h : s.issues c i = true) : s.running c = true := by
  simp only [State.issues, Bool.and_eq_true] at h
  have able := ((s.mayIssue_iff c).1 h.1.1).1
  simp only [State.canIssue, Bool.and_eq_true] at able
  exact able.1

end Sys2Proof.Machine
end

section
/-! SUPPORT. Tile moves (R88, R168): each step reads a line and writes the one read before it, so that at its end a move has copied its
lines, in whatever order its steps come between other commands. -/

namespace Sys2Proof.Machine

/-! ### Lines written one after the other -/

/-- The palette's lines after writes of a key and a value each. -/
def paletteAfter (ls : Map Line) (ws : List (Nat × Line)) : Map Line := ws.foldl (fun l w => mset lineDef l w.1 w.2) ls

theorem mget_paletteAfter_of_not_mem (ls : Map Line) {ws : List (Nat × Line)} {n : Nat} (h : n ∉ ws.map (·.1)) :
    mget lineDef (paletteAfter ls ws) n = mget lineDef ls n := by
  induction ws generalizing ls with
  | nil => rfl
  | cons w ws ih =>
    rw [List.map_cons, List.mem_cons, not_or] at h
    exact (ih _ h.2).trans (mget_mset_ne lineDef ls w.1 n w.2 h.1)

theorem mget_paletteAfter_of_mem (ls : Map Line) {ws : List (Nat × Line)} (nodup : (ws.map (·.1)).Nodup) {n : Nat} {v : Line}
    (h : (n, v) ∈ ws) : mget lineDef (paletteAfter ls ws) n = v := by
  induction ws generalizing ls with
  | nil => exact absurd h List.not_mem_nil
  | cons w ws ih =>
    obtain ⟨fresh, nodup⟩ := List.nodup_cons.1 nodup
    rcases List.mem_cons.1 h with rfl | h
    · exact (mget_paletteAfter_of_not_mem _ fresh).trans (mget_mset_same lineDef ls n v)
    · exact ih _ nodup h

/-! ### What is left of a move -/

/-- The palette's lines when a move that now finds them as `ls` has ended: it still writes what it has read and will read. -/
def Move.ends (m : Move) (ls : Map Line) : Map Line := paletteAfter ls (m.dst.zip (m.prev.toList ++ m.src.map (mget lineDef ls)))

/-- A move reads no line that it writes, and writes each line that it has read or will read. -/
def Move.fits (m : Move) : Prop := (∀ r ∈ m.src, r ∉ m.dst) ∧ m.dst.length = m.src.length + m.prev.toList.length

/-- Core `k` with a move under way, the palette's lines being `ls`. -/
def Core.inMove (k : Core) (ls : Map Line) (m : Move) : Core := { k with lines := ls, move := some m }

/-- A core without canvas commands: the canvas makes no palette accesses. -/
theorem Core.canvasTo_of_idle {k : Core} (hq : k.cq = []) (hr : k.running = []) (b : Nat) : k.canvasTo b = k := by
  rw [Core.canvasTo, hq, hr]
  rfl

section
variable {k : Core} (hq : k.cq = []) (hr : k.running = []) {ls : Map Line} {m : Move} (fits : m.fits)
include hq hr fits

/-- The last step of a move writes its last line. -/
theorem Core.moveStep_last (last : m.src = []) :
    (k.inMove ls m).moveStep m = ({ k with lines := m.ends ls } : Core).endMove m.at_ (m.dst.headD 0) := by
  obtain ⟨src, dst, prev, at_, lastAt⟩ := m
  obtain rfl : src = [] := last
  have idle : (k.inMove ls ⟨[], dst, prev, at_, lastAt⟩).canvasTo at_ = k.inMove ls ⟨[], dst, prev, at_, lastAt⟩ :=
    Core.canvasTo_of_idle (k := k.inMove ls _) hq hr _
  rw [Core.moveStep, idle]
  have length : dst.length = prev.toList.length := by simpa using fits.2
  cases prev with
  | none =>
    obtain rfl : dst = [] := List.length_eq_zero_iff.1 length
    rfl
  | some l =>
    obtain ⟨d, rfl⟩ := List.length_eq_one_iff.1 length
    rfl

/-- Any other step reads a line, and the end of the move stays what it was. -/
theorem Core.moveStep_read {r : Nat} {rest : List Nat} (more : m.src = r :: rest) :
    ∃ ls' m', (k.inMove ls m).moveStep m = k.inMove ls' m' ∧ m'.src = rest ∧ m'.fits ∧ m'.ends ls' = m.ends ls := by
  obtain ⟨src, dst, prev, at_, lastAt⟩ := m
  obtain rfl : src = r :: rest := more
  obtain ⟨apart, length⟩ := fits
  have idle (b : Nat) : (k.inMove ls ⟨r :: rest, dst, prev, at_, lastAt⟩).canvasTo b = k.inMove ls ⟨r :: rest, dst, prev, at_, lastAt⟩ :=
    Core.canvasTo_of_idle (k := k.inMove ls _) hq hr _
  simp only [Core.moveStep, idle]
  cases prev with
  | none =>
    refine ⟨ls, _, rfl, rfl, ⟨fun x hx => apart x (List.mem_cons_of_mem r hx), ?_⟩, rfl⟩
    simpa using length
  | some l =>
    cases dst with
    | nil => simp at length
    | cons d ds =>
      have unread (x : Nat) (hx : x ∈ rest) : mget lineDef (mset lineDef ls d l) x = mget lineDef ls x :=
        mget_mset_ne _ _ _ _ _ fun he => apart x (List.mem_cons_of_mem r hx) (he ▸ List.mem_cons_self)
      refine ⟨mset lineDef ls d l, _, rfl, rfl,
        ⟨fun x hx hd => apart x (List.mem_cons_of_mem r hx) (List.mem_cons_of_mem d hd), ?_⟩, ?_⟩
      · simpa using length
      · simp only [Move.ends, List.map_congr_left unread]
        rfl

end

/-! ### A move from step to step -/

/-- A core past a move that has ended (R89, R136). -/
theorem Core.endMove_eq (k : Core) (e line : Nat) : k.endMove e line =
    { k.past e with
      tprog := k.tprog, move := none, vfinal := e, vlast := e, vfinalLine := some line, fcnt := k.fcnt + (e + 1 - k.next) } :=
  congrArg (fun q : Core => { q with vfinal := e, vlast := e, vfinalLine := some line, fcnt := k.fcnt + (e + 1 - k.next) })
    (Core.retire_seq { k with move := none } k.tprog e)

/-- Core `q` is `k` past a move that has left the lines `L`. -/
def Core.HasMoved (k : Core) (L : Map Line) (q : Core) : Prop := ∃ e line, q = ({ k with lines := L } : Core).endMove e line

/-- Core `q` is `k` in a move that will leave the lines `L`, with at most `n` steps to go, or past it. -/
def Core.Moves (k : Core) (L : Map Line) (n : Nat) (q : Core) : Prop :=
  (∃ ls m, q = k.inMove ls m ∧ m.fits ∧ m.ends ls = L ∧ m.src.length < n) ∨ k.HasMoved L q

theorem Core.HasMoved.move {k q : Core} {L : Map Line} (h : k.HasMoved L q) : q.move = none := by
  obtain ⟨e, line, rfl⟩ := h
  rw [Core.endMove_eq]

/-- What a move leaves of its core: it is past the instruction, with the lines of the move's end (R89, R136). -/
theorem Core.HasMoved.keeps {k q : Core} {L : Map Line} (h : k.HasMoved L q) (b : Nat) :
    q.lines = L ∧ q.pc = (k.past b).pc ∧ q.lcnt = (k.past b).lcnt ∧ q.s = k.s ∧ q.k = k.k ∧ q.stat = k.stat ∧ q.tcfg = k.tcfg := by
  obtain ⟨e, line, rfl⟩ := h
  rw [Core.endMove_eq]
  exact ⟨rfl, rfl, rfl, rfl, rfl, rfl, rfl⟩

theorem Core.HasMoved.moveWhile {k q : Core} {L : Map Line} (h : k.HasMoved L q) (go : Nat → Bool) (j : Nat) :
    q.moveWhile go j = q := by
  cases j with
  | zero => rfl
  | succ j => rw [Core.moveWhile, h.move]

/-- Where core `k` takes no interrupt, none holds its move (R183). -/
theorem Core.Moves.not_held {k q : Core} {L : Map Line} {n : Nat} {boot : Bool} (h : k.Moves L n q) (closed : k.interrupt boot = none) :
    (q.move.isSome && q.openAt (q.active q.next) && (q.interrupt boot).isSome) = false := by
  rcases h with ⟨ls, m, rfl, -⟩ | ended
  · have same : (k.inMove ls m).interrupt boot = k.interrupt boot := rfl
    rw [same, closed, Option.isSome_none, Bool.and_false]
  · rw [ended.move]
    rfl

section
variable {k : Core} (hq : k.cq = []) (hr : k.running = []) {L : Map Line}
include hq hr

theorem Core.Moves.step {ls : Map Line} {m : Move} {n : Nat} (fits : m.fits) (ends : m.ends ls = L) (steps : m.src.length < n + 1) :
    k.Moves L n ((k.inMove ls m).moveStep m) := by
  cases hsrc : m.src with
  | nil => exact .inr ⟨_, _, ends ▸ Core.moveStep_last hq hr fits hsrc⟩
  | cons r rest =>
    obtain ⟨ls', m', stepped, src, fits', ends'⟩ := Core.moveStep_read hq hr (ls := ls) fits hsrc
    rw [hsrc, List.length_cons] at steps
    exact .inl ⟨ls', m', stepped, fits', ends'.trans ends, by rw [src]; omega⟩

theorem Core.Moves.moveWhile {q : Core} {n : Nat} (h : k.Moves L n q) (go : Nat → Bool) (j : Nat) :
    k.Moves L n (q.moveWhile go j) := by
  induction j generalizing q with
  | zero => exact h
  | succ j ih =>
    rcases h with ⟨ls, m, rfl, fits, ends, steps⟩ | ended
    · change k.Moves L n (if go m.at_ then ((k.inMove ls m).moveStep m).moveWhile go j else k.inMove ls m)
      split
      · exact ih (Core.Moves.step hq hr fits ends (Nat.lt_succ_of_lt steps))
      · exact .inl ⟨ls, m, rfl, fits, ends, steps⟩
    · rw [ended.moveWhile]
      exact .inr ended

/-- With a step allowed for each line, a move that nothing holds ends. -/
theorem Core.Moves.hasMoved {q : Core} {n : Nat} (h : k.Moves L n q) : k.HasMoved L (q.moveWhile (fun _ => true) n) := by
  induction n generalizing q with
  | zero =>
    rcases h with ⟨_, _, _, _, _, steps⟩ | ended
    · exact absurd steps (Nat.not_lt_zero _)
    · exact ended
  | succ n ih =>
    rcases h with ⟨ls, m, rfl, fits, ends, steps⟩ | ended
    · exact ih (Core.Moves.step hq hr fits ends steps)
    · rwa [ended.moveWhile]

theorem Core.Moves.moveTo {q : Core} {n : Nat} (h : k.Moves L n q) (b : Nat) : k.Moves L n (q.moveTo b) := by
  unfold Core.moveTo
  refine Core.Moves.moveWhile hq hr ?_ _ _
  rcases h with ⟨ls, m, rfl, fits, ends, steps⟩ | ended
  · change k.Moves L n (if m.prev.isNone then (k.inMove ls m).moveStep m else k.inMove ls m)
    split
    · exact Core.Moves.step hq hr fits ends (Nat.lt_succ_of_lt steps)
    · exact .inl ⟨ls, m, rfl, fits, ends, steps⟩
  · rw [ended.move]
    exact .inr ended

/-- Where no interrupt can be taken, a move of a running core runs to its end. -/
theorem State.moveOver_hasMoved {t : State} {c : Nat} {m : Move} (run : t.running c = true) (under : (t.core c).move = some m)
    (h : k.Moves L moveActs (t.core c)) (closed : k.interrupt (coreBoot c) = none) : k.HasMoved L ((t.moveOver c).core c) := by
  have begun := h.moveTo hq hr (t.beat (coreDomain c))
  simp only [State.moveOver, under, run, Bool.not_true, Bool.false_eq_true, if_false, State.modCore_eq, State.setCore_core_same,
    begun.not_held closed]
  exact begun.hasMoved hq hr

end

theorem State.moveOver_byte (t : State) (c a : Nat) : (t.moveOver c).byte a = t.byte a := by
  unfold State.moveOver
  split
  · rfl
  · split <;> rfl

/-! ### The lines that a move copies -/

/-- A move from the lines `src j` to the lines `dst j`, not begun. -/
def moveOf (src dst : Nat → Nat) (n at_ last : Nat) : Move :=
  { src := (List.range n).map src, dst := (List.range n).map dst, prev := none, at_ := at_, last := last }

section
variable {src dst : Nat → Nat} {n : Nat}

theorem moveOf_fits (at_ last : Nat) (apart : ∀ i, i < n → ∀ j, j < n → src i ≠ dst j) : (moveOf src dst n at_ last).fits := by
  refine ⟨fun r hr hd => ?_, by simp [moveOf]⟩
  obtain ⟨i, hi, rfl⟩ := List.mem_map.1 hr
  obtain ⟨j, hj, he⟩ := List.mem_map.1 hd
  exact apart i (List.mem_range.1 hi) j (List.mem_range.1 hj) he.symm

theorem moveOf_ends (at_ last : Nat) (ls : Map Line) :
    (moveOf src dst n at_ last).ends ls = paletteAfter ls ((List.range n).map fun j => (dst j, mget lineDef ls (src j))) := by
  have zipped : ((List.range n).map dst).zip ((List.range n).map (mget lineDef ls ∘ src)) =
      (List.range n).map fun j => (dst j, mget lineDef ls (src j)) := List.zip_map'
  rw [← zipped, ← List.map_map]
  rfl

/-- Each line that a move writes holds what the line that it reads for it held at first. -/
theorem mget_moveOf_ends (at_ last : Nat) (ls : Map Line) (distinct : ∀ i, i < n → ∀ j, j < n → dst i = dst j → i = j) {j : Nat} (hj : j < n) :
    mget lineDef ((moveOf src dst n at_ last).ends ls) (dst j) = mget lineDef ls (src j) := by
  rw [moveOf_ends]
  refine mget_paletteAfter_of_mem ls ?_ (List.mem_map_of_mem (List.mem_range.2 hj))
  rw [List.map_map]
  exact List.nodup_range.map_on fun i hi j hj h => distinct i (List.mem_range.1 hi) j (List.mem_range.1 hj) h

theorem mget_moveOf_ends_ne (at_ last : Nat) (ls : Map Line) {y : Nat} (other : ∀ j, j < n → y ≠ dst j) :
    mget lineDef ((moveOf src dst n at_ last).ends ls) y = mget lineDef ls y := by
  rw [moveOf_ends]
  refine mget_paletteAfter_of_not_mem ls fun hy => ?_
  rw [List.map_map] at hy
  obtain ⟨j, hj, rfl⟩ := List.mem_map.1 hy
  exact other j (List.mem_range.1 hj) rfl

end

/-! ### Keys of tile rows and of register groups (R86, R87) -/

theorem Core.vc_g_bounds (k : Core) : 0 < k.vc.g ∧ 4 * k.vc.g < moveActs := by
  have hg : wf k.vcfg 7 6 < 4 := Nat.mod_lt _ (by decide)
  refine ⟨Nat.two_pow_pos _, ?_⟩
  have : 2 ^ wf k.vcfg 7 6 ≤ 2 ^ 3 := Nat.pow_le_pow_right (by decide) (by omega)
  change 4 * 2 ^ wf k.vcfg 7 6 < 40
  omega

/-- Vector registers lie in the lower half of their bank. -/
theorem vregKey_mod_lt {n i : Nat} (hn : n < 32) (hi : i < 4) : vregKey n i % 32 < 16 := by
  rw [vregKey, Nat.add_assoc, Nat.mul_add_mod]
  omega

/-- The tile area lies in the upper half of its bank. -/
theorem le_rowKey_mod (r : Nat) : 16 ≤ rowKey r % 32 := by
  rw [rowKey, Nat.add_assoc, Nat.mul_add_mod]
  omega

theorem vregKey_inj {n n' i i' : Nat} (hn : n < 32) (hi : i < 4) (hn' : n' < 32) (hi' : i' < 4) (h : vregKey n i = vregKey n' i') :
    n = n' ∧ i = i' := by
  unfold vregKey at h
  have bank : n % 8 = n' % 8 := by omega
  have line : n / 8 = n' / 8 := by omega
  omega

section
variable {v g : Nat} (hg : 0 < g) (hv : v + g ≤ 32)
include hg hv

/-- The register and the line in it of the lines of a group (R151). -/
theorem groupKey_bounds {i : Nat} (hi : i < 4 * g) : v + i % g < 32 ∧ i / g < 4 :=
  ⟨by have := Nat.mod_lt i hg; omega, Nat.div_lt_of_lt_mul (by rwa [Nat.mul_comm])⟩

theorem groupKey_injOn {i j : Nat} (hi : i < 4 * g) (hj : j < 4 * g) (h : groupKey v g i = groupKey v g j) : i = j := by
  obtain ⟨ri, li⟩ := groupKey_bounds hg hv hi
  obtain ⟨rj, lj⟩ := groupKey_bounds hg hv hj
  obtain ⟨register, line⟩ := vregKey_inj ri li rj lj h
  rw [← Nat.div_add_mod i g, ← Nat.div_add_mod j g, line, Nat.add_left_cancel register]

theorem rowKey_ne_groupKey (r : Nat) {j : Nat} (hj : j < 4 * g) : rowKey r ≠ groupKey v g j := by
  obtain ⟨register, line⟩ := groupKey_bounds hg hv hj
  have upper := le_rowKey_mod r
  have lower : groupKey v g j % 32 < 16 := vregKey_mod_lt register line
  exact fun he => absurd lower (Nat.not_lt.2 (he ▸ upper))

/-- What a tile move between the rows from `first` on and the group at `v` writes as its line `j`; the move the other way reads it. -/
def moveKey (toVec : Bool) (v g first j : Nat) : Nat := if toVec then groupKey v g j else rowKey (first + j)

theorem moveKey_ne (toVec : Bool) (first : Nat) {i j : Nat} (hi : i < 4 * g) (hj : j < 4 * g) :
    moveKey (!toVec) v g first i ≠ moveKey toVec v g first j := by
  cases toVec with
  | true => exact rowKey_ne_groupKey hg hv _ hj
  | false => exact (rowKey_ne_groupKey hg hv _ hi).symm

theorem moveKey_injOn (toVec : Bool) (first : Nat) {i j : Nat} (hi : i < 4 * g) (hj : j < 4 * g)
    (h : moveKey toVec v g first i = moveKey toVec v g first j) : i = j := by
  cases toVec with
  | true => exact groupKey_injOn hg hv hi hj h
  | false => exact Nat.add_left_cancel (rowKey_injective h)

end

theorem moveKey_copied (toVec : Bool) (v g first j : Nat) (old new : Nat → Line) :
    new (moveKey toVec v g first j) = old (moveKey (!toVec) v g first j) ↔
      if toVec then new (groupKey v g j) = old (rowKey (first + j)) else new (rowKey (first + j)) = old (groupKey v g j) := by
  cases toVec <;> exact Iff.rfl

end Sys2Proof.Machine
end

section
/-! O19: TCFG, TCFGRD and the tile moves. -/

namespace Sys2Proof.Machine

/-! ### TCFG and TCFGRD (R89, R90, R95) -/

/-- A core held from the issue of a tile instruction at `b` on: its frozen beats, counted up to the beginning and from there. -/
theorem Core.heldTo_begins (k q : Core) (b n : Nat) :
    { q with fcnt := q.fcnt + (k.begins b - b) + n, next := k.begins b + (n + 1) } = q.heldTo b (k.begins b + (n + 1)) := by
  have frozen : q.fcnt + (k.begins b - b) + n = q.fcnt + (k.begins b + (n + 1) - b - 1) := by
    have := k.le_begins b
    omega
  rw [Core.heldTo, frozen]

/-- TCFG issues: its core is held until 12 beats after the beginning, and the block is accepted or refused (R89, R95). -/
theorem exec_tcfg {s : State} {c : CoreId} {r : Reg} (h : s.issues c (.tcfg c r) = true) :
    let k := (s.atIssue c).core c
    let b := s.issueBeat c
    let q := k.canvasTo (oddFrom (k.begins b))
    let blk : BitVec 512 := q.line (vregKey r.toNat 0)
    let held := q.heldTo b (k.begins b + 12)
    exec (.tcfg c r) s = .next ((s.atIssue c).setCore c
      ((tcfgCheck blk ((q.running ++ q.cq).map (fun x => centOf x.entry))).elim
        (({ held with tcfg := blk &&& tcfgKeep } : Core).past b)
        fun x => held.recognised (k.begins b + 12) 0x0B (w64 (x.1 * 16 + x.2)))) := by
  intro k b q blk held
  have stay : { q with fcnt := q.fcnt + (k.begins b - b) + (tcfgBeats - 1), next := k.begins b + tcfgBeats } = held :=
    Core.heldTo_begins k q b 11
  change issueOut s c _ _ = _
  rw [issueOut_of_issues _ h]
  cases found : tcfgCheck blk ((q.running ++ q.cq).map (fun x => centOf x.entry)) with
  | none =>
    simp only [q, blk, k, b] at found
    simp only [found]
    rw [State.finish_seq_setCore _ _ _ _ _ _ rfl rfl, ← stay]
    rfl
  | some x =>
    simp only [q, blk, k, b] at found
    simp only [found]
    rw [State.finish_raiseAt, ← stay]
    rfl

/-- TCFGRD holds its core until the beat after its final step (R89). -/
theorem Core.ridesTo_eq (k : Core) (b f line : Nat) :
    k.ridesTo b f line = { k.heldTo b (f + 1) with vfinal := f, vlast := f, vfinalLine := some line } := by
  have frozen : f - b = f + 1 - b - 1 := by omega
  rw [Core.ridesTo, Core.heldTo, frozen]

theorem exec_tcfgrd {s : State} {c : CoreId} {r : Reg} (h : s.issues c (.tcfgrd c r) = true) :
    let k := (s.atIssue c).core c
    let b := s.issueBeat c
    exec (.tcfgrd c r) s = .next ((s.atIssue c).setCore c
      (((k.setVreg r.toNat k.tcfg.toNat).ridesTo b (oddFrom (k.begins b) + 8) (vregKey r.toNat 3)).past b)) := by
  change issueOut s c _ _ = _
  rw [issueOut_of_issues _ h, State.finish_seq_setCore _ _ _ _ _ _ rfl rfl]
  rfl

/-! ### Tile moves at their issue (R88, R89) -/

/-- TMVV and TMVT issue with the one body that they share. -/
theorem exec_of_move {c : CoreId} {i : Instr} {v : Reg} {tn : BitVec 3} {rs1 : Reg} {toVec : Bool}
    (h : i = .tmvv c v tn rs1 ∧ toVec = true ∨ i = .tmvt c tn v rs1 ∧ toVec = false) :
    isTransfer i = false ∧ ∀ s, exec i s = issueOut s c i (moveBody c i toVec v tn rs1) := by
  rcases h with ⟨rfl, rfl⟩ | ⟨rfl, rfl⟩ <;> exact ⟨rfl, fun _ => rfl⟩

/-- The core as a move begins, its first step not yet taken. -/
def Core.moveBegun (k : Core) (b : Nat) : Core :=
  { k with tprog := wsetb k.tprog 15 false, fcnt := k.fcnt + (k.begins b - b), next := k.begins b + 1 }

/-- The move that a tile move sets going: from the rows to the group, or the other way. -/
def tileMove (toVec : Bool) (v g first t0 : Nat) : Move :=
  moveOf (moveKey (!toVec) v g first) (moveKey toVec v g first) (4 * g) (oddFrom t0) t0

/-- The core with such a move set going. -/
def Core.inTileMove (k : Core) (toVec : Bool) (v first b : Nat) : Core :=
  (k.moveBegun b).inMove k.lines (tileMove toVec v k.vc.g first (k.begins b))

/-- A move that is accepted is under way from its beginning on. -/
theorem moveBody_of_accepted {s : State} {c : CoreId} {i : Instr} {v : Reg} {tn : BitVec 3} {rs1 : Reg} (toVec : Bool) (b : Nat)
    (ht : isTransfer i = false) :
    let k := s.core c
    let r := tregOf k.tcfg tn.toNat
    let f := (k.sreg rs1).toNat
    v.toNat % k.vc.g = 0 → r.en = true → f + 4 * k.vc.g ≤ r.rows →
    moveBody c i toVec v tn rs1 s b = .begun (s.setCore c (k.inTileMove toVec v.toNat (r.first + f) b)) := by
  intro k r f aligned enabled rows
  have accepted : ¬(!r.en || decide (r.rows < f + 4 * k.vc.g)) = true := by simp [enabled, rows]
  have valid : k.clearValid i = { k with tprog := wsetb k.tprog 15 false } := by rw [Core.clearValid, ht]; rfl
  rw [moveBody, if_neg (not_not.2 aligned), if_neg accepted, valid]
  cases toVec <;> rfl

/-- A tile move that no interrupt can stop, of a running core without canvas commands: once it is over, the lines are copied, and of the
rest of its core what the instruction leaves alone is as it was (R88, R89, R168). -/
theorem State.moveOver_tileMove {t : State} {c : Nat} {k : Core} {toVec : Bool} {v first b : Nat} (within : v + k.vc.g ≤ 32)
    (hq : k.cq = []) (hr : k.running = []) (closed : k.interrupt (coreBoot c) = none) (run : t.running c = true)
    (under : t.core c = k.inTileMove toVec v first b) :
    let q := (t.moveOver c).core c
    q.move = none ∧ q.pc = (k.past b).pc ∧ q.lcnt = (k.past b).lcnt
      ∧ (∀ j, j < 4 * k.vc.g → q.line (moveKey toVec v k.vc.g first j) = k.line (moveKey (!toVec) v k.vc.g first j))
      ∧ (∀ y, (∀ j, j < 4 * k.vc.g → y ≠ moveKey toVec v k.vc.g first j) → q.line y = k.line y)
      ∧ q.s = k.s ∧ q.k = k.k ∧ q.stat = k.stat ∧ q.tcfg = k.tcfg := by
  obtain ⟨hg, steps⟩ := k.vc_g_bounds
  have fits : (tileMove toVec v k.vc.g first (k.begins b)).fits :=
    moveOf_fits _ _ fun i hi j hj => moveKey_ne hg within toVec first hi hj
  have moves : (k.moveBegun b).Moves ((tileMove toVec v k.vc.g first (k.begins b)).ends k.lines) moveActs (t.core c) :=
    .inl ⟨k.lines, _, under, fits, rfl, by simpa [tileMove, moveOf] using steps⟩
  have moved := State.moveOver_hasMoved (k := k.moveBegun b) hq hr run (congrArg Core.move under) moves closed
  obtain ⟨lines, pc, lcnt, regs, masks, stat, tcfg⟩ := moved.keeps b
  have line (y : Nat) := congrArg (mget lineDef · y) lines
  refine ⟨moved.move, pc, lcnt, fun j hj => ?copied, fun y hy => ?other, regs, masks, stat, tcfg⟩
  case copied => exact (line _).trans (mget_moveOf_ends _ _ _ (fun i hi j hj => moveKey_injOn hg within toVec first hi hj) hj)
  case other => exact (line y).trans (mget_moveOf_ends_ne _ _ _ hy)

/-- Settles O19: TCFG and TCFGRD complete at their issue with their core held; a tile move begins at its issue, and where no interrupt
can be taken its steps copy the lines one by one to the end. -/
theorem tileConfigurationAndMovesComplete : Obligations.TileConfigurationAndMovesComplete := by
  unfold Obligations.TileConfigurationAndMovesComplete
  refine ⟨fun s c r => ?config, fun s c i v tn rs1 toVec hi => ?move⟩
  case config =>
    intro k b b0 q blk found
    refine ⟨fun h accepted => ?accepted, fun code reg h refused => ?refused, fun h => ?read⟩
    case accepted => exact (exec_tcfg h).trans (by rw [show tcfgCheck _ _ = none from accepted]; rfl)
    case refused => exact (exec_tcfg h).trans (by rw [show tcfgCheck _ _ = some (code, reg) from refused]; rfl)
    case read =>
      intro f
      rw [exec_tcfgrd h, Core.ridesTo_eq]
  case move =>
    intro k g r f row ln h hq hr aligned within enabled rows area closed
    obtain ⟨ht, hexec⟩ := exec_of_move hi
    have begins : exec i s = .next ((s.atIssue c).setCore c (k.inTileMove toVec v.toNat (r.first + f) (s.issueBeat c))) := by
      rw [hexec, issueOut_of_issues _ h, moveBody_of_accepted toVec _ ht aligned enabled rows]
      rfl
    have under := State.setCore_core_same (s.atIssue c) c (k.inTileMove toVec v.toNat (r.first + f) (s.issueBeat c))
    have run := (((State.KeepsRunning.atIssue s c).trans (.setCore _ c (k.inTileMove toVec v.toNat (r.first + f) (s.issueBeat c)))).running
      c).trans (State.running_of_issues h)
    obtain ⟨move, pc, lcnt, copied, others, rest⟩ := State.moveOver_tileMove within hq hr closed run under
    obtain ⟨regs, masks, stat, tcfg⟩ := rest
    exact ⟨_, begins, ⟨_, congrArg Core.move under, rfl⟩, move, pc, lcnt, fun j hj => (moveKey_copied _ _ _ _ _ _ _).1 (copied j hj),
      others, regs, masks, stat, tcfg, State.moveOver_byte _ c⟩

end Sys2Proof.Machine
end

section
/-! SUPPORT. What an instruction with a scalar destination reads: the bits of a mask register below VL, the active elements in index order,
and an element extended to 64 bits. -/

namespace Sys2Proof.Machine

/-! ### Mask bits below VL -/

theorem onesIn_of_lt {m n x : Nat} (hmn : m ≤ n) (hx : x < 2 ^ m) : onesIn n x = onesIn m x := by
  induction n, hmn using Nat.le_induction with
  | base => rfl
  | succ n hmn ih =>
    have above : x.testBit n = false := Nat.testBit_lt_two_pow (hx.trans_le (Nat.pow_le_pow_right (by decide) hmn))
    rw [onesIn_succ_top, above, ih]
    exact List.append_nil _

theorem onesIn_mod_two_pow (n x : Nat) : onesIn n (x % 2 ^ n) = onesIn n x := by
  refine List.filter_congr fun i hi => ?_
  rw [Nat.testBit_mod_two_pow, decide_eq_true (List.mem_range.1 hi), Bool.true_and]

theorem toNat_mod_lt {w : Nat} (x : BitVec w) (n : Nat) : x.toNat % n < 2 ^ w := (Nat.mod_le _ _).trans_lt x.isLt

theorem maskBelow_lt (k : Core) (v : VCfg) (f : VF) : maskBelow k v f < 2 ^ 2048 := toNat_mod_lt _ _

/-- The set bits of a mask register below VL, also for a VL past its last bit. -/
theorem onesIn_maskBelow (k : Core) (f : VF) : onesIn 2048 (maskBelow k k.vc f) = maskOnes k f := by
  have belowVl : maskBelow k k.vc f < 2 ^ k.vc.vl := Nat.mod_lt _ (Nat.two_pow_pos _)
  have same : onesIn 2048 (maskBelow k k.vc f) = onesIn k.vc.vl (maskBelow k k.vc f) := by
    rcases Nat.le_total k.vc.vl 2048 with h | h
    · exact onesIn_of_lt h belowVl
    · exact (onesIn_of_lt h (maskBelow_lt k k.vc f)).symm
  rw [same, maskBelow, onesIn_mod_two_pow]
  rfl

/-- The lowest bit that is 1, if there is one. -/
theorem head?_onesIn {n x : Nat} (hx : x < 2 ^ n) : (onesIn n x).head? = if x = 0 then none else some (ctzN n x) := by
  induction n generalizing x with
  | zero => rw [if_pos (by simpa using hx)]; rfl
  | succ n ih =>
    have half : x / 2 < 2 ^ n := by rw [Nat.pow_succ] at hx; omega
    rw [onesIn_succ, Nat.testBit_zero, ctzN]
    rcases Nat.mod_two_eq_zero_or_one x with even | odd
    · have zero : x / 2 = 0 ↔ x = 0 := by omega
      simp only [even, List.head?_append, List.head?_map, ih half, zero]
      by_cases h : x = 0 <;> simp [h, Nat.add_comm]
    · have positive : x ≠ 0 := by omega
      simp [odd, positive]

/-! ### Active elements and accumulators -/

theorem activeElems_eq (k : Core) (f : VF) : activeElems k k.vc f = (activeIndices k f).map (fun j => (j, k.el f.vs1 j)) := by
  have pairs : (List.range k.vc.vlmax).zip (k.elems f.vs1.toNat k.vc.g k.vc.sew k.vc.vlmax) =
      (List.range k.vc.vlmax).map (fun j => (j, k.el f.vs1 j)) := by
    refine List.ext_getElem (by simp [elems_length]) fun j hj _ => ?_
    have inside : j < (k.elems f.vs1.toNat k.vc.g k.vc.sew k.vc.vlmax).length := by
      rw [List.length_zip] at hj
      omega
    simp [Core.el, inside]
  rw [activeElems, pairs, List.filter_map]
  rfl

theorem sext64_eq_ofInt {n : Nat} (hn : 0 < n) (h64 : n ≤ 64) (x : Nat) : sext64 n x = BitVec.ofInt 64 (sgn n x) := by
  have fits : 2 ^ n ≤ 2 ^ 64 := Nat.pow_le_pow_right (by decide) h64
  have wrap (i : Int) : BitVec.ofInt 64 (i + (2 ^ 64 : ℕ)) = BitVec.ofInt 64 i := by
    rw [BitVec.ofInt_add, BitVec.ofInt_natCast, show BitVec.ofNat 64 (2 ^ 64) = 0#64 from rfl, BitVec.add_zero]
  rw [← sint_eq_sgn hn, sext64, sint]
  split
  · rw [← wrap, show ((x % 2 ^ n : ℕ) : Int) - (2 ^ n : ℕ) + (2 ^ 64 : ℕ) = (x % 2 ^ n + (2 ^ 64 - 2 ^ n) : ℕ) by omega,
      BitVec.ofInt_natCast]
    rfl
  · rw [BitVec.ofInt_natCast]
    rfl

theorem foldl_add_ofInt {α : Type} (xs : List α) (z : α → Int) (w : Word) :
    xs.foldl (fun acc x => acc + BitVec.ofInt 64 (z x)) w = BitVec.ofInt 64 (w.toInt + (xs.map z).sum) := by
  induction xs generalizing w with
  | nil => simp
  | cons x xs ih =>
    rw [List.foldl_cons, ih, List.map_cons, List.sum_cons, BitVec.ofInt_add, BitVec.ofInt_add, BitVec.ofInt_add, BitVec.ofInt_toInt,
      BitVec.ofInt_toInt, BitVec.add_assoc]

/-- The groups of an exact sum, one after another (R158). -/
theorem redGroups_eq (xs : List (Nat × Nat)) (n g acc : Nat) : redGroups xs n g acc = (List.range n).foldl (fun acc i =>
    let ts := (xs.filter (fun p => p.1 / 32 = g + i)).map (fun p => fp32.val p.2)
    if ts.isEmpty then acc else groupRule ts (some acc)) acc := by
  induction n generalizing g acc with
  | zero => rfl
  | succ n ih =>
    rw [redGroups, ih, List.range_succ_eq_map, List.foldl_cons, List.foldl_map]
    simp only [Nat.succ_eq_add_one, Nat.add_zero, Nat.add_assoc, Nat.add_comm 1]

end Sys2Proof.Machine
end

section
/-! O13: the vector instructions with a scalar destination. -/

namespace Sys2Proof.Machine

/-- An instruction that writes no vector and no mask register: its result and its flags. -/
theorem exec_scalarResult {s : State} {c : CoreId} {i : Instr} {func : Nat} {f : VF} {cfg : VCfg → Bool} {shape : VCfg → VShape}
    {run : Core → VCfg → VOut} {k : Core} {w : Word} {fl : FF} (hk : k = (s.atIssue c).core c)
    (hexec : exec i s = issueOut s c i (vecBody c i 0x36 func f cfg shape run)) (ht : isTransfer i = false) (hc : isControl i = false)
    (hrun : run k k.vc = { core := k, flags := fl, rd := some w })
    (h : s.vecIssues c i 0x36 func f (cfg k.vc) (shape k.vc)) :
    exec i s = .next ((s.atIssue c).setCore c (k.vecPast k (s.issueActive c) (s.issueBeat c) f (shape k.vc) fl (some w))) := by
  rw [hexec, issueOut_vecBody ht hc hk h (by rw [hrun]), hrun]

theorem kpopc_result (k : Core) (f : VF) : popN 2048 (maskBelow k k.vc f) = (maskOnes k f).length := by
  rw [popN_eq, onesIn_maskBelow]

theorem kfirst_result (k : Core) (f : VF) :
    (if maskBelow k k.vc f = 0 then BitVec.allOnes 64 else w64 (ctzN 2048 (maskBelow k k.vc f))) =
      (maskOnes k f).head?.elim (BitVec.allOnes 64) w64 := by
  rw [← onesIn_maskBelow, head?_onesIn (maskBelow_lt k k.vc f)]
  split <;> rfl

theorem Core.sext64_el (k : Core) (x : Nat) : sext64 k.vc.sew x = BitVec.ofInt 64 (sgn k.vc.sew x) :=
  sext64_eq_ofInt k.sew_pos (by rcases k.vc_bounds.1 with h | h | h | h <;> omega) x

theorem vredsum_result (k : Core) (f : VF) (w : Word) : (activeElems k k.vc f).foldl (fun acc p => acc + sext64 k.vc.sew p.2) w =
    BitVec.ofInt 64 (w.toInt + ((activeIndices k f).map (fun j => sgn k.vc.sew (k.el f.vs1 j))).sum) := by
  simp only [activeElems_eq, List.foldl_map, k.sext64_el]
  exact foldl_add_ofInt _ (fun j => sgn k.vc.sew (k.el f.vs1 j)) w

theorem vfredsum_result (k : Core) (f : VF) (n acc : Nat) : redGroups (activeElems k k.vc f) n 0 acc = (List.range n).foldl (fun acc g =>
    let ts := ((activeIndices k f).filter (fun j => j / 32 = g)).map (fun j => fp32.val (k.el f.vs1 j))
    if ts.isEmpty then acc else groupRule ts (some acc)) acc := by
  simp only [redGroups_eq, activeElems_eq, List.filter_map, List.map_map, Nat.zero_add]
  rfl

/-- VFREDMAX and VFREDMIN: the fold of R41 over the active elements, with the flags of its steps. -/
theorem exec_fold {s : State} {c : CoreId} {i : Instr} {func : Nat} {f : VF} {mx : Bool} {k : Core} (hk : k = (s.atIssue c).core c)
    (hexec : exec i s = issueOut s c i (foldOp c i func f mx)) (ht : isTransfer i = false) (hc : isControl i = false)
    (h : s.vecIssues c i 0x36 func f k.vc.isF32 (scalarResultShape f k.vc)) :
    let r := (activeIndices k f).foldl (fun acc j => ((fMinMax fp32 mx acc.1 (k.el f.vs1 j)).1,
      acc.2 ||| (fMinMax fp32 mx acc.1 (k.el f.vs1 j)).2)) ((k.sreg f.vs2).toNat % 2 ^ 32, 0)
    exec i s = .next ((s.atIssue c).setCore c
      (k.vecPast k (s.issueActive c) (s.issueBeat c) f (scalarResultShape f k.vc) r.2 (some (w64 r.1)))) := by
  intro r
  refine exec_scalarResult (cfg := VCfg.isF32) (shape := scalarShape f) hk hexec ht hc ?_ h
  dsimp only
  rw [activeElems_eq, List.foldl_map]
  rfl

/-- Settles O13: counts and positions of mask bits, the sums and folds over the active elements in index order, and one element. -/
theorem vectorScalarResultsComplete : Obligations.VectorScalarResultsComplete := by
  unfold Obligations.VectorScalarResultsComplete
  intro s i c func f cfg sh w fl k hrule h
  cases i <;> cases hrule
  case kpopc.refl =>
    refine exec_scalarResult (cfg := anyCfg) (shape := maskShape) (k := k) rfl rfl rfl rfl ?_ h
    rw [kpopc_result]
  case kfirst.refl =>
    refine exec_scalarResult (cfg := anyCfg) (shape := maskShape) (k := k) rfl rfl rfl rfl ?_ h
    rw [kfirst_result]
  case vredsum.refl =>
    refine exec_scalarResult (cfg := anyCfg) (shape := scalarShape f) (k := k) rfl rfl rfl rfl ?_ h
    rw [vredsum_result]
    rfl
  case vfredsum.refl =>
    refine exec_scalarResult (cfg := VCfg.isF32) (shape := scalarShape f) (k := k) rfl rfl rfl rfl ?_ h
    rw [vfredsum_result]
    rfl
  case vfredmax.refl | vfredmin.refl => exact exec_fold (k := k) rfl rfl rfl rfl h
  case vext.refl =>
    refine exec_scalarResult (cfg := anyCfg) (shape := scalarShape f) (k := k) rfl rfl rfl rfl ?_ h
    simp only [k.sext64_el]

end Sys2Proof.Machine
end

section
/-! O22: entry to a handler (R172 to R192), deferred exceptions and double faults. -/

namespace Sys2Proof.Machine

/-! ### What entry writes (R172, R179, R185, R186) -/

/-- An address of at most 48 bits keeps its bits [47:2] in a register of addresses (R177). -/
theorem keep_maskAddr {n : Nat} (h : n < 2 ^ 48) : keep maskAddr (w64 n) = w64 (n / 4 * 4) := by
  refine BitVec.eq_of_getLsbD_eq fun i hi => ?_
  have mask : maskAddr.testBit i = (decide (2 ≤ i) && decide (i < 48)) := by
    have := Nat.testBit_mul_two_pow (2 ^ 46 - 1) i 2
    rw [Nat.testBit_two_pow_sub_one] at this
    exact this.trans (by congr 1; exact decide_eq_decide.2 (by omega))
  have high (hi : 48 ≤ i) : n.testBit i = false := Nat.testBit_lt_two_pow (h.trans_le (Nat.pow_le_pow_right (by decide) hi))
  have aligned : (n / 4 * 4).testBit i = (decide (2 ≤ i) && n.testBit i) := by
    rw [show n / 4 * 4 = n / 2 ^ 2 * 2 ^ 2 from rfl, Nat.testBit_mul_two_pow, Nat.testBit_div_two_pow]
    by_cases low : 2 ≤ i
    · rw [Nat.sub_add_cancel low]
    · simp [low]
  simp only [keep, w64, BitVec.getLsbD_and, BitVec.getLsbD_ofNat, hi, decide_true, Bool.true_and, mask, aligned]
  by_cases inside : i < 48
  · simp [inside, Bool.and_comm]
  · simp [high (Nat.not_lt.1 inside)]

theorem wf_low16 (x : Word) : wf x 15 0 = x.toNat % 65536 := rfl

theorem Core.enter_eq_entered (k : Core) (l cause : Nat) (faultv : Word) (restart : BitVec 48) (x offset : Nat) :
    k.enter l cause faultv restart x offset = k.entered l cause faultv restart x offset := by
  have flag (b : Bool) (n : Nat) : b.toNat * n = if b then n else 0 := by cases b <;> simp
  have vector (a : Nat) : BitVec.ofNat 48 (a * 512 + offset) = pcOf (a * 512 + offset) := by
    rw [← pcOf_natCast]
    simp only [Nat.cast_add, Nat.cast_mul, Nat.cast_ofNat]
  unfold Core.enter Core.entered
  cases k.slot <;>
    simp only [keep_maskAddr restart.isLt, wf_low16, flag, vector, Option.isSome_none, Option.isSome_some, Bool.toNat_true,
      Bool.toNat_false, if_true, Bool.false_eq_true, if_false, Nat.zero_div, Nat.zero_mul]

theorem excCause_eq (esc shd : Bool) (tgt : Nat) (e : Exc) :
    excCause esc shd tgt e = causeWord false esc shd tgt e.ecode.toNat e.code.toNat := by
  cases esc <;> cases shd <;> simp [excCause, causeWord]

theorem intCause_eq (tgt n : Nat) : intCause tgt n = causeWord true false false tgt 0 n := by
  simp [intCause, causeWord]

/-! ### The statement -/

@[simp] theorem State.toBeat_core (s : State) (d b c : Nat) : (s.toBeat d b).core c = s.core c := rfl

theorem coreBoot_of_lt {c : Nat} (h : c < 1048576) : coreBoot c = false := decide_eq_false (Nat.not_le.2 h)

/-- The target level of an exception (R172). -/
theorem targetLevel_eq (boot : Bool) (code : BitVec 16) (level : Nat) :
    targetLevel boot code.toNat level = if boot then 3 else if code = 0x0F ∧ level ≠ 0 then 3 else 1 := by
  have code15 : (code.toNat = causeSyscall) ↔ code = 0x0F := BitVec.toNat_inj (y := 0x0F#16)
  simp [targetLevel, code15]

/-- The target level of an interrupt (R172). -/
theorem intTarget_eq (boot : Bool) (n : Nat) : intTarget boot n = if boot ∨ n = 4 then 3 else 1 := by
  simp [intTarget]

/-- Entry at level `l`, and the core in the handler. -/
theorem State.enterAt_eq (s : State) (c l cause : Nat) (faultv : Word) (restart : BitVec 48) (x offset : Nat) :
    s.enterAt c l cause faultv restart x offset =
      ((s.toBeat (coreDomain c) (x + (s.core c).fcnt)).landEntry c (x + 7)).modCore c (fun k =>
        k.entered l cause faultv restart x offset) :=
  State.modCore_congr _ _ _ _ fun k => k.enter_eq_entered l cause faultv restart x offset

section
variable {s : State} {c : CoreId} {e : Exc} (he : (s.core c).exc = some e)
include he

/-- EXCEPTION_ENTRY of an exception that no shadow defers: entry at the level `m`, or a double fault where that is M and live (R188,
R189). -/
theorem exec_exceptionEntry (hd : e.deferred = false) (hrun : s.running c = true) {tgt : Nat}
    (ht : targetLevel (coreBoot c) e.code.toNat ((s.landEntry c e.x).core c).level = tgt) :
    let u := s.landEntry c e.x
    let k := u.core c
    let l := Nat.max tgt k.level
    let esc : Bool := l = 1 && wb k.stat 14
    let m := if esc then 3 else l
    exec (.exceptionEntry c) s = .next (if m = 3 && wb k.stat 15 then u.doubleFault c
      else u.enterAt c m (excCause esc e.shd tgt e) e.faultv e.restart e.x (if esc then 0x100 else 0)) := by
  subst ht
  intro u k l esc m
  change execExceptionEntry c s = _
  simp only [execExceptionEntry, he, hd, hrun, Bool.not_true, Bool.or_self, Bool.false_eq_true, if_false]
  exact (apply_ite _ _ _ _).symm

/-- DEFERRED_EXCEPTION: what the core waits for is recognised after its shadow. -/
theorem exec_deferredException (hd : e.deferred = true) :
    let x := (s.core c).shadow + 1
    ∃ t, exec (.deferredException c) s = .next t ∧ (t.core c).exc = some { e with deferred := false, shd := true, x := x } := by
  intro x
  change ∃ t, execDeferredException c s = .next t ∧ _
  simp only [execDeferredException, he, hd, Bool.not_true, Bool.false_eq_true, if_false]
  exact ⟨_, rfl, by rw [State.toBeat_core, State.modCore_eq, State.setCore_core_same]⟩

end

/-- INTERRUPT_ENTRY at an eligible boundary of a core that nothing else holds (R183). -/
theorem exec_interruptEntry {s : State} {c : CoreId} (hrun : s.running c = true)
    (hstop : coreBoot c = false → s.stopAsked (clusterOf c) = false) (hx : (s.core c).xfer = none) (hm : (s.core c).move = none) :
    let b := Nat.max (s.beat (coreDomain c)) (s.core c).next
    let u := s.landAll c ((s.core c).active b)
    (s.core c).absent ((s.core c).active b) = none → (u.core c).boundary b = true →
      ∀ n l, (u.core c).interrupt (coreBoot c) = some (n, l) → exec (.interruptEntry c) s =
        .next (u.enterAt c l (intCause (intTarget (coreBoot c) n) n) 0 (u.core c).pc ((u.core c).active b) 0x080) := by
  intro b u habsent hb n l hi
  have stays : (!coreBoot c && s.stopAsked (clusterOf c)) = false := by
    cases hc : coreBoot c
    · exact hstop hc
    · rfl
  change execInterruptEntry c s = _
  simp only [execInterruptEntry, hrun, stays, hx, hm, Bool.not_true, Bool.false_eq_true, if_false, Option.isSome_none]
  rw [habsent, hb, State.takeInterrupt, hi]
  rfl

/-- Settles O22: each command is one branch of its definition, entry at a level is the save set written and the core at its vector, and a
double fault is the entry to level M while that is live. -/
theorem handlerEntries : Obligations.HandlerEntries := by
  unfold Obligations.HandlerEntries
  refine ⟨fun s c => ?entries, fun s c e hc he hd hrun => ?doubleFault⟩
  case entries =>
    intro boot enters
    refine ⟨fun e he hd hrun => ?exception, ?interrupt, fun e he hd => exec_deferredException he hd⟩
    case exception =>
      intro u lvl tgt l esc free
      have single : (decide ((if esc then 3 else l) = 3) && wb (u.core c).stat 15) = false := by
        cases hl : wb (u.core c).stat 15
        · exact Bool.and_false _
        · have : ¬(l = 3 ∨ esc = true) := fun h => Bool.false_ne_true ((free h).symm.trans hl)
          rw [Bool.and_true, decide_eq_false_iff_not, if_neg fun h => this (.inr h)]
          exact fun h => this (.inl h)
      have entered := exec_exceptionEntry he hd hrun (tgt := tgt) (targetLevel_eq _ _ _)
      rw [entered.trans (congrArg _ (if_neg (ne_true_of_eq_false single))), State.enterAt_eq, excCause_eq]
    case interrupt =>
      intro b a u n l hrun hstop hx hm habsent hb hi
      rw [exec_interruptEntry hrun hstop hx hm habsent hb n l hi, intCause_eq, intTarget_eq, State.enterAt_eq]
      rfl
  case doubleFault =>
    intro u lvl tgt l top live
    have ridge : coreBoot c = false := coreBoot_of_lt hc
    have target : targetLevel (coreBoot c) e.code.toNat (u.core c).level = tgt := by
      rw [ridge, targetLevel_eq]
      rfl
    have double : (decide ((if (decide (l = 1) && wb (u.core c).stat 14) then 3 else l) = 3) && wb (u.core c).stat 15) = true := by
      rcases top with h | ⟨h, h14⟩ <;> simp [*]
    rw [(exec_exceptionEntry he hd hrun target).trans (congrArg _ (if_pos double)), State.doubleFault, ridge]
    rfl

end Sys2Proof.Machine
end

section
/-! SUPPORT. What a result does when it takes effect, said once: it changes its core, which stays where it stands, or its core's cluster. So
results in flight leave everything else alone, and what they make of their core that core alone decides. -/

namespace Sys2Proof.Machine

/-! ### Where a core stands -/

/-- From `k` to `q` a core stays at its instruction, and in what holds it there. -/
structure Core.StaysAt (k q : Core) : Prop where
  pc : q.pc = k.pc
  exc : q.exc = k.exc
  frozen : q.frozen = k.frozen
  next : q.next = k.next
  xfer : q.xfer = k.xfer
  move : q.move = k.move

namespace Core.StaysAt

theorem refl (k : Core) : k.StaysAt k := ⟨rfl, rfl, rfl, rfl, rfl, rfl⟩

theorem trans {k q t : Core} (h : k.StaysAt q) (h' : q.StaysAt t) : k.StaysAt t :=
  ⟨h'.pc.trans h.pc, h'.exc.trans h.exc, h'.frozen.trans h.frozen, h'.next.trans h.next, h'.xfer.trans h.xfer, h'.move.trans h.move⟩

theorem of_changesPalette {k q : Core} (h : k.ChangesPalette q) : k.StaysAt q :=
  ⟨by rw [h], by rw [h], by rw [h], by rw [h], by rw [h], by rw [h]⟩

theorem setS (k : Core) (r : Reg) (v : Word) : k.StaysAt (k.setS r v) := by
  unfold Core.setS
  split
  · exact refl k
  · exact ⟨rfl, rfl, rfl, rfl, rfl, rfl⟩

end Core.StaysAt

/-! ### What a result does when it takes effect -/

/-- What `f` does to a state that has core `c` as `s` has it: it changes that core, which stays where it is, or the core's cluster. -/
inductive State.LandsAs (s : State) (c : Nat) (f : State → State) : Prop
  | core (g : Core → Core) (eq : ∀ t, t.core c = s.core c → f t = t.modCore c g) (stays : (s.core c).StaysAt (g (s.core c)))
  | cluster (eq : ∀ t, t.core c = s.core c →
      ∃ cl, f t = t.setCluster (clusterOf c) cl ∧ cl.phase = (t.cluster (clusterOf c)).phase)
  | same (eq : ∀ t, t.core c = s.core c → f t = t)

/-- A write of a system register is one of its core, or of the cluster's slot maps. -/
theorem State.landsAs_sysWrite (s : State) (c sr : Nat) (v clr : Word) (lvl at_ : Nat) :
    s.LandsAs c (fun t => t.sysWrite c sr v clr lvl at_) := by
  have palette := Core.StaysAt.of_changesPalette (Core.ChangesPalette.canvasTo (s.core c) at_)
  fun_cases State.sysWrite s c sr v clr lvl at_
  case case8 | case9 | case10 | case11 | case12 | case13 | case14 | case15 | case16 | case17 => exact .cluster fun t _ => ⟨_, rfl, rfl⟩
  case case35 =>
    refine .same fun t _ => ?_
    unfold State.sysWrite
    split
    case h_35 => rfl
    all_goals exact absurd rfl ‹_›
  all_goals
    apply State.LandsAs.core
    case eq =>
      intro t _
      simp only [State.sysWrite]
      rfl
  case case4 => exact palette.trans ⟨rfl, rfl, rfl, rfl, rfl, rfl⟩
  all_goals exact ⟨rfl, rfl, rfl, rfl, rfl, rfl⟩

theorem State.landsAs_land1 (s : State) (c : Nat) (p : Pend) : s.LandsAs c (fun t => t.land1 c p) := by
  cases hd : p.dst with
  | sreg r => exact .core (fun k => k.setS r p.val) (fun t _ => by rw [State.land1, hd]) (.setS _ r _)
  | sys sr clr lvl =>
    have eq (t : State) (ht : t.core c = s.core c) : t.land1 c p =
        if isLoopReg sr.toNat && (s.core c).loopSeen.any (fun e => p.due ≤ e.1) then
          t.modCore c (fun k => { k with loopSeen := k.loopSeen.map (loopWrite sr.toNat p.due p.val) })
        else t.sysWrite c sr.toNat p.val clr lvl.toNat (p.due + (s.core c).fcnt) := by
      simp only [State.land1, hd, ht]
    by_cases seen : (isLoopReg sr.toNat && (s.core c).loopSeen.any (fun e => p.due ≤ e.1)) = true
    · exact .core _ (fun t ht => (eq t ht).trans (if_pos seen)) ⟨rfl, rfl, rfl, rfl, rfl, rfl⟩
    · have written (t : State) (ht : t.core c = s.core c) := (eq t ht).trans (if_neg seen)
      cases s.landsAs_sysWrite c sr.toNat p.val clr lvl.toNat (p.due + (s.core c).fcnt) with
      | core g eq stays => exact .core g (fun t ht => (written t ht).trans (eq t ht)) stays
      | cluster eq => exact .cluster fun t ht => (written t ht).symm ▸ eq t ht
      | same eq => exact .same fun t ht => (written t ht).trans (eq t ht)
  | fflags =>
    exact .core (fun k => { k with fctl := k.fctl ||| keep 0x1F p.val }) (fun t _ => by rw [State.land1, hd])
      ⟨rfl, rfl, rfl, rfl, rfl, rfl⟩

/-! ### What such a step keeps -/

/-- From `s` to `t` core `c` has changed, and of the rest at most its cluster: not the other cores, nor what drives and times the module,
nor the answers on their way, the dictionary and DRAM. -/
structure State.Touches (c : Nat) (s t : State) : Prop where
  others : s.KeepsOthers c t
  running : s.KeepsRunning t
  stores : (t.answers, t.dict, t.dram) = (s.answers, s.dict, s.dram)

namespace State.Touches

variable {c : Nat} {s t u : State}

theorem refl (c : Nat) (s : State) : s.Touches c s := ⟨.refl c s, .refl s, rfl⟩

theorem trans (h : s.Touches c t) (h' : t.Touches c u) : s.Touches c u :=
  ⟨h.others.trans h'.others, h.running.trans h'.running, h'.stores.trans h.stores⟩

theorem answers (h : s.Touches c t) : t.answers = s.answers := congrArg (·.1) h.stores
theorem dict (h : s.Touches c t) : t.dict = s.dict := congrArg (·.2.1) h.stores
theorem dram (h : s.Touches c t) : t.dram = s.dram := congrArg (·.2.2) h.stores

theorem setCore (c : Nat) (s : State) (k : Core) : s.Touches c (s.setCore c k) := ⟨.setCore c s k, .setCore s c k, rfl⟩

end State.Touches

namespace State.LandsAs

variable {s t : State} {c : Nat} {f : State → State} (h : s.LandsAs c f)
include h

theorem staysAt : (s.core c).StaysAt ((f s).core c) := by
  cases h with
  | core g eq stays =>
    rw [eq s rfl, State.modCore_eq, State.setCore_core_same]
    exact stays
  | cluster eq =>
    obtain ⟨cl, hf, -⟩ := eq s rfl
    rw [hf]
    exact .refl _
  | same eq =>
    rw [eq s rfl]
    exact .refl _

theorem core_congr (ht : t.core c = s.core c) : (f t).core c = (f s).core c := by
  cases h with
  | core g eq stays => rw [eq t ht, eq s rfl, State.modCore_eq, State.modCore_eq, State.setCore_core_same, State.setCore_core_same, ht]
  | cluster eq =>
    obtain ⟨cl, hf, -⟩ := eq t ht
    obtain ⟨cl', hf', -⟩ := eq s rfl
    rw [hf, hf']
    exact ht
  | same eq => rw [eq t ht, eq s rfl, ht]

theorem touches : s.Touches c (f s) := by
  cases h with
  | core g eq stays =>
    rw [eq s rfl]
    exact .setCore c s _
  | cluster eq =>
    obtain ⟨cl, hf, phase⟩ := eq s rfl
    rw [hf]
    exact ⟨.setCluster c s _ cl, .setCluster s _ phase, rfl⟩
  | same eq =>
    rw [eq s rfl]
    exact .refl c s

end State.LandsAs

/-! ### Results that take effect one after another -/

theorem Core.StaysAt.foldl_land1 (c : Nat) (ps : List Pend) (s : State) :
    (s.core c).StaysAt ((ps.foldl (fun t p => t.land1 c p) s).core c) := by
  induction ps generalizing s with
  | nil => exact refl _
  | cons p ps ih => exact (s.landsAs_land1 c p).staysAt.trans (ih _)

theorem Core.StaysAt.settled (s : State) (c : Nat) : (s.core c).StaysAt ((s.settled c).core c) := by
  refine trans ?_ (foldl_land1 c _ _)
  rw [State.setCore_core_same]
  exact ⟨rfl, rfl, rfl, rfl, rfl, rfl⟩

theorem State.Touches.settled (c : Nat) (s : State) : s.Touches c (s.settled c) := by
  have foldl (ps : List Pend) (t : State) : t.Touches c (ps.foldl (fun t p => t.land1 c p) t) := by
    induction ps generalizing t with
    | nil => exact refl c t
    | cons p ps ih => exact (t.landsAs_land1 c p).touches.trans (ih _)
  exact (setCore c s _).trans (foldl _ _)

theorem State.foldl_land1_core_congr {c : Nat} (ps : List Pend) {s t : State} (h : t.core c = s.core c) :
    (ps.foldl (fun u p => u.land1 c p) t).core c = (ps.foldl (fun u p => u.land1 c p) s).core c := by
  induction ps generalizing s t with
  | nil => exact h
  | cons p ps ih => exact ih ((s.landsAs_land1 c p).core_congr h)

/-- The results that `which` picks make of core `c` what that core alone gives. -/
theorem State.landIf_core_congr {s t : State} {c : Nat} (h : t.core c = s.core c) (which : Pend → Bool) :
    (t.landIf c which).core c = (s.landIf c which).core c := by
  unfold State.landIf
  rw [h]
  exact State.foldl_land1_core_congr _ (by simp only [State.setCore_core_same])

theorem State.activeNow_congr {s t : State} {c : Nat} (hb : t.beat (coreDomain c) = s.beat (coreDomain c))
    (hs : (s.core c).StaysAt (t.core c)) (hf : (t.core c).fcnt = (s.core c).fcnt) : t.activeNow c = s.activeNow c := by
  unfold State.activeNow Core.active
  simp only [hb, hs.xfer, hs.move, hs.next, hs.frozen, hf]

theorem State.settled_core_congr {s t : State} {c : Nat} (hb : t.beat (coreDomain c) = s.beat (coreDomain c)) (h : t.core c = s.core c) :
    (t.settled c).core c = (s.settled c).core c := by
  have now : t.activeNow c = s.activeNow c := State.activeNow_congr hb (h ▸ Core.StaysAt.refl _) (congrArg _ h)
  unfold State.settled State.landAll
  rw [now, h]
  exact State.landIf_core_congr h _

/-- Where no result is picked the core stays as it is. -/
theorem State.landIf_core_of_none {s : State} {c : Nat} {which : Pend → Bool} (h : ∀ p ∈ (s.core c).pend, which p = false) :
    (s.landIf c which).core c = s.core c := by
  have picked : (s.core c).pend.filter which = [] := List.filter_eq_nil_iff.2 fun p hp => ne_true_of_eq_false (h p hp)
  have left : (s.core c).pend.filter (fun p => !which p) = (s.core c).pend := List.filter_eq_self.2 fun p hp => by rw [h p hp]; rfl
  simp only [State.landIf, picked, left, List.foldl_nil, State.setCore_core_same]

/-- Results that were due have taken effect: a core that stays where it stands has none more. -/
theorem State.settled_core_again {s : State} {c : Nat} {k : Core} (hs : ((s.settled c).core c).StaysAt k)
    (hp : k.pend = ((s.settled c).core c).pend) (hf : k.fcnt = ((s.settled c).core c).fcnt) :
    (((s.settled c).setCore c k).settled c).core c = k := by
  have core : ((s.settled c).setCore c k).core c = k := State.setCore_core_same _ _ _
  have fcnt : k.fcnt = (s.core c).fcnt := hf.trans (State.landAll_fcnt s c _)
  have now : ((s.settled c).setCore c k).activeNow c = s.activeNow c :=
    State.activeNow_congr ((State.KeepsOthers.settled c s).beat _) (core.symm ▸ (Core.StaysAt.settled s c).trans hs) (core.symm ▸ fcnt)
  rw [State.settled, State.landAll, now]
  refine (State.landIf_core_of_none fun p hpk => ?_).trans core
  rw [core] at hpk ⊢
  rw [hp, State.settled, State.landAll_pend] at hpk
  rw [fcnt]
  simpa only [Bool.not_eq_true'] using (List.mem_filter.1 hpk).2

end Sys2Proof.Machine
end

section
/-! O25: error answers to loads, to stores, signals and commands, and to entries of a store path. -/

namespace Sys2Proof.Machine

/-! ### Delivery (R278 to R280) -/

theorem pathOf_eq (c path : Nat) : pathOf c path = if c < 1048576 then path else path - 22 := by
  unfold pathOf
  by_cases h : c < 1048576
  · rw [coreBoot_of_lt h, if_pos h]
    rfl
  · have boot : coreBoot c = true := decide_eq_true (Nat.not_lt.1 h)
    rw [boot, if_neg h]
    rfl

theorem State.delivered_fst (s : State) (c : Nat) (a : Ans) (arrival : Nat) (contended : Bool) :
    (s.delivered c a arrival contended).1 = s.deliveredAt c a.t (dueAt a c) arrival a.guarded contended := by
  have due : a.due c = dueAt a c := congrArg (a.t + ·) (pathOf_eq c a.path)
  simp only [State.delivered, State.delivery, State.deliveredAt, due]
  by_cases plain : (a.guarded && !contended) = true
  · have guard : a.guarded = true ∧ contended = false := by simpa using plain
    rw [if_pos plain]
    simp only [guard, true_and]
    cases s.slips (coreDomain c) a.t (dueAt a c)
    · simp
    · by_cases late : dueAt a c < arrival
      · simp [late, Nat.max_eq_right late.le]
      · simp [late, Nat.max_eq_left (Nat.not_lt.1 late)]
  · have guard : ¬(a.guarded = true ∧ contended = false) := by simpa using plain
    rw [if_neg plain, if_neg fun h => guard ⟨h.1, h.2.1⟩]

/-! ### A stopped generator, and the rim of a napping spur (R276, R392) -/

/-- From `s` to `t` the timing domains, what drives the module and the states of the spurs are the same. -/
structure State.TimedAs (s t : State) : Prop where
  running : s.KeepsRunning t
  domains : t.domains = s.domains
  spurs : ∀ d, t.spurState d = s.spurState d

namespace State.TimedAs

variable {s t u : State} (h : s.TimedAs t)

theorem of_touches {c : Nat} (h : s.Touches c t) : s.TimedAs t where
  running := h.running
  domains := h.others.domains
  spurs d := by rw [State.spurState, State.spurState, State.obj, State.obj, h.dict]

/-- The count of late answers is an object of its own (R280). -/
theorem lateCount (s : State) (c : Nat) (late : Bool) : s.TimedAs (s.lateCount c late) := by
  unfold State.lateCount
  split
  · refine ⟨⟨rfl, fun _ => rfl, fun _ => rfl⟩, rfl, fun d => ?_⟩
    have other : okey 0x2011 0 ≠ okey 0x8000 (ridgeOf c + 1) := by
      unfold okey
      omega
    rw [State.spurState, State.count, State.setObj_obj_ne _ _ _ _ _ _ other]
    rfl
  · exact ⟨.refl s, rfl, fun _ => rfl⟩

include h

theorem trans (h' : t.TimedAs u) : s.TimedAs u :=
  ⟨h.running.trans h'.running, h'.domains.trans h.domains, fun d => (h'.spurs d).trans (h.spurs d)⟩

theorem domain (d : Nat) : t.domain d = s.domain d := by rw [State.domain, h.domains]; rfl

theorem beat (d : Nat) : t.beat d = s.beat d := congrArg Domain.beat (h.domain d)

theorem rimHolds (d : Nat) : t.rimHolds d = s.rimHolds d := by rw [State.rimHolds, h.spurs, h.running.power]; rfl

theorem rimKeeps (c : Nat) : t.rimKeeps c = s.rimKeeps c := by
  rw [State.rimKeeps, h.rimHolds, h.spurs, h.running.phase]
  rfl

end State.TimedAs

section
variable {s : State} {d : Nat} (awake : (s.domain d).cad ≠ 2)
include awake

/-- A generator that runs is not started again. -/
theorem State.wakes_of_awake : s.wakes d = s := by
  rw [State.wakes, State.restartDomain, if_neg awake, ite_self]

theorem State.hearsAt_of_awake (x : Nat) : s.hearsAt d x = if d < 1024 && s.rimHolds d then s else s.toBeat d x := by
  rw [State.hearsAt, State.wakes_of_awake awake]

end

theorem State.hears_of_awake {s : State} {c : Nat} (awake : (s.domain (coreDomain c)).cad ≠ 2) :
    s.hears c = if s.rimKeeps c then s else s.settled c := by
  rw [State.hears, State.wakes_of_awake awake]

theorem State.touches_hears {s : State} {c : Nat} (awake : (s.domain (coreDomain c)).cad ≠ 2) : s.Touches c (s.hears c) := by
  rw [State.hears_of_awake awake]
  split
  · exact .refl c s
  · exact .settled c s

/-- A domain that is told of something leaves it as it is what each rim keeps. -/
theorem State.hearsAt_rimKeeps {s : State} {d : Nat} (awake : (s.domain d).cad ≠ 2) (x c : Nat) :
    (s.hearsAt d x).rimKeeps c = s.rimKeeps c := by
  rw [State.hearsAt_of_awake awake]
  split <;> rfl

/-- Where the rim keeps what is for a core, its spur's beats stand. -/
theorem State.hearsAt_of_rimKeeps {s : State} {c : Nat} (awake : (s.domain (coreDomain c)).cad ≠ 2) (rim : s.rimKeeps c = true)
    (x : Nat) : s.hearsAt (coreDomain c) x = s := by
  simp only [State.rimKeeps, Bool.and_eq_true, Bool.not_eq_true'] at rim
  obtain ⟨⟨ridge, holds⟩, -⟩ := rim
  have spur : coreDomain c = spurOf c := by rw [coreDomain, ridge]; rfl
  have few : spurOf c < 1024 := by
    have : c < 1048576 := Nat.not_le.1 (of_decide_eq_false ridge)
    unfold spurOf
    omega
  rw [State.hearsAt_of_awake awake, spur, holds, decide_eq_true few]
  rfl

theorem State.TimedAs.hearsAt {s t : State} (h : s.TimedAs t) {d : Nat} (awake : (s.domain d).cad ≠ 2) (x : Nat) :
    (s.hearsAt d x).TimedAs (t.hearsAt d x) := by
  rw [State.hearsAt_of_awake awake, State.hearsAt_of_awake ((h.domain d).symm ▸ awake), h.rimHolds]
  split
  · exact h
  · have domains : (t.toBeat d x).domains = (s.toBeat d x).domains := by
      simp only [State.toBeat, State.modDomain_eq, State.setDomain, h.domain, h.domains]
    refine ⟨⟨h.running.power, h.running.phase, fun j => ?_⟩, domains, h.spurs⟩
    rw [State.domain, State.domain, domains]

/-! ### A core is told of an asynchronous error (R172, R201, R202) -/

/-- The core that hears of something: the rim of a napping spur keeps it as it is, else its due results take effect. -/
def State.hearing (s : State) (c : Nat) : Core := (if s.rimKeeps c then s else s.settled c).core c

/-- The core with the error recorded, and its interrupt set: in its rim's mask where the rim keeps it. -/
def Core.told (k : Core) (rim : Bool) (kind : Nat) (code : BitVec 16) (addr : Word) : Core :=
  let q := k.asyncError kind code addr
  if rim then { q with held := q.held ||| 4 } else { q with stat := q.stat ||| w64 (2 ^ 42) }

/-- The record of an error leaves the core where it stands, with the results in flight. -/
theorem Core.asyncError_keeps (k : Core) (kind : Nat) (code : BitVec 16) (addr : Word) :
    let q := k.asyncError kind code addr
    k.StaysAt q ∧ q.pend = k.pend ∧ q.fcnt = k.fcnt := by
  unfold Core.asyncError
  split <;> exact ⟨⟨rfl, rfl, rfl, rfl, rfl, rfl⟩, rfl, rfl⟩

/-- The record (R201, R202) and the interrupt of a core that has been told. -/
theorem Core.told_spec (k : Core) (rim : Bool) (kind : Nat) (code : BitVec 16) (addr : Word) :
    let q := k.told rim kind code addr
    (q.aerr, q.aadr) = (if wb k.aerr 63 then (wsetb k.aerr 62 true, k.aadr) else (w64 (2 ^ 63 + kind * 2 ^ 60 + code.toNat), addr))
      ∧ (if rim then q.held = k.held ||| 4 ∧ q.stat = k.stat else q.stat = k.stat ||| w64 (2 ^ 42) ∧ q.held = k.held)
      ∧ q.s = k.s ∧ q.pc = k.pc ∧ q.exc = k.exc := by
  unfold Core.told Core.asyncError
  cases wb k.aerr 63 <;> cases rim <;> simp only [Bool.false_eq_true, if_true, if_false, and_self]

theorem State.hearing_congr {s t : State} (h : s.TimedAs t) {c : Nat} (hc : t.core c = s.core c) : t.hearing c = s.hearing c := by
  rw [State.hearing, State.hearing, h.rimKeeps]
  split
  · exact hc
  · exact State.settled_core_congr (h.beat _) hc

section
variable {s : State} {c : Nat} (awake : (s.domain (coreDomain c)).cad ≠ 2) (kind : Nat) (code : BitVec 16) (addr : Word)
include awake

theorem State.touches_asyncError : s.Touches c (s.asyncError c kind code addr) := by
  have recorded := (State.touches_hears awake).trans (.setCore c _ (((s.hears c).core c).asyncError kind code addr))
  rw [State.asyncError, State.setIp]
  split
  · exact recorded.trans (.setCore c _ _)
  · have still := (State.TimedAs.of_touches recorded).domain (coreDomain c)
    exact (recorded.trans (State.touches_hears (still.symm ▸ awake))).trans (.setCore c _ _)

theorem State.asyncError_core : (s.asyncError c kind code addr).core c = (s.hearing c).told (s.rimKeeps c) kind code addr := by
  have recorded := State.TimedAs.of_touches
    ((State.touches_hears awake).trans (.setCore c _ (((s.hears c).core c).asyncError kind code addr)))
  have still := (recorded.domain (coreDomain c)).symm ▸ awake
  rw [State.asyncError, State.setIp, State.modCore_eq, recorded.rimKeeps, State.hears_of_awake still, recorded.rimKeeps, State.hearing,
    State.hears_of_awake awake]
  cases s.rimKeeps c with
  | true => simp only [if_true, State.modCore_eq, State.setCore_core_same]; rfl
  | false =>
    simp only [Bool.false_eq_true, if_false, State.modCore_eq, State.setCore_core_same]
    obtain ⟨stays, pend, fcnt⟩ := ((s.settled c).core c).asyncError_keeps kind code addr
    rw [State.settled_core_again stays pend fcnt]
    rfl

end

/-- Each of several cores is told, and nothing else changes but their clusters. -/
theorem State.foldl_asyncError (code : BitVec 16) (kind : Contrib → Nat) {who : List Contrib} (nodup : (who.map (·.core)).Nodup)
    {s : State} (awake : ∀ x ∈ who, (s.domain (coreDomain x.core)).cad ≠ 2) :
    let t := who.foldl (fun t x => t.asyncError x.core (kind x) code x.low) s
    (∀ x ∈ who, t.core x.core = (s.hearing x.core).told (s.rimKeeps x.core) (kind x) code x.low)
      ∧ (∀ j, (∀ x ∈ who, x.core ≠ j) → t.core j = s.core j) ∧ t.answers = s.answers ∧ t.dram = s.dram := by
  induction who generalizing s with
  | nil => exact ⟨fun _ h => absurd h List.not_mem_nil, fun _ _ => rfl, rfl, rfl⟩
  | cons y ys ih =>
    obtain ⟨fresh, nodup⟩ := List.nodup_cons.1 nodup
    have apart (x : Contrib) (hx : x ∈ ys) : x.core ≠ y.core := fun he => fresh (List.mem_map.2 ⟨x, hx, he⟩)
    have first := awake y List.mem_cons_self
    have touched := State.touches_asyncError first (kind y) code y.low
    have timed := State.TimedAs.of_touches touched
    obtain ⟨told, others, answers, dram⟩ := ih nodup (s := s.asyncError y.core (kind y) code y.low) fun x hx =>
      (timed.domain _).symm ▸ awake x (List.mem_cons_of_mem y hx)
    refine ⟨fun x hx => ?_, fun j hj => ?_, answers.trans touched.answers, dram.trans touched.dram⟩
    · rcases List.mem_cons.1 hx with rfl | hx
      · exact (others _ apart).trans (State.asyncError_core first _ _ _)
      · rw [List.foldl_cons, told x hx, timed.rimKeeps, State.hearing_congr timed (touched.others.core _ (apart x hx))]
    · exact (others j fun x hx => hj x (List.mem_cons_of_mem y hx)).trans
        (touched.others.core j fun he => hj y List.mem_cons_self he.symm)

/-! ### An answer is taken, and its domain told -/

/-- The count of a late answer is in the dictionary alone. -/
theorem State.lateCount_keeps (s : State) (c : Nat) (late : Bool) :
    (s.lateCount c late).cores = s.cores ∧ (s.lateCount c late).answers = s.answers ∧ (s.lateCount c late).dram = s.dram := by
  unfold State.lateCount
  split <;> exact ⟨rfl, rfl, rfl⟩

/-- The restart of a generator leaves cores and answers. -/
theorem State.wakes_keeps (s : State) (d : Nat) : (s.wakes d).cores = s.cores ∧ (s.wakes d).answers = s.answers := by
  unfold State.wakes State.restartDomain
  split
  · exact ⟨rfl, rfl⟩
  · split
    · dsimp only
      split <;> exact ⟨rfl, rfl⟩
    · exact ⟨rfl, rfl⟩

/-- The state in which the first answer has been taken, the late one counted, and domain `d` told of it in beat `x`. -/
def State.answerTaken (s : State) (rest : List Ans) (c : Nat) (late : Bool) (d x : Nat) : State :=
  ({ s with answers := rest }.lateCount c late).hearsAt d x

section
variable {s : State} {d : Nat} (awake : (s.domain d).cad ≠ 2) (rest : List Ans) (c : Nat) (late : Bool) (x : Nat)
include awake

theorem State.answerTaken_timedAs : (s.hearsAt d x).TimedAs (s.answerTaken rest c late d x) :=
  have without : s.TimedAs { s with answers := rest } := ⟨⟨rfl, fun _ => rfl, fun _ => rfl⟩, rfl, fun _ => rfl⟩
  (without.trans (.lateCount _ c late)).hearsAt awake x

theorem State.answerTaken_awake : ((s.answerTaken rest c late d x).domain d).cad ≠ 2 := by
  rw [(State.answerTaken_timedAs awake rest c late x).domain, State.hearsAt_of_awake awake]
  split
  · exact awake
  · rw [(State.KeepsRunning.toBeat s d x).cad]
    exact awake

theorem State.answerTaken_keeps : (s.answerTaken rest c late d x).cores = s.cores ∧ (s.answerTaken rest c late d x).answers = rest
    ∧ (s.answerTaken rest c late d x).dram = s.dram := by
  have kept := State.lateCount_keeps { s with answers := rest } c late
  have same := (State.TimedAs.lateCount { s with answers := rest } c late).domain d
  rw [State.answerTaken, State.hearsAt_of_awake (same.symm ▸ awake)]
  split <;> exact kept

theorem State.answerTaken_core (j : Nat) : (s.answerTaken rest c late d x).core j = s.core j :=
  congrArg (mget coreDef · j) (State.answerTaken_keeps awake rest c late x).1

/-- The core that is told, as the state before the answer gives it. -/
theorem State.answerTaken_hearing {j : Nat} (hj : coreDomain j = d) : (s.answerTaken rest c late d x).rimKeeps j = s.rimKeeps j ∧
    (s.answerTaken rest c late d x).hearing j = (if s.rimKeeps j then s else (s.hearsAt (coreDomain j) x).settled j).core j := by
  subst hj
  have timed := State.answerTaken_timedAs awake rest c late x
  have before : (s.hearsAt (coreDomain j) x).rimKeeps j = s.rimKeeps j := State.hearsAt_rimKeeps awake x j
  have core : (s.hearsAt (coreDomain j) x).core j = s.core j := by
    rw [State.hearsAt_of_awake awake]
    split <;> rfl
  refine ⟨(timed.rimKeeps j).trans before, ?_⟩
  rw [State.hearing_congr timed ((State.answerTaken_core awake rest c late x j).trans core.symm), State.hearing, before]
  split
  next rim => rw [State.hearsAt_of_rimKeeps awake rim]
  next => rfl

end

/-- ASYNC_ERROR_ANSWER. -/
theorem exec_asyncErrorAnswer {s : State} {c : CoreId} {arrival : Nat} {contended : Bool} {a : Ans} {rest : List Ans} {kind : Nat}
    {addr : Word} (h : takeFirst (fun a => a.dst == .core c && a.code != 0 && a.asyncKind.isSome) s.answers = some (a, rest))
    (hk : a.asyncKind = some (kind, addr)) :
    let x := s.deliveredAt c a.t (dueAt a c) arrival a.guarded contended
    ∃ late, exec (.asyncErrorAnswer c arrival contended) s =
      .next ((s.answerTaken rest c late (coreDomain c) x).asyncError c kind a.code addr) := by
  intro x
  refine ⟨(s.delivered c a arrival contended).2, ?_⟩
  rw [show x = _ from (s.delivered_fst c a arrival contended).symm]
  change execAsyncErrorAnswer c s arrival contended = _
  simp only [execAsyncErrorAnswer, h, hk]
  rfl

/-- STORE_PATH_ERROR_ANSWER. -/
theorem exec_storePathErrorAnswer {s : State} {k : ClusterId} {arrival : Nat} {contended : Bool} {a : Ans} {rest : List Ans}
    {who : List Contrib} (h : takeFirst (pathAnswer k) s.answers = some (a, rest)) (hd : a.dst = .storePath k who) :
    let x := s.deliveredAt (16 * k.val) a.t (dueAt a (16 * k.val)) arrival a.guarded contended
    ∃ late, exec (.storePathErrorAnswer k arrival contended) s = .next (who.foldl
      (fun t y => t.asyncError y.core y.tile.toNat a.code y.low) (s.answerTaken rest (16 * k.val) late (k.val / 64) x)) := by
  intro x
  refine ⟨(s.delivered (16 * k.val) a arrival contended).2, ?_⟩
  rw [show x = _ from (s.delivered_fst (16 * k.val) a arrival contended).symm]
  change execStorePathErrorAnswer k s arrival contended = _
  simp only [execStorePathErrorAnswer, h, hd]
  rfl

/-! ### A load is answered with an error (R117, R140, R173) -/

theorem Core.moveWhile_of_none {k : Core} (h : k.move = none) (go : Nat → Bool) (n : Nat) : k.moveWhile go n = k := by
  cases n with
  | zero => rfl
  | succ n => rw [Core.moveWhile, h]

theorem State.xferGo_of_none {s : State} {c : Nat} (h : (s.core c).xfer = none) (b : Nat) : s.xferGo c b = s := by
  have idle : s.xferTo c b xferActs = s := by
    rw [show xferActs = 79 + 1 from rfl]
    simp only [State.xferTo, h]
  rw [State.xferGo, idle, ite_self]

/-- The state in which core `c` recognises an error answer in beat `x`. -/
def State.errorTaken (s : State) (rest : List Ans) (c : Nat) (late : Bool) (x : Nat) : State :=
  (((({ s with answers := rest }.wakes (coreDomain c)).lateCount c late).toBeat (coreDomain c) x).modCore c
    (fun k => k.moveWhile (fun y => y < x) moveActs)).xferGo c x

theorem State.errorTaken_keeps {s : State} {c : Nat} (hxfer : (s.core c).xfer = none) (hmove : (s.core c).move = none) (rest : List Ans)
    (late : Bool) (x : Nat) : (s.errorTaken rest c late x).core c = s.core c ∧ (s.errorTaken rest c late x).answers = rest := by
  have woken := State.wakes_keeps { s with answers := rest } (coreDomain c)
  obtain ⟨cores, answers, -⟩ := State.lateCount_keeps ({ s with answers := rest }.wakes (coreDomain c)) c late
  have core : (({ s with answers := rest }.wakes (coreDomain c)).lateCount c late).core c = s.core c :=
    congrArg (mget coreDef · c) (cores.trans woken.1)
  have idle : (s.core c).moveWhile (fun y => y < x) moveActs = s.core c := Core.moveWhile_of_none hmove _ _
  rw [State.errorTaken, State.modCore_eq, State.toBeat_core, core, idle,
    State.xferGo_of_none (by rw [State.setCore_core_same]; exact hxfer)]
  exact ⟨State.setCore_core_same _ _ _, answers.trans woken.2⟩

/-- ERROR_ANSWER to a load of a core that nothing else holds: the error is recognised, and results due by then take effect. -/
theorem exec_errorAnswer {s u : State} {c : CoreId} {arrival : Nat} {contended : Bool} {a : Ans} {rest : List Ans} {p : Pend}
    (hu : s.settled c = u) (taken : takeFirst (fun a => a.dst == .core c && a.code != 0 && a.isValue) u.answers = some (a, rest))
    (hexc : (u.core c).exc = none) (hxfer : (u.core c).xfer = none) (hmove : (u.core c).move = none)
    (hp : (u.core c).pend.find? (fun q => q.tag = some a.id) = some p) :
    let x := Nat.max (u.beat (coreDomain c)) (u.deliveredAt c a.t (dueAt a c) arrival a.guarded contended)
    ∃ late, exec (.errorAnswer c arrival contended) s =
      .next (((u.errorTaken rest c late x).setCore c ((u.core c).errorAt a p x)).settled c) := by
  intro x
  obtain ⟨late, hl⟩ : ∃ late, (u.delivered c a arrival contended).2 = late := ⟨_, rfl⟩
  have core := (State.errorTaken_keeps hxfer hmove rest late x).1
  have found : ((u.errorTaken rest c late x).core c).pend.find? (fun q => q.tag = some a.id) = some p := by rw [core, hp]
  refine ⟨late, ?_⟩
  change execErrorAnswer c s arrival contended = _
  simp only [execErrorAnswer, hu, hexc, taken, Option.isSome_none, Bool.false_eq_true, if_false, State.delivered_fst, hl]
  rw [State.errorTaken] at found core ⊢
  rw [found, core]

/-- The error is recognised at beat `e`: at the answer's `x`, or in a freeze at the first beat of its parity from there on (R117, R173). -/
theorem Core.errorAt_spec {k k' : Core} {a : Ans} {p : Pend} {x e : Nat} (hxfer : k.xfer = none) (hmove : k.move = none)
    (held : k.frozen = none ∧ e = x ∧ k' = k
      ∨ ∃ why f, k.frozen = some (why, f) ∧ e = sameParity f (Nat.max f x) ∧ k' = k.thaw f e) :
    let q := k.errorAt a p x
    q.exc = some
        { code := 0x0E, faultv := p.va, restart := k.pc, ecode := a.code, x := k'.active e
          deferred := k'.active e ≤ k.shadow && k.shadow != 0, shd := false }
      ∧ q.frozen = none ∧ q.fcnt = k'.fcnt ∧ q.pc = k.pc ∧ q.pend = k.pend.filter (fun q => q.tag ≠ some a.id) ∧ q.s = k.s := by
  have code : BitVec.ofNat 16 a.code.toNat = a.code := by simp
  rcases held with ⟨hf, rfl, rfl⟩ | ⟨why, f, hf, rfl, rfl⟩
  · simp only [Core.errorAt, hf, Core.stopXfer, hxfer, Core.cutMove, hmove, Core.raise, code, Option.isSome_none, Bool.false_eq_true,
      if_false, and_true]
    rfl
  · simp only [Core.errorAt, hf, hxfer, Core.raise, code]
    exact ⟨rfl, rfl, rfl, rfl, rfl, rfl⟩

/-- Where no present result is for a scalar register, that register stays. -/
theorem State.settled_sreg_of_none {s : State} {c : Nat} {r : Reg} (h : ∀ p ∈ (s.core c).pend, p.tag = none → p.dst ≠ .sreg r) :
    ((s.settled c).core c).sreg r = (s.core c).sreg r := by
  rw [State.settled, State.landAll_sreg]
  by_cases hr : r = 0
  · simp [hr, Core.sreg]
  · have unpicked : (s.core c).pend.filter
        (fun p => p.due ≤ s.activeNow c && p.present (s.core c).fcnt (s.activeNow c) && p.dst == .sreg r) = [] := by
      refine List.filter_eq_nil_iff.2 fun p hp hpick => ?_
      simp only [Pend.present, Bool.and_eq_true, Option.isNone_iff_eq_none, beq_iff_eq] at hpick
      exact h p hp hpick.1.2.1 hpick.2
    rw [if_neg hr, unpicked]
    rfl

/-! ### The statement -/

/-- Settles O25: a load's error is recognised at its core, whose due results then take effect; any other is told to one core, or to
each that merged into the entry, in a state that differs from the one before it in nothing that such a core hears by. -/
theorem errorAnswersAreReported : Obligations.ErrorAnswersAreReported := by
  unfold Obligations.ErrorAnswersAreReported
  intro s a rest recorded heard
  have hears {t : State} {c x kind : Nat} {addr : Word} (h : t.core c =
      ((if s.rimKeeps c then s else (s.hearsAt (coreDomain c) x).settled c).core c).told (s.rimKeeps c) kind a.code addr) :
      heard t c x kind addr := by
    have spec := Core.told_spec ((if s.rimKeeps c then s else (s.hearsAt (coreDomain c) x).settled c).core c)
      (s.rimKeeps c) kind a.code addr
    rw [← h] at spec
    exact spec
  refine ⟨fun c arrival contended p => ?load, fun c arrival contended kind addr taken hk awake => ?async,
    fun k arrival contended who taken hd cluster nodup awake => ?storePath⟩
  case load =>
    intro u k x taken hexc hxfer hmove hp at_ k1
    have held : k.frozen = none ∧ at_ = x ∧ k1 = k
        ∨ ∃ why f, k.frozen = some (why, f) ∧ at_ = sameParity f (Nat.max f x) ∧ k1 = k.thaw f at_ := by
      dsimp only [k1]
      dsimp only [at_]
      rcases k.frozen with _ | ⟨why, f⟩
      · exact .inl ⟨rfl, rfl, rfl⟩
      · exact .inr ⟨why, f, rfl, rfl, rfl⟩
    obtain ⟨late, run⟩ := exec_errorAnswer (s := s) rfl taken hexc hxfer hmove hp
    obtain ⟨exc, frozen, fcnt, pc, pend, regs⟩ := Core.errorAt_spec (a := a) (p := p) hxfer hmove held
    have answers := (State.errorTaken_keeps hxfer hmove rest late x).2
    generalize u.errorTaken rest c late x = v at run answers
    have core : (v.setCore c (k.errorAt a p x)).core c = k.errorAt a p x := State.setCore_core_same _ _ _
    have stays := Core.StaysAt.settled (v.setCore c (k.errorAt a p x)) c
    have left := State.landAll_pend (v.setCore c (k.errorAt a p x)) c
    rw [core] at stays left
    refine ⟨_, run, (State.Touches.settled c _).answers.trans answers, stays.exc.trans exc, stays.frozen.trans frozen, ?_,
      stays.pc.trans pc, fun q hq => ?_, fun r hr => ?_⟩
    · exact (State.landAll_fcnt _ c _).trans ((congrArg Core.fcnt core).trans fcnt)
    · rw [State.settled, left] at hq
      have kept := (List.mem_filter.1 hq).1
      rw [pend] at kept
      exact of_decide_eq_true (List.mem_filter.1 kept).2
    · rw [State.settled_sreg_of_none, core]
      · rw [Core.sreg, Core.sreg, regs]
      · rw [core, pend]
        exact fun q hq => hr q (List.mem_filter.1 hq).1
  case async =>
    obtain ⟨late, run⟩ := exec_asyncErrorAnswer (arrival := arrival) (contended := contended) taken hk
    generalize s.deliveredAt c a.t (dueAt a c) arrival a.guarded contended = x at run ⊢
    obtain ⟨-, answers, dram⟩ := State.answerTaken_keeps awake rest c late x
    obtain ⟨rim, hearing⟩ := State.answerTaken_hearing awake rest c late x rfl
    have still := State.answerTaken_awake awake rest c late x
    have touched := State.touches_asyncError still kind a.code addr
    refine ⟨_, run, touched.answers.trans answers, hears ?_, fun j hj => ?_, touched.dram.trans dram⟩
    · rw [State.asyncError_core still, rim, hearing]
    · exact (touched.others.core j hj).trans (State.answerTaken_core awake rest c late x j)
  case storePath =>
    have spur (x : Contrib) (hx : x ∈ who) : coreDomain x.core = k.val / 64 := by
      have inside : x.core < 1048576 := by
        have := cluster x hx
        omega
      rw [coreDomain, coreBoot_of_lt inside, if_neg Bool.false_ne_true, spurOf, ← cluster x hx]
      omega
    obtain ⟨late, run⟩ := exec_storePathErrorAnswer (arrival := arrival) (contended := contended) taken hd
    generalize s.deliveredAt (16 * k.val) a.t (dueAt a (16 * k.val)) arrival a.guarded contended = x at run ⊢
    obtain ⟨-, answers, dram⟩ := State.answerTaken_keeps awake rest (16 * k.val) late x
    have still := State.answerTaken_awake awake rest (16 * k.val) late x
    obtain ⟨told, others, answers', dram'⟩ := State.foldl_asyncError a.code (fun y => y.tile.toNat) nodup
      (s := s.answerTaken rest (16 * k.val) late (k.val / 64) x) fun y hy => (spur y hy).symm ▸ still
    refine ⟨_, run, answers'.trans answers, fun y hy => hears ?_, fun j hj => ?_, dram'.trans dram⟩
    · obtain ⟨rim, hearing⟩ := State.answerTaken_hearing awake rest (16 * k.val) late x (spur y hy)
      have kind : y.tile.toNat = if y.tile then 1 else 0 := by cases y.tile <;> rfl
      rw [told y hy, rim, hearing, kind]
    · exact (others j hj).trans (State.answerTaken_core awake rest (16 * k.val) late x j)

end Sys2Proof.Machine
end
